-- ==== Sys2Proof/Word.lean ====
section
/-!
DEFINITION. The word types of the HF214 and one update function for fixed-size tables.
Chapter 12 (R190, R191) gives the widths; where a chapter counts or measures (mm, ms, kg, places) the
model uses `Nat` or `Int`.
-/

namespace Sys2Proof

/-- One byte of a frame or record (R190). -/
abbrev Byte := BitVec 8

/-- A 64-bit ticket token (R144). -/
abbrev Token := BitVec 64

/-- A signed 48-bit count of µm: an accumulator, the rope travel, a virtual stop (R8, R32). -/
abbrev Travel := BitVec 48

/-- A halt index, 0 to 5 (R1); sequencer s belongs to halt s (chapter 7). -/
abbrev Halt := Fin 6

/-- A gate table index, 0 to 15 (R137). -/
abbrev GateId := Fin 16

/-- A place of the validation queue, 0 to 15 (R146). -/
abbrev SlotId := Fin 16

/-- A set of compartments: bit 0 stands for compartment 1 (R190). -/
abbrev Compartments := BitVec 4

/-- A timer: stopped (`none`), or running with the ms that remain. -/
abbrev Timer := Option Nat

/-- The halts in index order. -/
def allHalts : List Halt := [0, 1, 2, 3, 4, 5]

/-- The sixteen indices of a gate, slot or pulse table, in order. -/
def all16 : List (Fin 16) := [0, 1, 2, 3, 4, 5, 6, 7, 8, 9, 10, 11, 12, 13, 14, 15]

/-- The four compartment places, in order. -/
def all4 : List (Fin 4) := [0, 1, 2, 3]

/-- The eight places of an eight-entry table, in order. -/
def all8 : List (Fin 8) := [0, 1, 2, 3, 4, 5, 6, 7]

/-- Replace entry `i` of a fixed-size table. -/
def vset {α : Type} {n : Nat} (v : Vector α n) (i : Fin n) (x : α) : Vector α n :=
  v.set i.val x i.isLt

/-- Change entry `i` of a fixed-size table. -/
def vmod {α : Type} {n : Nat} (v : Vector α n) (i : Fin n) (f : α → α) : Vector α n :=
  vset v i (f (v.get i))

end Sys2Proof
end

