-- ==== Sys2Proof/Syntax.lean ====
section
/-!
DEFINITION. The commands of the HF214: one constructor of `Instr` per row of spec/opcode_table.json,
with the operands that the row's frame or event carries. A frame row carries the frame's header (the
port it arrives on, its destination and source addresses) and its payload fields as chapter 12
lays them out (R191): numeric fields raw, enumerated fields by name.
-/

namespace Sys2Proof

/-- The two line bus ports (chapter 9). -/
inductive PortId | C | F
  deriving DecidableEq, Repr

/-- The two cars. -/
inductive CarId | car1 | car2
  deriving DecidableEq, Repr

/-- The two sheave encoder channels (chapter 1). -/
inductive Channel | A | B
  deriving DecidableEq, Repr

/-- A door side, as seen by an observer facing uphill. -/
inductive Side | LEFT | RIGHT
  deriving DecidableEq, Repr

/-- A rope or trip direction. -/
inductive Dir | UP | DOWN
  deriving DecidableEq, Repr

/-- The brake stages in rank order (R53). -/
inductive Stage | RELEASED | HOLD | SERVICE | EMERGENCY | RAIL
  deriving DecidableEq, Repr

/-- A level of a discrete input (R170). -/
inductive Level | OPEN | CLOSED
  deriving DecidableEq, Repr

/-- The mode of the line (R74). -/
inductive Mode | NORMAL | CREEP
  deriving DecidableEq, Repr

/-- The status of a SAMPLE frame (chapter 1.2). -/
inductive SampleStatus | NORMAL | HEAD_FAULT
  deriving DecidableEq, Repr

/-- The kind of a marker report (R13). -/
inductive MarkerKind | PASSED | STANDING
  deriving DecidableEq, Repr

/-- The rail brake state of a car (R13). -/
inductive RailState | READY | APPLIED | NOT_READY
  deriving DecidableEq, Repr

/-- One door's state as a relay reports it (R102). -/
inductive DoorReport | LOCKED | RELEASED | OPEN | FAULT
  deriving DecidableEq, Repr

/-- The answer mark of a DOOR_STATE (chapter 6.2). -/
inductive AnswerMark | SPONTANEOUS | ANSWER
  deriving DecidableEq, Repr

/-- The wanted direction of a CALL (R81, R191): none from a car relay. -/
inductive Wanted | NONE | UPHILL | DOWNHILL
  deriving DecidableEq, Repr

/-- The outcome of a GATE_PASSAGE (R154). -/
inductive Passage | passed | expired
  deriving DecidableEq, Repr

/-- The verdict of a FARE_ANSWER (R152). -/
inductive FareVerdict | ADMIT | REFUSE
  deriving DecidableEq, Repr

/-- The value of a SET_FLAG request, in the order of R96. -/
inductive FlagValue | SET | CLEAR
  deriving DecidableEq, Repr

/-- The two edges of the RESET pin (R188). -/
inductive ResetEdge | drivenLow | released
  deriving DecidableEq, Repr

/-- What kind of reception failed (R158): an idle mark, or a frame. -/
inductive ReceptionKind | mark | frame
  deriving DecidableEq, Repr

/-- Where a frame arrives and what its address bytes are (R158). -/
structure Header where
  port : PortId
  dst  : Byte
  src  : Byte
  deriving DecidableEq, Repr

/-- A frame as received, byte for byte, on a given port (R158, R190). -/
structure RawFrame where
  dst     : Byte
  src     : Byte
  kind    : Byte
  length  : Byte
  payload : List Byte
  check   : BitVec 16
  deriving DecidableEq, Repr

/-- SAMPLE (R191). -/
structure SampleP where
  channel : Channel
  count   : BitVec 32
  stamp   : BitVec 16
  status  : SampleStatus
  deriving DecidableEq, Repr

/-- CAR_REPORT (R191): speed 0x8000 for no measurement, marker id 0xFF for none, load 0xFFFF for none. -/
structure CarReportP where
  car        : CarId
  speed      : BitVec 16
  markerId   : Byte
  markerKind : MarkerKind
  load       : BitVec 16
  rail       : RailState
  deriving DecidableEq, Repr

/-- DOOR_STATE (R191): compartments 1 to 4 LEFT, then 1 to 4 RIGHT. -/
structure DoorStateP where
  car   : CarId
  mark  : AnswerMark
  token : Byte
  left  : Vector DoorReport 4
  right : Vector DoorReport 4
  deriving DecidableEq, Repr

/-- CALL (R191). -/
structure CallP where
  number : Byte
  halt   : Byte
  wanted : Wanted
  deriving DecidableEq, Repr

/-- GATE_REQUEST (R191). -/
structure GateRequestP where
  number : Byte
  cls    : Byte
  token  : Token
  deriving DecidableEq, Repr

/-- GATE_PASSAGE (R191). -/
structure GatePassageP where
  number  : Byte
  outcome : Passage
  deriving DecidableEq, Repr

/-- FARE_ANSWER (R191): rides 0xFFFF when absent. -/
structure FareAnswerP where
  query        : BitVec 16
  token        : Token
  cls          : Byte
  verdict      : FareVerdict
  serverReason : Byte
  rides        : BitVec 16
  minutes      : BitVec 16
  deriving DecidableEq, Repr

/-- DEMAND (R191): flag bit 0 prepare, bit 1 clamp. -/
structure DemandP where
  code  : BitVec 16
  accel : Byte
  dir   : Dir
  flags : Byte
  deriving DecidableEq, Repr

/-- DRIVE_STATE (R191). -/
structure DriveStateP where
  ready  : Bool
  torque : Bool
  deriving DecidableEq, Repr

/-- BRAKE_STATE (R191). -/
structure BrakeStateP where
  number : Byte
  stage  : Stage
  deriving DecidableEq, Repr

/-- MGMT_READ (R191). -/
structure MgmtReadP where
  tag     : Byte
  bank    : Byte
  item    : Byte
  index   : Byte
  segment : Byte
  staged  : Bool
  deriving DecidableEq, Repr

/-- MGMT_WRITE (R191). -/
structure MgmtWriteP where
  tag     : Byte
  bank    : Byte
  item    : Byte
  index   : Byte
  segment : Byte
  data    : Vector Byte 24
  deriving DecidableEq, Repr

/-- The line requests (R97, R191). -/
inductive LineReq
  | dispatch
  | call (car : CarId) (halt : Byte)
  | cancelCall (car : CarId) (halt : Byte)
  | holdSoft
  | holdHard
  | resume
  | brakeReset
  | setCap (cap : BitVec 16)
  | setMode (mode : Mode)
  | enterService
  | leaveService
  | setFlag (flag : Byte) (value : FlagValue)
  /-- A request kind that is not one of the twelve. -/
  | unknown (kind : Byte)
  deriving DecidableEq, Repr

/-- The content of a received frame, read by its kind (R191). -/
inductive Payload
  | sample (p : SampleP)
  | carReport (p : CarReportP)
  | doorState (p : DoorStateP)
  | call (p : CallP)
  | gateRequest (p : GateRequestP)
  | gatePassage (p : GatePassageP)
  | fareAnswer (p : FareAnswerP)
  | lineRequest (number : Byte) (req : LineReq)
  | demand (p : DemandP)
  | driveState (p : DriveStateP)
  | brakeState (p : BrakeStateP)
  | mgmtRead (p : MgmtReadP)
  | mgmtWrite (p : MgmtWriteP)
  | mgmtControl (tag op arg : Byte)
  /-- A transit kind, 0x80 to 0xFF, with its bytes (R164). -/
  | transit (kind : Byte) (bytes : List Byte)
  deriving DecidableEq, Repr

/-- One constructor per row of spec/opcode_table.json, in the table's order. -/
inductive Instr
  | powerOn
  | resetPin (edge : ResetEdge)
  | idleMark (port : PortId)
  | invalidReception (port : PortId) (what : ReceptionKind)
  | frameWhileSyncing (port : PortId) (frame : RawFrame)
  | silenceTimerExpiry (port : PortId)
  | syncWindowExpiry (port : PortId)
  | idleMarkSend (port : PortId)
  | frameBegin (port : PortId)
  | transmissionComplete (port : PortId)
  | unacceptedFrame (port : PortId) (frame : RawFrame)
  | transitFrame (port : PortId) (frame : RawFrame)
  | rawLevelChange (din : Fin 8) (level : Level)
  | inputFilterExpiry (din : Fin 8)
  | sample (hdr : Header) (p : SampleP)
  | channelSilenceExpiry (ch : Channel)
  | standstillTimerExpiry
  | sampleLoss
  | channelDiscrepancy
  | slip (car : CarId)
  | carReport (hdr : Header) (p : CarReportP)
  | carReportTimeout (car : CarId)
  | loadExpiry (car : CarId)
  | demand (hdr : Header) (p : DemandP)
  | demandTimerExpiry
  | brakeState (hdr : Header) (p : BrakeStateP)
  | brakeAnswerWindowExpiry
  | decelerationCheckExpiry
  | brakeReset (hdr : Header) (number : Byte)
  | railReset (hdr : Header) (tag arg : Byte)
  | call (hdr : Header) (p : CallP)
  | consoleCall (hdr : Header) (number : Byte) (car : CarId) (halt : Byte)
  | cancelCall (hdr : Header) (number : Byte) (car : CarId) (halt : Byte)
  | holdSoft (hdr : Header) (number : Byte)
  | holdHard (hdr : Header) (number : Byte)
  | dispatch (hdr : Header) (number : Byte)
  | resume (hdr : Header) (number : Byte)
  | setCap (hdr : Header) (number : Byte) (cap : BitVec 16)
  | setMode (hdr : Header) (number : Byte) (mode : Mode)
  | setFlag (hdr : Header) (number : Byte) (flag : Byte) (value : FlagValue)
  | enterService (hdr : Header) (number : Byte)
  | leaveService (hdr : Header) (number : Byte)
  | unknownRequest (hdr : Header) (number : Byte) (kind : Byte)
  | driveState (hdr : Header) (p : DriveStateP)
  | readyTimerExpiry
  | torqueProofTimerExpiry
  | statusTimerExpiry
  | doorState (hdr : Header) (p : DoorStateP)
  | doorAnswerWindowExpiry (car : CarId) (side : Side)
  | closeTimerExpiry (car : CarId) (compartment : Fin 4) (side : Side)
  | stateTimerExpiry (seq : Fin 6)
  | pulseStartOffset (entry : Fin 16)
  | pulseEndOffset (entry : Fin 16)
  | gateRequest (hdr : Header) (p : GateRequestP)
  | fareAnswer (hdr : Header) (p : FareAnswerP)
  | fareDeadlineExpiry (slot : SlotId)
  | gatePassage (hdr : Header) (p : GatePassageP)
  | waitPassDeadlineExpiry (slot : SlotId)
  | mgmtRead (hdr : Header) (p : MgmtReadP)
  | mgmtWrite (hdr : Header) (p : MgmtWriteP)
  | commit (hdr : Header) (tag arg : Byte)
  | abandon (hdr : Header) (tag arg : Byte)
  | setLock (hdr : Header) (tag arg : Byte)
  | nextNotice (hdr : Header) (tag arg : Byte)
  | clearCounters (hdr : Header) (tag arg : Byte)
  | invalidateCache (hdr : Header) (tag arg : Byte)
  | clearGate (hdr : Header) (tag arg : Byte)
  | store (hdr : Header) (tag arg : Byte)
  | storeComplete (agrees : Bool)
  | reload (hdr : Header) (tag arg : Byte)
  | powerLoss
  | unknownMgmtOperation (hdr : Header) (tag op arg : Byte)
  deriving DecidableEq, Repr

end Sys2Proof
end

