-- ==== Sys2Proof/Decode.lean ====
section
/-!
DEFINITION. Decoding of a table word. The HF214 takes commands, not instruction words: no row of spec/opcode_table.json gives
bits, so no word spells a command (notes/assumptions/1). Frames, which do have bytes, are read by Machine/Payloads.lean.
-/

namespace Sys2Proof

/-- The command that a word spells by the table's bits: none, for no row of the table has bits. -/
def decodeTableWord (_nbits _w : Nat) : Option Instr := none

end Sys2Proof
end

