-- ==== Sys2Proof/Config.lean ====
section
/-!
DEFINITION. What the model fixes once: the free value the manual leaves open, and the two bounds that make
the carrying through of announcements a function Lean accepts. The manual's own constants stand with
the operations that use them.
-/

namespace Sys2Proof.Config

/-- FREE VALUE (notes/assumptions/9). R9 gives the measured speed the sign of the driving channel's speed;
a driving speed of 0 has no sign while the other channel's magnitude is not 0. Nothing constrains it. -/
opaque zeroDrivingSpeedIsNegative : Nat → Bool

/-- DESIGN CHOICE (notes/assumptions/2): how many announcements one step carries through before it leaves
the rest, in order, to the next step. The manual has no such bound, and no chain of it comes near. -/
def settleBound : Nat := 4096

/-- DESIGN CHOICE (notes/assumptions/2): how many passes one answer of the sequencers may make. R129 bounds
an answer to far fewer. -/
def answerBound : Nat := 1024

end Sys2Proof.Config
end

