-- ==== Sys2Proof/Machine/Bits.lean ====
section
/-!
DEFINITION. Arithmetic and byte helpers: rounding, the integer square root, saturation, speed codes, byte
order (R190), the CRC-16 of a frame (R190) and the CRC-32 of the store (R194).
-/

namespace Sys2Proof.Machine

/-- One bit of the integer square root: `r` is the root found so far, bit `k - 1` is tried next. -/
def isqrtGo (n : Nat) : Nat → Nat → Nat
  | 0, r => r
  | k + 1, r => isqrtGo n k (if (r + 2 ^ k) * (r + 2 ^ k) ≤ n then r + 2 ^ k else r)

/-- isqrt (00_scope, Units): the largest integer whose square does not exceed `n`, for `n` below 2^64. -/
def isqrt (n : Nat) : Nat := isqrtGo n 32 0

/-- A saturating counter goes up by 1 and stops at 65 535. -/
def satInc (c : Nat) : Nat := if c < 65535 then c + 1 else 65535

/-- Clamp `x` into `lo` to `hi`. -/
def clampNat (lo hi x : Nat) : Nat := if x < lo then lo else if hi < x then hi else x

/-- code(v) (00_scope, Speed codes): 1 + floor(v / 5), capped at 0xFFE. -/
def codeOf (v : Nat) : Nat := min 0xFFE (1 + v / 5)

/-- The smaller of two optional numbers, an absent one counting as none. -/
def minOpt : Option Nat → Option Nat → Option Nat
  | none, y => y
  | x, none => x
  | some x, some y => some (min x y)

/-- Remove from compartment set `x` the members of `y`. -/
def setMinus (x y : Compartments) : Compartments := x &&& ~~~ y

/-- Whether compartment place `c` is in the set. -/
def setHas (x : Compartments) (c : Fin 4) : Bool := x.getLsbD c.val

/-- The set of compartment places that satisfy `p`. -/
def compartmentsWhere (p : Fin 4 → Bool) : Compartments :=
  all4.foldl (fun acc c => if p c then acc ||| (1#4 <<< c.val) else acc) 0#4

/-! ## Bytes, most significant first (R190) -/

/-- The `n` low bytes of `x`, most significant first. -/
def natBytes : Nat → Nat → List Byte
  | 0, _ => []
  | n + 1, x => natBytes n (x / 256) ++ [BitVec.ofNat 8 x]

/-- The number that the bytes spell, most significant first. -/
def bytesNat (bs : List Byte) : Nat := bs.foldl (fun acc b => acc * 256 + b.toNat) 0

/-- A signed value in `n` bytes, two's complement. -/
def intBytes (n : Nat) (x : Int) : List Byte := natBytes n (x % (256 ^ n : Nat)).toNat

/-- A signed value in `n` bytes, sent at the nearer bound when it lies outside the field (R190). -/
def intBytesClamped (n : Nat) (x : Int) : List Byte :=
  intBytes n (max (-((256 ^ n / 2 : Nat) : Int)) (min x ((256 ^ n / 2 : Nat) - 1 : Int)))

/-- `n` bytes of all ones: an absent optional field (R190). -/
def absentBytes (n : Nat) : List Byte := List.replicate n 0xFF#8

/-- An optional number in `n` bytes (R190). -/
def optBytes (n : Nat) : Option Nat → List Byte
  | none => absentBytes n
  | some x => natBytes n x

/-- An optional signed value in `n` bytes (R190). -/
def optIntBytes (n : Nat) : Option Int → List Byte
  | none => absentBytes n
  | some x => intBytes n x

/-- A yes/no field (R190). -/
def boolByte (b : Bool) : List Byte := [if b then 1#8 else 0#8]

/-- Byte `i` of a byte string, 0 beyond its end. -/
def byteAt (bs : List Byte) (i : Nat) : Byte := bs.getD i 0#8

/-- The number in the `n` bytes that start at place `i`. -/
def numAt (bs : List Byte) (i n : Nat) : Nat := bytesNat ((bs.drop i).take n)

/-- A code read at its nearer bound when it lies above the last code `hi` (notes/assumptions/4). -/
def codeAt (hi : Nat) (b : Byte) : Nat := min hi b.toNat

/-- A yes/no field of a table: 0 is no; every other code is read at its nearer bound, yes (R190). -/
def yes (b : Byte) : Bool := b != 0#8

/-! ## Check values -/

/-- One bit of the CRC-16 with polynomial x^16 + x^12 + x^5 + 1, no reflection, on the register as a number (R190). -/
def crc16Bit (c : Nat) : Nat := if 0x8000 ≤ c then (2 * c % 0x10000) ^^^ 0x1021 else 2 * c

/-- One byte of the CRC-16. -/
def crc16Byte (c : Nat) (b : Byte) : Nat :=
  crc16Bit (crc16Bit (crc16Bit (crc16Bit (crc16Bit (crc16Bit (crc16Bit (crc16Bit (c ^^^ (256 * b.toNat)))))))))

/-- The CRC-16 register after the bytes. The split on the register makes an evaluation settle it byte by byte. -/
def crc16Go : List Byte → Nat → Nat
  | [], c => c
  | b :: bs, 0 => crc16Go bs (crc16Byte 0 b)
  | b :: bs, c + 1 => crc16Go bs (crc16Byte (c + 1) b)

/-- The frame check: CRC-16 with initial value 0xFFFF and no final inversion (R190). -/
def crc16 (bs : List Byte) : BitVec 16 := BitVec.ofNat 16 (crc16Go bs 0xFFFF)

/-- One bit of the CRC-32 in reflected form, on the register as a number (R194). -/
def crc32Bit (c : Nat) : Nat := if c % 2 = 1 then (c / 2) ^^^ 0xEDB88320 else c / 2

/-- One byte of the CRC-32. -/
def crc32Byte (c : Nat) (b : Byte) : Nat :=
  crc32Bit (crc32Bit (crc32Bit (crc32Bit (crc32Bit (crc32Bit (crc32Bit (crc32Bit (c ^^^ b.toNat))))))))

/-- The CRC-32 register after the bytes. The split on the register makes an evaluation settle it byte by byte. -/
def crc32Go : List Byte → Nat → Nat
  | [], c => c
  | b :: bs, 0 => crc32Go bs (crc32Byte 0 b)
  | b :: bs, c + 1 => crc32Go bs (crc32Byte (c + 1) b)

/-- The store check: CRC-32 with initial value 0xFFFFFFFF and a final inversion (R194). -/
def crc32 (bs : List Byte) : BitVec 32 := BitVec.ofNat 32 (crc32Go bs 0xFFFFFFFF ^^^ 0xFFFFFFFF)

/-! ## Received frames -/

/-- The bytes of a received frame that its frame check covers (R190). -/
def rawCovered (f : RawFrame) : List Byte := [f.dst, f.src, f.kind, f.length] ++ f.payload

/-- Whether a received frame is valid (R158). -/
def rawValid (f : RawFrame) : Bool :=
  decide (f.length.toNat ≤ 32) && decide (f.payload.length = f.length.toNat) && (f.check == crc16 (rawCovered f))

end Sys2Proof.Machine
end

