-- ==== Sys2Proof/Machine/Tables.lean ====
section
/-!
DEFINITION. The configuration tables of banks 0 to 3 as records of raw fields, each of the width that
R190 gives its range, so that a staged record holds whatever bytes a MGMT_WRITE put there (R176). Readings of
the fields stand in Machine/Lookup.lean; the byte layouts in Machine/Records.lean.
-/

namespace Sys2Proof.Machine

/-- A halt entry (R1). -/
structure HaltEntry where
  present       : Byte
  stoppingPoint : BitVec 24
  window        : BitVec 16
  doorSide      : Byte
  mask          : Byte
  terminus      : Byte
  deriving DecidableEq, Repr

/-- A marker entry (R2). -/
structure MarkerEntry where
  present  : Byte
  position : BitVec 24
  deriving DecidableEq, Repr

/-- An envelope entry (R23). -/
structure EnvelopeEntry where
  present : Byte
  start   : BitVec 24
  ceiling : BitVec 16
  deriving DecidableEq, Repr

/-- The settings of one sheave channel (R2). -/
structure ChannelSettings where
  scale     : BitVec 16
  inversion : Byte
  deriving DecidableEq, Repr

/-- A node map entry (R161). -/
structure NodeEntry where
  present : Byte
  address : Byte
  mask    : Byte
  role    : Byte
  index   : Byte
  side    : Byte
  transit : Byte
  deriving DecidableEq, Repr

/-- The supervision parameters of bank 1, in the order in which R177 validates them (R186, R192). -/
structure Params where
  serviceDecel     : BitVec 16
  stopMargin       : BitVec 16
  creepSpeed       : BitVec 16
  designMax        : BitVec 16
  creepCap         : BitVec 16
  overrunAllowance : BitVec 16
  accelMax         : BitVec 16
  demandTimeout    : BitVec 16
  warningMargin    : BitVec 16
  serviceMargin    : BitVec 16
  emergencyMargin  : BitVec 16
  emergencyDecel   : BitVec 16
  rollbackLimit    : BitVec 16
  brakeWindow      : BitVec 16
  callMargin       : BitVec 16
  torqueProofTime  : BitVec 16
  readyTimeout     : BitVec 16
  doorWindow       : BitVec 16
  doorCloseLimit   : Byte
  standstillSpeed  : Byte
  standstillTime   : BitVec 16
  correctionLimit  : BitVec 16
  pairTolerance    : BitVec 16
  sampleLossTime   : Byte
  carReportTimeout : BitVec 16
  deriving DecidableEq, Repr

/-- A slot of a sequencer program (R120). -/
structure SlotEntry where
  enabled   : Byte
  condition : Byte
  polarity  : Byte
  source    : Byte
  deriving DecidableEq, Repr

/-- The reset slot of a sequencer program (R120). -/
structure ResetSlot where
  enabled   : Byte
  condition : Byte
  polarity  : Byte
  deriving DecidableEq, Repr

/-- A sequencer program (R120). -/
structure Program where
  stateCount : Byte
  initial    : Byte
  outputs    : Vector Byte 8
  timers     : Vector (BitVec 16) 8
  slots      : Vector SlotEntry 24
  reset      : ResetSlot
  deriving DecidableEq, Repr

/-- A pulse table entry (R133); the reference event as its two bytes (R192). -/
structure PulseEntry where
  enabled : Byte
  output  : Byte
  refKind : Byte
  refArg  : Byte
  start   : BitVec 16
  stop    : BitVec 16
  deriving DecidableEq, Repr

/-- A gate table entry (R137). -/
structure GateEntry where
  present    : Byte
  halt       : Byte
  role       : Byte
  cycleLimit : Byte
  deriving DecidableEq, Repr

/-- The fare settings of bank 3 (R137, R174). -/
structure FareSettings where
  personMass : Byte
  passback   : BitVec 16
  bankMask   : BitVec 64
  disabled0  : Byte
  disabled1  : Byte
  deriving DecidableEq, Repr

/-- Group A: the station programs and the fare and gate settings (R174). -/
structure GroupA where
  programs    : Vector Program 6
  pulses      : Vector PulseEntry 16
  polarity    : Vector Byte 8
  notify      : BitVec 24
  gates       : Vector GateEntry 16
  capacity    : Vector Byte 2
  classPolicy : Vector Byte 16
  fare        : FareSettings
  deriving DecidableEq, Repr

/-- Group B: the line geometry and the supervision parameters (R174). -/
structure GroupB where
  halts       : Vector HaltEntry 6
  markers     : Vector MarkerEntry 32
  envelope    : Vector EnvelopeEntry 32
  pairSum     : BitVec 24
  channels    : Vector ChannelSettings 2
  nodes       : Vector NodeEntry 48
  params      : Params
  filterTimes : Vector Byte 8
  deriving DecidableEq, Repr

/-- One generation of all the tables. -/
structure Tables where
  a : GroupA
  b : GroupB
  deriving DecidableEq, Repr

/-- The defaults of bank 1 (R186). -/
def Params.defaults : Params where
  serviceDecel := 800
  stopMargin := 300
  creepSpeed := 250
  designMax := 10000
  creepCap := 500
  overrunAllowance := 500
  accelMax := 1000
  demandTimeout := 100
  warningMargin := 200
  serviceMargin := 500
  emergencyMargin := 900
  emergencyDecel := 1500
  rollbackLimit := 100
  brakeWindow := 100
  callMargin := 300
  torqueProofTime := 3000
  readyTimeout := 60
  doorWindow := 300
  doorCloseLimit := 10
  standstillSpeed := 30
  standstillTime := 500
  correctionLimit := 500
  pairTolerance := 1000
  sampleLossTime := 50
  carReportTimeout := 1000

/-- The factory program of every sequencer (R120). -/
def Program.factory : Program where
  stateCount := 2
  initial := 0
  outputs := Vector.replicate 8 0
  timers := Vector.replicate 8 0xFFFF
  slots := Vector.replicate 24 ⟨0, 0, 0, 0⟩
  reset := ⟨0, 0, 0⟩

/-- A factory terminus: present at 0 mm, window 150 mm, door side BOTH, all four compartments (R185). -/
def HaltEntry.factoryTerminus : HaltEntry := ⟨1, 0, 150, 2, 0x0F, 1⟩

/-- An absent halt. Its other fields are not given by R185 (notes/assumptions/4). -/
def HaltEntry.factoryAbsent : HaltEntry := ⟨0, 0, 150, 2, 0x0F, 0⟩

/-- The factory group A (R185). -/
def GroupA.factory : GroupA where
  programs := Vector.replicate 6 Program.factory
  pulses := Vector.replicate 16 ⟨0, 0, 0, 0, 0, 0⟩
  polarity := Vector.replicate 8 0
  notify := 0
  gates := Vector.replicate 16 ⟨0, 0, 0, 6⟩
  capacity := Vector.replicate 2 1
  classPolicy := Vector.replicate 16 1
  fare := ⟨80, 120, 0, 0, 0⟩

/-- The factory group B (R185, R39). -/
def GroupB.factory : GroupB where
  halts := #v[HaltEntry.factoryTerminus, HaltEntry.factoryTerminus, HaltEntry.factoryAbsent,
    HaltEntry.factoryAbsent, HaltEntry.factoryAbsent, HaltEntry.factoryAbsent]
  markers := Vector.replicate 32 ⟨0, 0⟩
  envelope := vset (Vector.replicate 32 ⟨0, 0, 0⟩) 0 ⟨1, 0, 0⟩
  pairSum := 0
  channels := Vector.replicate 2 ⟨1, 0⟩
  nodes := Vector.replicate 48 ⟨0, 0, 0, 0, 0, 0, 0⟩
  params := Params.defaults
  filterTimes := Vector.replicate 8 5

/-- The factory tables (R185). -/
def Tables.factory : Tables := ⟨GroupA.factory, GroupB.factory⟩

end Sys2Proof.Machine
end

