-- ==== Sys2Proof/Machine/State.lean ====
section
/-!
DEFINITION. The state of the HF214 as plain data: every record, table, timer, queue, counter and pin level
that the manual gives the part, grouped by the block that holds it (chapter "Block diagram"), then the
two fields of the model's own (`pending`, `agenda`), the reasons a step can stop, and the state after reset.
-/

namespace Sys2Proof.Machine

/-! ## One value for each car, channel, port or side -/

/-- One value for each car. -/
structure PerCar (α : Type) where
  one : α
  two : α
  deriving DecidableEq, Repr

/-- One value for each sheave channel. -/
structure PerChannel (α : Type) where
  a : α
  b : α
  deriving DecidableEq, Repr

/-- One value for each port. -/
structure PerPort (α : Type) where
  c : α
  f : α
  deriving DecidableEq, Repr

/-- One value for each door side. -/
structure PerSide (α : Type) where
  left  : α
  right : α
  deriving DecidableEq, Repr

/-- The value of car `k`. -/
def PerCar.get {α : Type} (p : PerCar α) : CarId → α
  | .car1 => p.one
  | .car2 => p.two

/-- Replace the value of car `k`. -/
def PerCar.set {α : Type} (p : PerCar α) (k : CarId) (x : α) : PerCar α :=
  match k with
  | .car1 => { p with one := x }
  | .car2 => { p with two := x }

/-- The value of channel `ch`. -/
def PerChannel.get {α : Type} (p : PerChannel α) : Channel → α
  | .A => p.a
  | .B => p.b

/-- Replace the value of channel `ch`. -/
def PerChannel.set {α : Type} (p : PerChannel α) (ch : Channel) (x : α) : PerChannel α :=
  match ch with
  | .A => { p with a := x }
  | .B => { p with b := x }

/-- The value of port `q`. -/
def PerPort.get {α : Type} (p : PerPort α) : PortId → α
  | .C => p.c
  | .F => p.f

/-- Replace the value of port `q`. -/
def PerPort.set {α : Type} (p : PerPort α) (q : PortId) (x : α) : PerPort α :=
  match q with
  | .C => { p with c := x }
  | .F => { p with f := x }

/-- The value of side `sd`. -/
def PerSide.get {α : Type} (p : PerSide α) : Side → α
  | .LEFT => p.left
  | .RIGHT => p.right

/-- Replace the value of side `sd`. -/
def PerSide.set {α : Type} (p : PerSide α) (sd : Side) (x : α) : PerSide α :=
  match sd with
  | .LEFT => { p with left := x }
  | .RIGHT => { p with right := x }

/-! ## Position unit (chapter 1) -/

/-- One entry of a sample window (R4). -/
structure SampleEntry where
  count : BitVec 32
  stamp : BitVec 16
  deriving DecidableEq, Repr

/-- What the position unit keeps for one channel (R4). The validity (R6), the channel speed (R9) and, of
both channels, the driving channel (R7) are read from the windows. -/
structure ChannelState where
  /-- oldest first, at most 4 -/
  window     : List SampleEntry
  rejects    : Nat
  silence    : Timer
  duplicates : Nat
  gaps       : Nat
  rejections : Nat
  deriving DecidableEq, Repr

/-- A car record (chapter 1.4) less its berth, which the trip sequencer writes and `Trip` holds. -/
structure CarRecord where
  accumulator : Travel
  referenced  : Bool
  speed       : Option Int
  /-- age of the speed in ms (R13) -/
  speedAge    : Nat
  load        : Option Nat
  /-- time left before the load becomes absent (R13) -/
  loadTimer   : Timer
  lastMarker  : Option (Nat × MarkerKind)
  rail        : Option RailState
  linkUp      : Bool
  reportTimer : Timer
  slipTimer   : Timer
  slip        : Bool
  deriving DecidableEq, Repr

/-- The position unit (R21 lists its state). -/
structure Position where
  chan             : PerChannel ChannelState
  ropeTravel       : Travel
  measured         : Int
  standstill       : Bool
  standstillTimer  : Timer
  lineSampleTimer  : Timer
  sampleLoss       : Bool
  discrepancyTimer : Timer
  discrepancy      : Bool
  cars             : PerCar CarRecord
  deriving DecidableEq, Repr

/-! ## Speed limit unit (chapter 2) -/

/-- What the curve term was computed toward (R22). -/
inductive Target | HEAD_STOP | VIRTUAL_STOP
  deriving DecidableEq, Repr

/-- The term whose value v_perm took (R22). -/
inductive LimitTerm | STATE | ENVELOPE_1 | ENVELOPE_2 | CURVE | LINE_CAP | MODE_CAP
  deriving DecidableEq, Repr

/-- The speed record (R22). Its code field is `codeOf vPerm` (R36). -/
structure SpeedRecord where
  vPerm          : Nat
  envelope1      : Option Nat
  envelope2      : Option Nat
  target         : Option Target
  targetDistance : Option Int
  rawCurve       : Option Nat
  curve          : Option Nat
  lineCap        : Nat
  modeCap        : Option Nat
  limiting       : LimitTerm
  overrunRaised  : Bool
  deriving DecidableEq, Repr

/-! ## Demand filter (chapter 3) -/

/-- The filter record (R40). -/
structure FilterRecord where
  lastForwarded : Option Nat
  substitution  : Bool
  timer         : Timer
  clamps        : Nat
  rewrites      : Nat
  ignored       : Nat
  deriving DecidableEq, Repr

/-! ## Brake supervisor (chapter 4) -/

/-- The causes (R55), in the order of the table. -/
inductive Cause
  | OVERSPEED_SERVICE | OVERSPEED_EMERGENCY | OVERSPEED_ABSOLUTE | OVERRUN | ROLLBACK | DOORS_NOT_LOCKED
  | SAMPLE_LOSS | POSITION | ESTOP | START | CHANNEL_DISCREPANCY | CAR_LINK_LOST | SLIP | DECEL_NOT_ACHIEVED
  | BRAKE_NO_ANSWER
  deriving DecidableEq, Repr

/-- The outstanding order (R54): its number, its stage, its answer window. -/
structure BrakeOrder where
  number : Byte
  stage  : Stage
  window : Timer
  deriving DecidableEq, Repr

/-- A running deceleration check (R67), with the minimum emergency deceleration in force when it started: a group B commit
gives a new one to the next check (R72). -/
structure DecelCheck where
  v0        : Nat
  minimum   : Nat
  remaining : Nat
  deriving DecidableEq, Repr

/-- The supervisor record (R54), with the losses in force of R60. -/
structure Supervisor where
  commanded    : Stage
  /-- RELEASED when true, HOLD when false (R63) -/
  wantsRelease : Bool
  active       : List Cause
  latchS       : Option Cause
  latchE       : Option Cause
  latchR       : Option Cause
  counter      : Byte
  outstanding  : Option BrakeOrder
  applied      : Option Stage
  /-- the base of a rollback monitor that is ON (R57) -/
  rollback     : Option Travel
  decel        : Option DecelCheck
  warning      : Bool
  stale        : Nat
  lossInForce  : PerCar Bool
  deriving DecidableEq, Repr

/-! ## Trip sequencer (chapter 5) -/

/-- The trip states (R74, R75). -/
inductive TripState | IDLE | PARKED | READY | DEPARTING | RUNNING | AT_STOP | STOPPING | HELD | TRIPPED
  deriving DecidableEq, Repr

/-- The hold request (R74). -/
inductive HoldRequest | NONE | SOFT | HARD
  deriving DecidableEq, Repr

/-- The state a departure returns to (R74). -/
inductive Origin | PARKED | AT_STOP | HELD
  deriving DecidableEq, Repr

/-- The source of a pair (R77). -/
inductive Source | CONSOLE | CAR | PLATFORM | TERMINI
  deriving DecidableEq, Repr

/-- A (car, halt) pair of the plan with its source (R77). -/
structure StopPair where
  car    : CarId
  halt   : Halt
  source : Source
  deriving DecidableEq, Repr

/-- A stop: one or two pairs (R77). -/
structure Stop where
  first  : StopPair
  second : Option StopPair
  deriving DecidableEq, Repr

/-- The trip record (R74) with the berths, the status timer (R98) and the pending lowered cap (R50).
The line state is read from the trip state (R75). -/
structure Trip where
  state       : TripState
  mode        : Mode
  dir         : Dir
  number      : BitVec 16
  plan        : List Stop
  hold        : HoldRequest
  virtualStop : Option Travel
  origin      : Option Origin
  readyTimer  : Timer
  torqueTimer : Timer
  lineCap     : Nat
  pendingCap  : Option Nat
  flags       : Vector Bool 4
  lastDrive   : Option DriveStateP
  berth       : PerCar (Option Halt)
  statusTimer : Timer
  deriving DecidableEq, Repr

/-! ## Door unit (chapter 6) -/

/-- The states of a door record (R101). -/
inductive DoorState | LOCKED | RELEASED | OPEN | CLOSING | FAULT | UNKNOWN
  deriving DecidableEq, Repr

/-- A door record (R101). -/
structure DoorRecord where
  state      : DoorState
  closeTimer : Timer
  deriving DecidableEq, Repr

/-- A door order: its token and, for each side, a release set and a withdraw set (R107). -/
structure DoorOrder where
  token         : Byte
  releaseLeft   : Compartments
  withdrawLeft  : Compartments
  releaseRight  : Compartments
  withdrawRight : Compartments
  deriving DecidableEq, Repr

/-- An outstanding release: the token, and the answer window once the order is begun (R101). -/
structure Outstanding where
  token  : Byte
  window : Timer
  deriving DecidableEq, Repr

/-- One side of a car: the door records of compartments 1 to 4 and the side record (R101). -/
structure SideDoors where
  doors       : Vector DoorRecord 4
  released    : Compartments
  outstanding : Option Outstanding
  deriving DecidableEq, Repr

/-- The doors of one car with the car door record (R101). -/
structure CarDoors where
  sides     : PerSide SideDoors
  token     : Byte
  heard     : Bool
  linkFault : Bool
  queued    : Option DoorOrder
  deriving DecidableEq, Repr

/-! ## Platform sequencers and pulse unit (chapter 7) -/

/-- A sequencer record (R122); the timer in ms. -/
structure SeqRecord where
  state       : Fin 8
  loaded      : Byte
  published   : Byte
  timer       : Timer
  timerDone   : Bool
  resetHeld   : Bool
  cyclingHold : Bool
  transitions : Nat
  deriving DecidableEq, Repr

/-- The state of a pulse entry's running pulse (R134). -/
inductive PulseState | IDLE | WAITING | ACTIVE
  deriving DecidableEq, Repr

/-- What runs for a pulse entry: its state and the ms since its latest event, if it has had one (R134, R193). -/
structure PulseRun where
  state : PulseState
  since : Option Nat
  deriving DecidableEq, Repr

/-! ## Gate unit (chapter 8) -/

/-- The gate refusal reasons, code 1 to 8 (chapter 12.3). -/
inductive GateReason | GATE_FAULT | CLOSED | FULL | BUSY | NO_RIDES | PASSBACK | OFFLINE | SERVER
  deriving DecidableEq, Repr

/-- A decided verdict (R146). The byte is the fare server's own reason code, 0 unless the reason is SERVER. -/
inductive Verdict
  | ADMIT
  | REFUSE (reason : GateReason) (serverReason : Byte)
  deriving DecidableEq, Repr

/-- Who decided a validation entry (R146). -/
inductive DecidedBy | LOCAL | SERVER | OFFLINE
  deriving DecidableEq, Repr

/-- The states of a validation entry in use; a FREE entry is one that no element of the queue names (R146). -/
inductive EntryState | ASKING | MERGED | WAIT_GATE | WAIT_PASS
  deriving DecidableEq, Repr

/-- A validation entry in use (R146). -/
structure VEntry where
  slot      : SlotId
  state     : EntryState
  gate      : GateId
  halt      : Halt
  token     : Token
  cls       : Nat
  number    : Byte
  query     : Option (BitVec 16)
  mergedTo  : Option SlotId
  verdict   : Option Verdict
  decidedBy : Option DecidedBy
  deadline  : Timer
  deriving DecidableEq, Repr

/-- A cache entry (R144). -/
structure CacheEntry where
  token        : Token
  cls          : Nat
  verdict      : Verdict
  rides        : Option Nat
  validUntil   : Option Nat
  lastAdmitted : Option Nat
  provisional  : Bool
  stale        : Bool
  deriving DecidableEq, Repr

/-- A boarding window record (R141). -/
structure Window where
  isOpen   : Bool
  cars     : PerCar Bool
  capacity : Nat
  base     : Nat
  admitted : Nat
  reserved : Nat
  deriving DecidableEq, Repr

/-- A gate record (R139); `mode` is the mode of the last SET_MODE sent, OPEN when true. -/
structure GateRecord where
  heard : Bool
  fault : Bool
  mode  : Option Bool
  deriving DecidableEq, Repr

/-- The gate unit. -/
structure GateUnit where
  records      : Vector GateRecord 16
  windows      : Vector (Option Window) 6
  /-- the entries in use, in the order of allocation, at most 16 -/
  queue        : List VEntry
  /-- the two cache banks, most recently used entry first -/
  bank0        : List CacheEntry
  bank1        : List CacheEntry
  queryCounter : BitVec 16
  serverLost   : Bool
  timeouts     : Nat
  /-- the gate refusal counters, by reason code less one -/
  refusals     : Vector Nat 8
  unverified   : Vector Nat 6
  exits        : Vector Nat 6
  deriving DecidableEq, Repr

/-! ## Frame switch (chapter 9) -/

/-- The roles of the node map (R161). -/
inductive Role | CONSOLE | MAINT | FARE_SERVER | DRIVE | BRAKE | SHEAVE_A | SHEAVE_B | CAR_1 | CAR_2 | GATE | TRANSIT
  deriving DecidableEq, Repr

/-- The reasons of REFUSED (R97). -/
inductive Reason
  | WRONG_STATE | NOT_AT_STANDSTILL | CAUSE_ACTIVE | LATCH_SET | NOT_REFERENCED | CONFIG_INVALID | HALT_ABSENT
  | HALT_NOT_AHEAD | HOLD_ACTIVE | CALLS_CLOSED | PLAN_FULL | PLAN_EMPTY | NOT_FOUND | NOT_CONSOLE | KEY_OPEN
  | OUT_OF_RANGE | UNKNOWN_REQUEST
  deriving DecidableEq, Repr

/-- The answers of a LINE_ANSWER (R97). -/
inductive LineAnswer
  | ACCEPTED
  | DEFERRED
  | TOO_LATE
  | REFUSED (reason : Reason)
  deriving DecidableEq, Repr

/-- The answer codes of a MGMT_ANSWER (R173). -/
inductive MgmtCode | OK | NO_ITEM | WRONG_STATE | PENDING | BUSY | INVALID
  deriving DecidableEq, Repr

/-- The notices in priority order (R181). -/
inductive Notice
  | RAIL_STAGE | EMERGENCY_STAGE | SERVICE_STAGE | SLIP | POSITION_FAULT | OVERRUN | ROLLBACK | SAMPLE_LOSS
  | BRAKE_NO_ANSWER | CHANNEL_DISCREPANCY | OVERSPEED_WARNING | CAR_LINK_LOST | DOOR_FAULT | DOOR_LINK_LOST
  | DEMAND_SUBSTITUTED | DISPATCH_TIMEOUT | SEQUENCER_CYCLING | PORT_DOWN | FARE_SERVER_LOST | GATE_FAULT
  | UNVERIFIED_PASSAGE | QUEUE_FULL | COMMIT_APPLIED | CONFIG_INVALID
  deriving DecidableEq, Repr

/-- What an outgoing frame carries (R191). -/
inductive Content
  | brakeOrder (number : Byte) (stage : Stage)
  | demand (p : DemandP)
  | doorOrder (car : CarId) (order : DoorOrder)
  | gateSetMode (opened : Bool)
  | gateAdmitOne (number : Byte)
  | gateRefuse (number : Byte) (reason : GateReason) (serverReason : Byte)
  | fareQuery (query : BitVec 16) (token : Token) (cls : Nat) (halt : Halt) (gate : GateId)
  | fareUse (token : Token) (cls : Nat) (halt : Halt) (gate : GateId) (localTime : Nat) (decidedBy : DecidedBy)
  | lineAnswer (number kind : Byte) (answer : LineAnswer)
  | lineStatus (bytes : List Byte)
  | notice (n : Notice) (localTime pendingCount : Nat)
  | mgmtAnswer (tag kind : Byte) (code : MgmtCode) (detail : List Byte)
  | driveState (p : DriveStateP)
  | brakeState (p : BrakeStateP)
  | transit (kind : Byte) (bytes : List Byte)
  deriving DecidableEq, Repr

/-- A frame held for sending. `role` is the role for which it was addressed, its urgent key's second half (R168). -/
structure OutFrame where
  dst     : Byte
  src     : Byte
  role    : Option Role
  content : Content
  deriving DecidableEq, Repr

/-- The link states (R159). -/
inductive LinkState | DOWN | SYNCING | UP
  deriving DecidableEq, Repr

/-- The seven counters of a port (R171). -/
structure PortCounters where
  received           : Nat
  checkFailed        : Nat
  unknownSource      : Nat
  kindRefused        : Nat
  misaddressed       : Nat
  normalDrops        : Nat
  urgentReplacements : Nat
  deriving DecidableEq, Repr

/-- A port: link record (R159), output queues (R168), frame in transmission, idle mark timer (R158), counters. -/
structure Port where
  link       : LinkState
  silence    : Timer
  syncCount  : Nat
  syncWindow : Timer
  urgent     : List OutFrame
  normal     : List OutFrame
  sending    : Option OutFrame
  idleTimer  : Timer
  counters   : PortCounters
  deriving DecidableEq, Repr

/-- A discrete input's filter record (R170); `filtered = none` is "none accepted". -/
structure DinRecord where
  raw      : Level
  filtered : Option Level
  timer    : Timer
  deriving DecidableEq, Repr

/-! ## Management agent and configuration store (chapters 10 and 11) -/

/-- A notice record (R181). -/
structure NoticeRecord where
  pending : Bool
  count   : Nat
  first   : Option Nat
  latest  : Option Nat
  deriving DecidableEq, Repr

/-- The lock flags, or the lock defaults (R180). -/
structure Locks where
  read     : Bool
  write    : Bool
  writeAll : Bool
  deriving DecidableEq, Repr

/-- A record named by bank, item and index (R174). -/
structure ItemRef where
  bank  : Nat
  item  : Nat
  index : Nat
  deriving DecidableEq, Repr

/-- The last result of a commit (R178). -/
inductive CommitResult
  | none
  | OK
  | WRONG_STATE
  | INVALID (ref : ItemRef)
  deriving DecidableEq, Repr

/-- The commit status of a group (R178). -/
structure CommitStatus where
  pending : Bool
  last    : CommitResult
  deriving DecidableEq, Repr

/-- Where the tables were loaded from (R185). -/
inductive LoadedFrom
  | STORE
  | CHECK_FAILED
  | INVALID (ref : ItemRef)
  deriving DecidableEq, Repr

/-- The last result of a STORE (R185). -/
inductive StoreResult | none | OK | FAILED
  deriving DecidableEq, Repr

/-- What the configuration store holds (R185). -/
structure StoreContents where
  tables       : Tables
  lockDefaults : Locks
  ownAddress   : Byte
  deriving DecidableEq, Repr

/-- The non-volatile configuration store with its check value (R185, R194). -/
structure ConfigStore where
  contents : StoreContents
  check    : BitVec 32
  deriving DecidableEq, Repr

/-- A STORE in flight: what is written, and whom to answer (R187). -/
structure StoreFlight where
  contents : StoreContents
  tag      : Byte
  src      : Byte
  port     : PortId
  deriving DecidableEq, Repr

/-- The management agent and the configuration store. -/
structure Management where
  notices      : Vector NoticeRecord 24
  locks        : Locks
  lockDefaults : Locks
  ownAddress   : Byte
  /-- the node address item of bank 5 (R174) -/
  nodeAddress  : Byte
  commitA      : CommitStatus
  commitB      : CommitStatus
  loadedFrom   : LoadedFrom
  storeLast    : StoreResult
  /-- `some` while the store state is IN_FLIGHT (R187) -/
  flight       : Option StoreFlight
  store        : ConfigStore
  deriving DecidableEq, Repr

/-! ## The whole part -/

/-- Whether the part is powered and out of reset (R188, R187). -/
inductive Power | OFF | HELD_IN_RESET | RUNNING
  deriving DecidableEq, Repr

/-- An announcement from one block to another that is still to be carried through (R29, R68, R76, R115, R130).
The model's own: the manual's announcements, in the order they were made. -/
inductive Ann
  /-- to the speed limit unit: recompute, prompted by a driving sample or not (R26) -/
  | recompute (driving : Bool)
  /-- to the brake supervisor: the v_perm of a recomputation (R29, R56) -/
  | compare (driving : Bool) (vPerm : Nat)
  /-- to the demand filter: the v_perm of a recomputation (R29, R45, R48) -/
  | demandCode (driving : Bool) (vPerm : Nat)
  /-- to the brake supervisor: the trip entered a state (R76, R63) -/
  | brakeTrip (entered : TripState)
  /-- to the demand filter: the trip entered a state (if one is named), or its direction changed (R76) -/
  | demandTrip (entered : Option TripState)
  /-- to the demand filter: latch S was set (R68) -/
  | demandLatchS
  /-- to the brake supervisor: a door record changed (R115) -/
  | brakeDoors
  /-- to the door unit: an input of the interlock of a car changed (R104) -/
  | doorEval (car : CarId)
  /-- to the gate unit: halts that lost and gained a berth, and whether the line left service (R76) -/
  | gateTrip (lost gained : BitVec 6) (leftService : Bool)
  /-- to the trip sequencer: the commanded stage changed (R68, R69) -/
  | tripStage (old new : Stage)
  /-- to the trip sequencer: test the departure conditions (R86) -/
  | tripReady
  /-- to the trip sequencer: test auto-dispatch (R85) -/
  | tripAuto
  /-- to the trip sequencer: test arrival (R91) -/
  | tripArrival
  /-- to the trip sequencer: standstill began (R91, R92, R50) -/
  | tripStandstill
  /-- to the trip sequencer: release refused or release failed (R63, R66) -/
  | tripReleaseLost
  /-- to the trip sequencer: brake released (R65) -/
  | tripReleased
  /-- to the trip sequencer: demand lost (R47) -/
  | tripDemandLost
  /-- to the platform sequencers: an outside change, as the changed conditions of each sequencer and the
  sequencers whose pass is due whatever changed (R125) -/
  | outside (changed : Vector (BitVec 32) 6) (due : BitVec 6)
  deriving DecidableEq, Repr

/-- The state of the HF214. -/
structure State where
  power    : Power
  /-- whether the RESET pin is driven low (R188) -/
  resetLow : Bool
  /-- local time in ms since start-up; the manual's local time is its whole seconds -/
  localMs  : Nat
  pos      : Position
  speed    : SpeedRecord
  filter   : FilterRecord
  brake    : Supervisor
  trip     : Trip
  doors    : PerCar CarDoors
  seqs     : Vector SeqRecord 6
  pulses   : Vector PulseRun 16
  /-- whether the SIG pins are driven (R136, R188) -/
  sigDriven : Bool
  gates    : GateUnit
  ports    : PerPort Port
  dins     : Vector DinRecord 8
  mgmt     : Management
  active   : Tables
  staged   : Tables
  /-- THE MODEL'S OWN: the announcements not yet carried through; empty between steps (notes/assumptions/2) -/
  agenda   : List Ann
  /-- THE MODEL'S OWN: the commands that wait, first in, first out -/
  pending  : List Instr
  deriving DecidableEq, Repr

/-- The faults of a step: none. Every command of the table has an effect that the manual gives in every state,
so no constructor is needed; the type is closed and empty. -/
inductive Fault
  deriving DecidableEq, Repr

/-- The refusals of a step. -/
inductive Refusal
  /-- raised only by an arm of `exec` for a command that has no meaning in the model; safe. No arm does. -/
  | notModelled (mnemonic : String)
  deriving DecidableEq, Repr

/-! ## Values after start-up -/

/-- A channel after start-up (R21). -/
def ChannelState.start : ChannelState := ⟨[], 0, none, 0, 0, 0⟩

/-- A car record after start-up (R21). -/
def CarRecord.start : CarRecord where
  accumulator := 0
  referenced := false
  speed := none
  speedAge := 0
  load := none
  loadTimer := none
  lastMarker := none
  rail := none
  linkUp := false
  reportTimer := none
  slipTimer := none
  slip := false

/-- The position unit after start-up (R21), its line sample timer started with the sample loss time. -/
def Position.start (lossTime : Nat) : Position where
  chan := ⟨ChannelState.start, ChannelState.start⟩
  ropeTravel := 0
  measured := 0
  standstill := false
  standstillTimer := none
  lineSampleTimer := some lossTime
  sampleLoss := false
  discrepancyTimer := none
  discrepancy := false
  cars := ⟨CarRecord.start, CarRecord.start⟩

/-- The speed record after start-up (R38). -/
def SpeedRecord.start (designMax : Nat) : SpeedRecord where
  vPerm := 0
  envelope1 := none
  envelope2 := none
  target := none
  targetDistance := none
  rawCurve := none
  curve := none
  lineCap := designMax
  modeCap := none
  limiting := .STATE
  overrunRaised := false

/-- The filter record after start-up (R52). -/
def FilterRecord.start : FilterRecord := ⟨none, false, none, 0, 0, 0⟩

/-- The supervisor record before START is raised (R73). -/
def Supervisor.start (counter : Byte) : Supervisor where
  commanded := .HOLD
  wantsRelease := false
  active := []
  latchS := none
  latchE := none
  latchR := none
  counter := counter
  outstanding := none
  applied := none
  rollback := none
  decel := none
  warning := false
  stale := 0
  lossInForce := ⟨false, false⟩

/-- The trip record after start-up (R100), its status timer started. -/
def Trip.start (designMax : Nat) : Trip where
  state := .IDLE
  mode := .NORMAL
  dir := .UP
  number := 0
  plan := []
  hold := .NONE
  virtualStop := none
  origin := none
  readyTimer := none
  torqueTimer := none
  lineCap := designMax
  pendingCap := none
  flags := Vector.replicate 4 false
  lastDrive := none
  berth := ⟨none, none⟩
  statusTimer := some 100

/-- A side of a car's doors after start-up (R119). -/
def SideDoors.start : SideDoors := ⟨Vector.replicate 4 ⟨.UNKNOWN, none⟩, 0, none⟩

/-- The doors of a car after start-up (R119). -/
def CarDoors.start (token : Byte) (queued : Option DoorOrder) : CarDoors :=
  ⟨⟨SideDoors.start, SideDoors.start⟩, token, false, false, queued⟩

/-- A pulse run after start-up (R136). -/
def PulseRun.start : PulseRun := ⟨.IDLE, none⟩

/-- The gate unit after start-up (R157). -/
def GateUnit.start : GateUnit where
  records := Vector.replicate 16 ⟨false, false, none⟩
  windows := Vector.replicate 6 none
  queue := []
  bank0 := []
  bank1 := []
  queryCounter := 0
  serverLost := false
  timeouts := 0
  refusals := Vector.replicate 8 0
  unverified := Vector.replicate 6 0
  exits := Vector.replicate 6 0

/-- Port counters at 0 (R172). -/
def PortCounters.zero : PortCounters := ⟨0, 0, 0, 0, 0, 0, 0⟩

/-- A port after power-on or the RESET pin (R172); the idle mark time is 5 ms (R158). -/
def Port.start : Port := ⟨.DOWN, none, 0, none, [], [], none, some 5, PortCounters.zero⟩

/-- A notice record that is not pending (R184). -/
def NoticeRecord.clear : NoticeRecord := ⟨false, 0, none, none⟩

/-- A commit status with no result (R184). -/
def CommitStatus.start : CommitStatus := ⟨false, .none⟩

/-- What the configuration store holds when the part is new: nothing valid (notes/assumptions/3). -/
def ConfigStore.blank : ConfigStore := ⟨⟨Tables.factory, ⟨false, false, false⟩, 0xF0⟩, 0⟩

/-- The state right after start-up of a part whose configuration store holds nothing valid: the factory tables, latch E
set with START, EMERGENCY commanded, ESTOP active, order 1 outstanding and the two start-up notices pending
(R188, R73, R185). `Sys2Proof.Tests` checks that POWER_ON computes this very state. -/
def State.reset : State where
  power := .RUNNING
  resetLow := false
  localMs := 0
  pos := Position.start 50
  speed := SpeedRecord.start 10000
  filter := FilterRecord.start
  brake := { Supervisor.start 1 with
    commanded := .EMERGENCY
    active := [.ESTOP]
    latchE := some .START
    outstanding := some ⟨1, .EMERGENCY, none⟩
    decel := some ⟨0, 1500, 500⟩ }
  trip := Trip.start 10000
  doors := ⟨CarDoors.start 0 none, CarDoors.start 0 none⟩
  seqs := Vector.replicate 6 ⟨0, 0, 0, none, false, false, false, 0⟩
  pulses := Vector.replicate 16 PulseRun.start
  sigDriven := true
  gates := GateUnit.start
  ports := ⟨Port.start, Port.start⟩
  dins := Vector.replicate 8 ⟨.OPEN, none, some 5⟩
  mgmt :=
    { notices := vset (vset (Vector.replicate 24 NoticeRecord.clear) 1 ⟨true, 1, some 0, some 0⟩) 23
        ⟨true, 1, some 0, some 0⟩
      locks := ⟨false, false, false⟩
      lockDefaults := ⟨false, false, false⟩
      ownAddress := 0xF0
      nodeAddress := 0xF0
      commitA := CommitStatus.start
      commitB := CommitStatus.start
      loadedFrom := .CHECK_FAILED
      storeLast := .none
      flight := none
      store := ConfigStore.blank }
  active := Tables.factory
  staged := Tables.factory
  agenda := []
  pending := []

end Sys2Proof.Machine
end

