-- ==== Sys2Proof/Machine/Lookup.lean ====
section
/-!
DEFINITION. Readings of the active tables: halts and windows (R1), markers and channels (R2), the envelope (R23,
R25), the node map (R161), programs (R120), pulse entries (R133) and bank 3 (R137); and the views of
the state that several blocks read. A code of a table that names no value is read at its nearer bound
(R190, notes/assumptions/4).
-/

namespace Sys2Proof.Machine

/-! ## Halts, markers, channels -/

/-- The halt that an index byte names, if it is 0 to 5. -/
def haltOfByte (b : Byte) : Option Halt := if h : b.toNat < 6 then some ⟨b.toNat, h⟩ else none

/-- Whether halt `h` is present (R1). -/
def haltPresent (t : GroupB) (h : Halt) : Bool := yes (t.halts.get h).present

/-- The stopping point of halt `h` in mm (R1). -/
def stopPoint (t : GroupB) (h : Halt) : Int := (t.halts.get h).stoppingPoint.toNat

/-- The platform window of halt `h` in mm (R1). -/
def platformWindow (t : GroupB) (h : Halt) : Int := (t.halts.get h).window.toNat

/-- The compartment mask of halt `h`: bits 0 to 3 of its byte (R1); bits 4 to 7 are read nowhere (notes/assumptions/47). -/
def haltMask (t : GroupB) (h : Halt) : Compartments := (t.halts.get h).mask.setWidth 4

/-- Whether side `sd` is in the door side of halt `h` (R1, R103). -/
def haltHasSide (t : GroupB) (h : Halt) (sd : Side) : Bool :=
  match codeAt 2 (t.halts.get h).doorSide, sd with
  | 0, .LEFT => true
  | 0, .RIGHT => false
  | 1, .LEFT => false
  | 1, .RIGHT => true
  | _, _ => true

/-- Whether a car at reported position `p` mm is within the window of halt `h` (R1). -/
def withinWindow (t : GroupB) (h : Halt) (p : Int) : Bool :=
  haltPresent t h && decide (stopPoint t h - platformWindow t h ≤ p) && decide (p ≤ stopPoint t h + platformWindow t h)

/-- The position in mm of the marker with id `i`, if its entry is present (R2, R15). -/
def markerPos (t : GroupB) (i : Nat) : Option Int :=
  match t.markers.toList[i]? with
  | some m => if yes m.present then some m.position.toNat else none
  | none => none

/-- The settings of a channel (R2). -/
def channelSettings (t : GroupB) : Channel → ChannelSettings
  | .A => t.channels.get 0
  | .B => t.channels.get 1

/-- µm of rope per count of a channel (R2). -/
def channelScale (t : GroupB) (ch : Channel) : Int := (channelSettings t ch).scale.toNat

/-- Whether the inversion of a channel is SET (R2). -/
def channelInverted (t : GroupB) (ch : Channel) : Bool := yes (channelSettings t ch).inversion

/-! ## The envelope (R23, R25) -/

/-- The present segments of the envelope, in entry order. -/
def segments (t : GroupB) : List EnvelopeEntry := t.envelope.toList.filter fun e => yes e.present

/-- The ceiling at position `p` mm: that of the last segment whose start is at or below `p`, and of the first segment
below every start (R23, R25). A start above 8 000 000 mm, which no check rejects, is read as it stands
(notes/assumptions/42). -/
def ceilingAt (t : GroupB) (p : Int) : Nat :=
  match (segments t).filter fun e => decide ((e.start.toNat : Int) ≤ p) with
  | [] => match segments t with
    | [] => 0
    | e :: _ => e.ceiling.toNat
  | e :: es => ((e :: es).getLast (by simp)).ceiling.toNat

/-- The lowest ceiling among the present segments (R25). -/
def lowestCeiling (t : GroupB) : Nat :=
  match segments t with
  | [] => 0
  | e :: es => es.foldl (fun acc x => min acc x.ceiling.toNat) e.ceiling.toNat

/-! ## The node map (R161) -/

/-- The role with a given code, in the order of R161's table. -/
def roleOfCode (b : Byte) : Role :=
  match codeAt 10 b with
  | 0 => .CONSOLE
  | 1 => .MAINT
  | 2 => .FARE_SERVER
  | 3 => .DRIVE
  | 4 => .BRAKE
  | 5 => .SHEAVE_A
  | 6 => .SHEAVE_B
  | 7 => .CAR_1
  | 8 => .CAR_2
  | 9 => .GATE
  | _ => .TRANSIT

/-- The role of an entry. -/
def nodeRole (e : NodeEntry) : Role := roleOfCode e.role

/-- The port on which an entry's node lies. -/
def nodeSide (e : NodeEntry) : PortId := if yes e.side then .F else .C

/-- Whether an entry matches address `a` on side `q` (R161). -/
def nodeMatches (a : Byte) (q : PortId) (e : NodeEntry) : Bool :=
  yes e.present && (nodeSide e == q) && ((a &&& e.mask) == (e.address &&& e.mask))

/-- The lookup of an address on a side: the first matching entry in index order (R161). -/
def nodeLookup (t : GroupB) (a : Byte) (q : PortId) : Option NodeEntry := t.nodes.toList.find? (nodeMatches a q)

/-- The first present entry with a role (R161). -/
def firstRole (t : GroupB) (r : Role) : Option NodeEntry :=
  t.nodes.toList.find? fun e => yes e.present && (nodeRole e == r)

/-- The first present entry with role GATE and a gate's index (R161). -/
def gateNode (t : GroupB) (g : GateId) : Option NodeEntry :=
  t.nodes.toList.find? fun e => yes e.present && (nodeRole e == .GATE) && decide (e.index.toNat = g.val)

/-- The gate table index an entry names, read at its nearer bound. -/
def nodeGate (e : NodeEntry) : GateId := ⟨codeAt 15 e.index, by unfold codeAt; omega⟩

/-- The role of a car's relay. -/
def carRole : CarId → Role
  | .car1 => .CAR_1
  | .car2 => .CAR_2

/-- The other car. -/
def otherCar : CarId → CarId
  | .car1 => .car2
  | .car2 => .car1

/-- The other port. -/
def otherPort : PortId → PortId
  | .C => .F
  | .F => .C

/-! ## Bank 3 (R137) -/

/-- Whether gate `g` is present in the gate table. -/
def gatePresent (t : GroupA) (g : GateId) : Bool := yes (t.gates.get g).present

/-- The halt of gate `g`, its index read at its nearer bound. -/
def gateHalt (t : GroupA) (g : GateId) : Halt := ⟨codeAt 5 (t.gates.get g).halt, by unfold codeAt; omega⟩

/-- Whether gate `g` works as an exit gate. -/
def gateIsExit (t : GroupA) (g : GateId) : Bool := yes (t.gates.get g).role

/-- The capacity of a car (R137). -/
def carCapacity (t : GroupA) : CarId → Nat
  | .car1 => (t.capacity.get 0).toNat
  | .car2 => (t.capacity.get 1).toNat

/-- Whether the policy of a class is OFFLINE_ADMIT (R137). -/
def classAdmits (t : GroupA) (cls : Nat) : Bool :=
  match t.classPolicy.toList[cls]? with
  | some b => !yes b
  | none => false

/-! ## Programs (R120) -/

/-- The program state with a given code, read at its nearer bound. -/
def stateOfCode (b : Byte) : Fin 8 := ⟨codeAt 7 b, by unfold codeAt; omega⟩

/-- The timer of a program state in ms, if it has one (R120, R127). -/
def programTimer (p : Program) (st : Fin 8) : Timer :=
  if p.timers.get st = 0xFFFF#16 then none else some ((p.timers.get st).toNat * 100)

/-- Whether a program has an enabled slot or an enabled reset slot that reads one of the conditions of `mask` (R125). -/
def programReads (p : Program) (mask : BitVec 32) : Bool :=
  (p.slots.toList.any fun sl => yes sl.enabled && mask.getLsbD (codeAt 31 sl.condition)) ||
    (yes p.reset.enabled && mask.getLsbD (codeAt 31 p.reset.condition))

/-! ## Views of the state -/

/-- The active supervision parameters. -/
def State.params (s : State) : Params := s.active.b.params

/-- Local time in whole seconds (00_scope, Units). -/
def State.localTime (s : State) : Nat := s.localMs / 1000

/-- Whether the line state is IN_SERVICE (R75). -/
def State.inService (s : State) : Bool := s.trip.state != .IDLE

/-- The record of car `k`. -/
def State.car (s : State) (k : CarId) : CarRecord := s.pos.cars.get k

/-- The berth of car `k`. -/
def State.berth (s : State) (k : CarId) : Option Halt := s.trip.berth.get k

/-- A reported position: the accumulator divided by 1000, rounded toward minus infinity, in mm (R12). -/
def reportedPos (c : CarRecord) : Int := c.accumulator.toInt / 1000

/-- Whether a channel is valid (R6). -/
def channelValid (c : ChannelState) : Bool := decide (2 ≤ c.window.length)

/-- The driving channel (R7). -/
def drivingChannel (p : Position) : Option Channel :=
  if channelValid p.chan.a then some .A else if channelValid p.chan.b then some .B else none

/-- Whether any latch is set (R61). -/
def anyLatch (b : Supervisor) : Bool := b.latchS.isSome || b.latchE.isSome || b.latchR.isSome

/-- The level a block reads from a discrete input: none accepted counts as OPEN (R170). -/
def dinLevel (s : State) (i : Fin 8) : Level := ((s.dins.get i).filtered).getD .OPEN

/-- Both cars referenced. -/
def bothReferenced (s : State) : Bool := (s.car .car1).referenced && (s.car .car2).referenced

/-- Whether every door record of one side is LOCKED. -/
def sideLocked (d : SideDoors) : Bool := d.doors.toList.all fun r => r.state == .LOCKED

/-- Whether every door record of a car is LOCKED. -/
def carLocked (d : CarDoors) : Bool := sideLocked d.sides.left && sideLocked d.sides.right

/-- Whether all sixteen door records are LOCKED. -/
def allLocked (s : State) : Bool := carLocked s.doors.one && carLocked s.doors.two

/-- Whether an output bit is set in the published word of the sequencer of halt `h` (R123, chapter 12.2). -/
def outputSet (s : State) (h : Halt) (bit : Nat) : Bool := ((s.seqs.get h).published).getLsbD bit

/-- The bits of a sequencer's output word (chapter 12.2). -/
def bitEntryOpen : Nat := 0
/-- EXIT_OPEN. -/
def bitExitOpen : Nat := 1
/-- DOOR_PERMIT. -/
def bitDoorPermit : Nat := 2
/-- DEPART_REQUEST. -/
def bitDepartRequest : Nat := 3
/-- CALLS_ACCEPTED. -/
def bitCallsAccepted : Nat := 4
/-- USER_A. -/
def bitUserA : Nat := 5

/-- The cars berthed at a halt. -/
def carsAt (s : State) (h : Halt) : List CarId :=
  [CarId.car1, CarId.car2].filter fun k => s.berth k == some h

/-- The halts at which a car is berthed. -/
def berthedHalts (s : State) : List Halt := allHalts.filter fun h => !(carsAt s h).isEmpty

/-- The magnitude of the measured speed. -/
def State.speedNow (s : State) : Nat := s.pos.measured.natAbs

/-- Whether the magnitude of the measured speed is above the standstill threshold (R10, R58, R103). -/
def aboveThreshold (s : State) : Bool := decide (s.params.standstillSpeed.toNat < s.speedNow)

end Sys2Proof.Machine
end

