-- ==== Sys2Proof/Machine/Ops.lean ====
section
/-!
DEFINITION. The operations that every block shares: announcing (R76, R115, R130), building frames and placing them in
the output queues (R161, R168), notices (R181) and answers (R97, R173).
-/

namespace Sys2Proof.Machine

/-- Announce `a`: it is carried through after every announcement made before it (R76). -/
def announce (a : Ann) (s : State) : State := { s with agenda := s.agenda ++ [a] }

/-- Announce `a` when `b` holds. -/
def announceIf (b : Bool) (a : Ann) (s : State) : State := if b then announce a s else s

/-! ## Frames and queues -/

/-- The kind code of a frame (R191). -/
def contentKind : Content → Byte
  | .brakeOrder _ _ => 0x20
  | .demand _ => 0x09
  | .doorOrder _ _ => 0x21
  | .gateSetMode _ => 0x22
  | .gateAdmitOne _ => 0x22
  | .gateRefuse _ _ _ => 0x22
  | .fareQuery _ _ _ _ _ => 0x23
  | .fareUse _ _ _ _ _ _ => 0x24
  | .lineAnswer _ _ _ => 0x25
  | .lineStatus _ => 0x26
  | .notice _ _ _ => 0x27
  | .mgmtAnswer _ _ _ _ => 0x28
  | .driveState _ => 0x0A
  | .brakeState _ => 0x0B
  | .transit kind _ => kind

/-- Whether two frames have one urgent key: the kind, and the role for which they were addressed (R168). -/
def sameKey (x y : OutFrame) : Bool := (contentKind x.content == contentKind y.content) && (x.role == y.role)

/-- Whether a frame is a LINE_STATUS. -/
def isLineStatus (f : OutFrame) : Bool := contentKind f.content == 0x26#8

/-- Replace the first element that satisfies `p` by `x`, in its place. -/
def replaceFirst {α : Type} (p : α → Bool) (x : α) : List α → List α
  | [] => []
  | y :: ys => if p y then x :: ys else y :: replaceFirst p x ys

/-- Change port `q`. -/
def modPort (q : PortId) (f : Port → Port) (s : State) : State :=
  { s with ports := s.ports.set q (f (s.ports.get q)) }

/-- A frame enters a normal queue (R168). -/
def Port.withNormal (x : OutFrame) (p : Port) : Port :=
  if isLineStatus x && p.normal.any isLineStatus then { p with normal := replaceFirst isLineStatus x p.normal }
  else if p.normal.length < 32 then { p with normal := p.normal ++ [x] }
  else { p with counters := { p.counters with normalDrops := satInc p.counters.normalDrops } }

/-- A frame enters an urgent queue: in the place of the held frame of its key, or at the tail (R168, R171). -/
def Port.withUrgent (x : OutFrame) (p : Port) : Port :=
  if p.urgent.any (sameKey x) then
    { p with
      urgent := replaceFirst (sameKey x) x p.urgent
      counters := { p.counters with urgentReplacements := satInc p.counters.urgentReplacements } }
  else { p with urgent := p.urgent ++ [x] }

/-- Place a frame in the normal queue of port `q` (R168). -/
def placeNormal (q : PortId) (x : OutFrame) (s : State) : State := modPort q (Port.withNormal x) s

/-- Place a frame in the urgent queue of port F, the only port with urgent frames (R168). -/
def placeUrgent (x : OutFrame) (s : State) : State := modPort .F (Port.withUrgent x) s

/-- A frame of the part's own for the node of entry `e` (R161). -/
def frameFor (e : NodeEntry) (role : Option Role) (c : Content) (s : State) : OutFrame :=
  ⟨e.address, s.mgmt.ownAddress, role, c⟩

/-- Build a frame for the first entry with role `r` and place it in the normal queue of that entry's side; no entry, no
frame (R161). -/
def sendNormal (r : Role) (c : Content) (s : State) : State :=
  match firstRole s.active.b r with
  | none => s
  | some e => placeNormal (nodeSide e) (frameFor e none c s) s

/-- Build a frame for the first entry with role `r` and place it in the urgent queue of port F; no entry, no frame
(R161, R64, R107). -/
def sendUrgent (r : Role) (c : Content) (s : State) : State :=
  match firstRole s.active.b r with
  | none => s
  | some e => placeUrgent (frameFor e (some r) c s) s

/-- Build a frame for the node of gate `g` and place it in the normal queue of its side (R139, R151, R161). -/
def sendGate (g : GateId) (c : Content) (s : State) : State :=
  match gateNode s.active.b g with
  | none => s
  | some e => placeNormal (nodeSide e) (frameFor e none c s) s

/-! ## Notices (R181) -/

/-- The place of a notice: its priority less one. -/
def noticeIndex : Notice → Fin 24
  | .RAIL_STAGE => 0
  | .EMERGENCY_STAGE => 1
  | .SERVICE_STAGE => 2
  | .SLIP => 3
  | .POSITION_FAULT => 4
  | .OVERRUN => 5
  | .ROLLBACK => 6
  | .SAMPLE_LOSS => 7
  | .BRAKE_NO_ANSWER => 8
  | .CHANNEL_DISCREPANCY => 9
  | .OVERSPEED_WARNING => 10
  | .CAR_LINK_LOST => 11
  | .DOOR_FAULT => 12
  | .DOOR_LINK_LOST => 13
  | .DEMAND_SUBSTITUTED => 14
  | .DISPATCH_TIMEOUT => 15
  | .SEQUENCER_CYCLING => 16
  | .PORT_DOWN => 17
  | .FARE_SERVER_LOST => 18
  | .GATE_FAULT => 19
  | .UNVERIFIED_PASSAGE => 20
  | .QUEUE_FULL => 21
  | .COMMIT_APPLIED => 22
  | .CONFIG_INVALID => 23

/-- How many notices are pending. -/
def pendingNotices (m : Management) : Nat := (m.notices.toList.filter fun r => r.pending).length

/-- A notice record after an occurrence at local time `now` (R181). -/
def NoticeRecord.occurred (now : Nat) (r : NoticeRecord) : NoticeRecord where
  pending := true
  count := if r.count < 255 then r.count + 1 else 255
  first := if r.pending then r.first else some now
  latest := some now

/-- The occurrence of a notice (R181): its record, and a NOTICE frame to the console when the record goes from not
pending to pending and its notify flag is set. -/
def occur (n : Notice) (s : State) : State :=
  let i := noticeIndex n
  let r := s.mgmt.notices.get i
  let s1 : State := { s with mgmt := { s.mgmt with notices := vset s.mgmt.notices i (r.occurred s.localTime) } }
  if !r.pending && s.active.a.notify.getLsbD i.val then
    sendNormal .CONSOLE (.notice n s.localTime (pendingNotices s1.mgmt)) s1
  else s1

/-! ## Answers -/

/-- Answer a request or a call: a LINE_ANSWER to the frame's source, on the port it arrived on (R97, R165). -/
def answerLine (hdr : Header) (number kind : Byte) (a : LineAnswer) (s : State) : State :=
  placeNormal hdr.port ⟨hdr.src, s.mgmt.ownAddress, none, .lineAnswer number kind a⟩ s

/-- Answer a management frame: a MGMT_ANSWER to its source, on the port it arrived on (R173, R165). -/
def answerMgmt (hdr : Header) (tag kind : Byte) (code : MgmtCode) (detail : List Byte) (s : State) : State :=
  placeNormal hdr.port ⟨hdr.src, s.mgmt.ownAddress, none, .mgmtAnswer tag kind code detail⟩ s

end Sys2Proof.Machine
end

