-- ==== Sys2Proof/Machine/Pulse.lean ====
section
/-!
DEFINITION. The pulse unit (chapter 7.9): reference events, the running pulses and the signal output levels.
-/

namespace Sys2Proof.Machine

/-- The reference events (R133); a user bit is 0 for A, 1 for B, 2 for C. -/
inductive RefEvent
  | departureAccepted
  | brakeReleased
  | berthed (h : Halt)
  | doorsWithdrawn (h : Halt)
  | overspeedWarning
  | latchSet
  | userRise (q : Halt) (bit : Fin 3)
  | userFall (q : Halt) (bit : Fin 3)
  deriving DecidableEq, Repr

/-- The halt or sequencer that a pulse entry names, in bits 0 to 2 of its second reference byte (R192). That a set bit which the kind does
not use is ignored is the model's choice (notes/assumptions/64). -/
def pulseArgHalt (e : PulseEntry) : Option Halt := haltOfByte (e.refArg &&& 0x07#8)

/-- The user bit that a pulse entry names, in bits 4 and 5 of its second reference byte (R192). -/
def pulseArgBit (e : PulseEntry) : Fin 3 :=
  ⟨min 2 (((e.refArg >>> 4) &&& 0x03#8).toNat), by omega⟩

/-- The reference event of a pulse entry (R133, R192); none when its halt or sequencer is above 5. -/
def refEventOf (e : PulseEntry) : Option RefEvent :=
  match codeAt 7 e.refKind with
  | 0 => some .departureAccepted
  | 1 => some .brakeReleased
  | 2 => (pulseArgHalt e).map .berthed
  | 3 => (pulseArgHalt e).map .doorsWithdrawn
  | 4 => some .overspeedWarning
  | 5 => some .latchSet
  | 6 => (pulseArgHalt e).map fun h => .userRise h (pulseArgBit e)
  | _ => (pulseArgHalt e).map fun h => .userFall h (pulseArgBit e)

/-- What runs for an entry after its event: ACTIVE with start offset 0, else WAITING, timed from the event (R134). -/
def startRun (e : PulseEntry) : PulseRun := ⟨if e.start = 0#16 then .ACTIVE else .WAITING, some 0⟩

/-- Give a reference event to the pulse unit: every enabled entry that it matches starts or restarts (R134). -/
def giveEvent (ev : RefEvent) (s : State) : State :=
  { s with
    pulses := all16.foldl
      (fun v i =>
        let e := s.active.a.pulses.get i
        if yes e.enabled && (refEventOf e == some ev) then vset v i (startRun e) else v)
      s.pulses }

/-- A waiting pulse reaches its start offset (R134). -/
def pulseStarts (i : Fin 16) (s : State) : State :=
  match (s.pulses.get i).state with
  | .WAITING => { s with pulses := vmod s.pulses i fun r => { r with state := .ACTIVE } }
  | _ => s

/-- An active pulse reaches its end offset (R134). -/
def pulseEnds (i : Fin 16) (s : State) : State :=
  match (s.pulses.get i).state with
  | .ACTIVE => { s with pulses := vmod s.pulses i fun r => { r with state := .IDLE } }
  | _ => s

/-- Whether signal output `o` is active: some entry that drives it has an ACTIVE pulse (R135). -/
def outputActive (s : State) (o : Fin 8) : Bool :=
  all16.any fun i => decide (codeAt 7 (s.active.a.pulses.get i).output = o.val) && ((s.pulses.get i).state == .ACTIVE)

/-- The level of the SIG pin of output `o`, high when true (R135); none while the pins are not driven (R136, R188). -/
def sigLevel (s : State) (o : Fin 8) : Option Bool :=
  if s.sigDriven then some (outputActive s o != yes (s.active.a.polarity.get o)) else none

/-- The pulses after a group A commit: those whose entry differs in any field become IDLE (R135). That a field differs when its byte does,
also between two codes that read alike, and that such a pulse has no event any more, are the model's choices
(notes/assumptions/62, 63). -/
def pulsesAfterCommit (old new : GroupA) (v : Vector PulseRun 16) : Vector PulseRun 16 :=
  all16.foldl (fun v i => if old.pulses.get i = new.pulses.get i then v else vset v i PulseRun.start) v

end Sys2Proof.Machine
end

