-- ==== Sys2Proof/Machine/Brake.lean ====
section
/-!
DEFINITION. The brake supervisor (chapter 4): causes, latches, the commanded stage, orders and answers, the rollback
monitor, the deceleration check and the two resets.
-/

namespace Sys2Proof.Machine

/-- The rank of a stage (R53). -/
def stageRank : Stage → Nat
  | .RELEASED => 0
  | .HOLD => 1
  | .SERVICE => 2
  | .EMERGENCY => 3
  | .RAIL => 4

/-- The higher of two stages (R53). -/
def stageMax (x y : Stage) : Stage := if stageRank x < stageRank y then y else x

/-- The stage that a cause demands (R55); BRAKE_NO_ANSWER is raised with a stage of its own (R66). -/
def causeStage : Cause → Stage
  | .OVERSPEED_SERVICE => .SERVICE
  | .OVERSPEED_EMERGENCY => .EMERGENCY
  | .OVERSPEED_ABSOLUTE => .EMERGENCY
  | .OVERRUN => .EMERGENCY
  | .ROLLBACK => .EMERGENCY
  | .DOORS_NOT_LOCKED => .EMERGENCY
  | .SAMPLE_LOSS => .EMERGENCY
  | .POSITION => .EMERGENCY
  | .ESTOP => .EMERGENCY
  | .START => .EMERGENCY
  | .CHANNEL_DISCREPANCY => .SERVICE
  | .CAR_LINK_LOST => .SERVICE
  | .SLIP => .RAIL
  | .DECEL_NOT_ACHIEVED => .RAIL
  | .BRAKE_NO_ANSWER => .EMERGENCY

/-- The stage that the latches demand (R62). -/
def latchStage (b : Supervisor) : Stage :=
  if b.latchR.isSome then .RAIL else if b.latchE.isSome then .EMERGENCY else if b.latchS.isSome then .SERVICE else .RELEASED

/-- The stage that the trip request asks for (R63). -/
def requestStage (b : Supervisor) : Stage := if b.wantsRelease then .RELEASED else .HOLD

/-- The highest stage that an active cause, a set latch or the trip request demands (R62). -/
def demandedStage (b : Supervisor) : Stage :=
  b.active.foldl (fun st c => stageMax st (causeStage c)) (stageMax (requestStage b) (latchStage b))

/-- Place the order for a change of stage from `old` to `new` (R64): the number, the outstanding order, the frame toward
the brake controller and, when RAIL is reached or left, the same order toward both car relays. -/
def placeBrakeOrder (old new : Stage) (s : State) : State :=
  let n := s.brake.counter + 1#8
  let s1 : State := { s with brake := { s.brake with counter := n, outstanding := some ⟨n, new, none⟩ } }
  let s2 := sendUrgent .BRAKE (.brakeOrder n new) s1
  if new = .RAIL ∨ old = .RAIL then
    sendUrgent .CAR_2 (.brakeOrder n new) (sendUrgent .CAR_1 (.brakeOrder n new) s2)
  else s2

/-- The deceleration check after a change of stage (R67): its fixed 500 ms start with a rise to EMERGENCY from below; a rise
to RAIL or a fall below EMERGENCY stops it. It keeps the minimum emergency deceleration of its start (R72). -/
def decelAfter (old new : Stage) (speed minimum : Nat) (d : Option DecelCheck) : Option DecelCheck :=
  if new = .EMERGENCY then (if stageRank old < 3 then some ⟨speed, minimum, 500⟩ else d) else none

/-- The notice of a rise of the stage (R68). -/
def stageNotice (old new : Stage) (s : State) : State :=
  if stageRank old < stageRank new then
    match new with
    | .SERVICE => occur .SERVICE_STAGE s
    | .EMERGENCY => occur .EMERGENCY_STAGE s
    | .RAIL => occur .RAIL_STAGE s
    | _ => s
  else s

/-- The stage rule (R62): the demanded stage replaces the stage in force; then the order (R64) with the rollback monitor
(R57), the deceleration check (R67) and the announcements (R68). That the interlock of car 1 is evaluated before that of car 2 is
the model's choice (notes/assumptions/38). -/
def stageRule (s : State) : State :=
  let old := s.brake.commanded
  let new := demandedStage s.brake
  if new = old then s
  else
    let s1 : State := { s with brake := { s.brake with commanded := new } }
    let s2 := placeBrakeOrder old new s1
    let s3 : State := { s2 with brake := { s2.brake with
      rollback := if new = .RELEASED then some s2.pos.ropeTravel else none
      decel := decelAfter old new s2.speedNow s2.params.emergencyDecel.toNat s2.brake.decel } }
    let s4 := announce (.doorEval .car2) (announce (.doorEval .car1) (announce (.tripStage old new) s3))
    stageNotice old new s4

/-- Set the latch of a cause raised with stage `st`, if it is clear, and give LATCH_SET (R61). -/
def setLatch (c : Cause) (st : Stage) (s : State) : State :=
  match st with
  | .SERVICE =>
    if s.brake.latchS.isSome then s else giveEvent .latchSet { s with brake := { s.brake with latchS := some c } }
  | .EMERGENCY =>
    if s.brake.latchE.isSome then s else giveEvent .latchSet { s with brake := { s.brake with latchE := some c } }
  | .RAIL =>
    if s.brake.latchR.isSome then s else giveEvent .latchSet { s with brake := { s.brake with latchR := some c } }
  | _ => s

/-- What follows causes that have just become active or been raised: the latches (R61), the stage rule (R62), the
deceleration check of an EMERGENCY cause under EMERGENCY (R67), and the announcement of latch S (R68). That the demand filter hears of
a latch S behind the trip's entry to STOPPING on the same rise is the model's choice (notes/assumptions/50). -/
def causesAct (raised : List (Cause × Stage)) (s : State) : State :=
  let s1 := raised.foldl (fun s c => setLatch c.1 c.2 s) s
  let s2 := stageRule s1
  let s3 : State :=
    if s2.brake.commanded = .EMERGENCY ∧ s2.brake.decel.isNone ∧ raised.any (fun c => c.2 == .EMERGENCY) then
      { s2 with brake := { s2.brake with decel := some ⟨s2.speedNow, s2.params.emergencyDecel.toNat, 500⟩ } }
    else s2
  announceIf (s1.brake.latchS.isSome && !s.brake.latchS.isSome) .demandLatchS s3

/-- Raise an event cause with its stage (R55). -/
def raiseEvent (c : Cause) (st : Stage) (s : State) : State := causesAct [(c, st)] s

/-- Change the set of active level causes: those of `on` hold, those of `off` do not (R55). That causes which change at one
comparison are one change of the set, with one use of the stage rule, is the model's choice (notes/assumptions/39). -/
def changeCauses (on off : List Cause) (s : State) : State :=
  let newly := on.filter fun c => !(s.brake.active.contains c)
  let kept := s.brake.active.filter fun c => !(off.contains c)
  causesAct (newly.map fun c => (c, causeStage c)) { s with brake := { s.brake with active := kept ++ newly } }

/-- Make one level cause active or inactive as its condition holds. -/
def levelCause (c : Cause) (holds : Bool) (s : State) : State :=
  if holds then changeCauses [c] [] s else changeCauses [] [c] s

/-- DOORS_NOT_LOCKED (R58). -/
def evalDoorsCause (s : State) : State := levelCause .DOORS_NOT_LOCKED (aboveThreshold s && !allLocked s) s

/-- CAR_LINK_LOST (R60). -/
def evalLinkCause (s : State) : State :=
  levelCause .CAR_LINK_LOST (!s.pos.standstill && (s.brake.lossInForce.one || s.brake.lossInForce.two)) s

/-- ESTOP (R59). -/
def evalEstop (s : State) : State := levelCause .ESTOP (dinLevel s 0 == .OPEN) s

/-- The causes whose comparison with the permitted speed `v` holds, of the three overspeed causes (R56). -/
def overspeedCauses (v : Nat) (s : State) : List Cause :=
  (if v + s.params.serviceMargin.toNat < s.speedNow then [.OVERSPEED_SERVICE] else []) ++
  (if v + s.params.emergencyMargin.toNat < s.speedNow then [.OVERSPEED_EMERGENCY] else []) ++
  (if s.params.designMax.toNat * 115 / 100 < s.speedNow then [.OVERSPEED_ABSOLUTE] else [])

/-- The warning of a comparison with the permitted speed `v` (R56): going active, its notice and its reference event. -/
def evalWarning (v : Nat) (s : State) : State :=
  let holds := decide (v + s.params.warningMargin.toNat < s.speedNow)
  let s1 : State := { s with brake := { s.brake with warning := holds } }
  if holds && !s.brake.warning then giveEvent .overspeedWarning (occur .OVERSPEED_WARNING s1) else s1

/-- σ: +1 for a trip UP and −1 for a trip DOWN. -/
def dirSign : Dir → Int
  | .UP => 1
  | .DOWN => -1

/-- The rollback examination of a driving sample (R57). -/
def examineRollback (s : State) : State :=
  match s.brake.rollback with
  | none => s
  | some base =>
    let advance := dirSign s.trip.dir * (s.pos.ropeTravel - base).toInt
    if 0 < advance then { s with brake := { s.brake with rollback := some s.pos.ropeTravel } }
    else if (s.params.rollbackLimit.toNat : Int) * 1000 < -advance then
      raiseEvent .ROLLBACK .EMERGENCY (occur .ROLLBACK { s with brake := { s.brake with rollback := none } })
    else s

/-- The comparison on a recomputation handed to the supervisor, whose v_perm is `v` (R29, R56, R57, R58). That on a driving sample the comparison comes
before the rollback examination, and this before the doors cause, is the model's choice (notes/assumptions/39). -/
def brakeCompare (driving : Bool) (v : Nat) (s : State) : State :=
  let s1 := evalWarning v s
  let on := overspeedCauses v s1
  let off := [Cause.OVERSPEED_SERVICE, .OVERSPEED_EMERGENCY, .OVERSPEED_ABSOLUTE].filter fun c => !(on.contains c)
  let s2 := changeCauses on off s1
  evalDoorsCause (if driving then examineRollback s2 else s2)

/-- Set the trip request to HOLD and apply the stage rule (R63). -/
def requestHold (s : State) : State := stageRule { s with brake := { s.brake with wantsRelease := false } }

/-- The trip entered a state (R63): HOLD is requested at each entry but those to RUNNING and STOPPING. -/
def brakeTripEntered (entered : TripState) (s : State) : State :=
  match entered with
  | .RUNNING => s
  | .STOPPING => s
  | _ => requestHold s

/-- A door record changed (R115): DOORS_NOT_LOCKED, and a release in DEPARTING is refused when a record is not LOCKED (R63). -/
def brakeDoorsChanged (s : State) : State :=
  let s1 := evalDoorsCause s
  if s1.trip.state = .DEPARTING ∧ s1.brake.wantsRelease ∧ ¬ allLocked s1 then announce .tripReleaseLost (requestHold s1)
  else s1

/-- The trip sequencer asks for RELEASED (R63). -/
def requestRelease (s : State) : State :=
  if s.trip.state = .DEPARTING ∧ allLocked s ∧ ¬ anyLatch s.brake then
    stageRule { s with brake := { s.brake with wantsRelease := true } }
  else announce .tripReleaseLost s

/-- An order is unanswered (R66). -/
def orderUnanswered (o : BrakeOrder) (s : State) : State :=
  let s1 := occur .BRAKE_NO_ANSWER { s with brake := { s.brake with outstanding := none } }
  match o.stage with
  | .RELEASED => requestHold (announce .tripReleaseLost s1)
  | .HOLD => raiseEvent .BRAKE_NO_ANSWER .EMERGENCY s1
  | .SERVICE => raiseEvent .BRAKE_NO_ANSWER .EMERGENCY s1
  | .EMERGENCY => raiseEvent .BRAKE_NO_ANSWER .RAIL s1
  | .RAIL => s1

/-- Whether an applied stage conforms to an ordered stage (R65). -/
def conforms (ordered applied : Stage) : Bool :=
  (applied == ordered) || (decide (1 ≤ stageRank ordered) && decide (stageRank ordered < stageRank applied))

/-- A BRAKE_STATE is taken (R65). -/
def takeBrakeState (p : BrakeStateP) (s : State) : State :=
  match s.brake.outstanding with
  | some o =>
    if o.number = p.number then
      if conforms o.stage p.stage then
        let s1 : State := { s with brake := { s.brake with outstanding := none, applied := some p.stage } }
        if o.stage = .RELEASED then announce .tripReleased (giveEvent .brakeReleased s1) else s1
      else orderUnanswered o s
    else { s with brake := { s.brake with stale := satInc s.brake.stale } }
  | none => { s with brake := { s.brake with stale := satInc s.brake.stale } }

/-- The answer window of the outstanding order expires (R66). -/
def brakeWindowExpires (s : State) : State :=
  match s.brake.outstanding with
  | some o => if o.window.isSome then orderUnanswered o s else s
  | none => s

/-- Port F begins a BRAKE_ORDER toward the brake controller (R64, R169). -/
def brakeOrderBegun (number : Byte) (s : State) : State :=
  match s.brake.outstanding with
  | some o =>
    if o.number = number then
      { s with brake := { s.brake with outstanding := some { o with window := some s.params.brakeWindow.toNat } } }
    else s
  | none => s

/-- The deceleration check ends (R67): it is judged by the minimum emergency deceleration of its start (R72). -/
def decelCheckEnds (s : State) : State :=
  match s.brake.decel with
  | none => s
  | some d =>
    let s1 : State := { s with brake := { s.brake with decel := none } }
    if !s.pos.standstill && aboveThreshold s &&
        decide ((d.v0 : Int) - ((d.minimum / 2 : Nat) : Int) < s.speedNow) then
      raiseEvent .DECEL_NOT_ACHIEVED .RAIL s1
    else s1

/-- The answer to BRAKE_RESET (R70). -/
def brakeResetAnswer (s : State) : LineAnswer :=
  if !s.pos.standstill then .REFUSED .NOT_AT_STANDSTILL
  else if s.brake.active.any fun c => (causeStage c == .SERVICE) || (causeStage c == .EMERGENCY) then .REFUSED .CAUSE_ACTIVE
  else .ACCEPTED

/-- The effect of an accepted BRAKE_RESET (R70). -/
def brakeResetEffect (s : State) : State :=
  stageRule { s with brake := { s.brake with latchS := none, latchE := none, wantsRelease := false } }

/-- Whether RAIL_RESET is answered OK (R71). -/
def railResetAllowed (s : State) : Bool :=
  s.pos.standstill && !(s.brake.active.any fun c => causeStage c == .RAIL) &&
    (s.car .car1).linkUp && (s.car .car2).linkUp &&
    ((s.car .car1).rail == some .READY) && ((s.car .car2).rail == some .READY)

/-- The effect of an accepted RAIL_RESET (R71). -/
def railResetEffect (s : State) : State :=
  stageRule { s with brake := { s.brake with latchR := none, wantsRelease := false } }

/-- START is raised after the supervisor record has its start values, and ESTOP then becomes active (R59, R73). -/
def raiseStart (s : State) : State := evalEstop (raiseEvent .START .EMERGENCY s)

end Sys2Proof.Machine
end

