-- ==== Sys2Proof/Machine/Door.lean ====
section
/-!
DEFINITION. The door unit (chapter 6): reports, the release interlock, door orders and their merge, answers, the close limit,
and cars heard and lost.
-/

namespace Sys2Proof.Machine

/-- Change the doors of car `k`. -/
def modDoors (k : CarId) (f : CarDoors → CarDoors) (s : State) : State :=
  { s with doors := s.doors.set k (f (s.doors.get k)) }

/-- Change both sides of a car. -/
def CarDoors.mapSides (f : SideDoors → SideDoors) (d : CarDoors) : CarDoors :=
  { d with sides := ⟨f d.sides.left, f d.sides.right⟩ }

/-- Whether a door record is unlocked: RELEASED or OPEN (R105). -/
def doorUnlocked (r : DoorRecord) : Bool := (r.state == .RELEASED) || (r.state == .OPEN)

/-! ## The interlock (R103, R105, R106) -/

/-- The permitted set of car `k` and side `sd` (R103). -/
def permittedSet (s : State) (k : CarId) (sd : Side) : Compartments :=
  match s.berth k with
  | none => 0#4
  | some h =>
    if haltHasSide s.active.b h sd && s.inService && (s.brake.commanded != .RELEASED) && !aboveThreshold s &&
        outputSet s h bitDoorPermit then haltMask s.active.b h
    else 0#4

/-- Whether a side has an outstanding release whose order port F has begun (R105). -/
def windowRunning (d : SideDoors) : Bool :=
  match d.outstanding with
  | some o => o.window.isSome
  | none => false

/-- The withdraw set of a side under a permission (R105). -/
def withdrawSet (perm : Compartments) (d : SideDoors) : Compartments :=
  if windowRunning d then 0#4
  else compartmentsWhere fun c => !setHas perm c && (doorUnlocked (d.doors.get c) || setHas d.released c)

/-- The records of the withdrawn doors that are RELEASED or OPEN become CLOSING, with `ms` on their close timers (R105). -/
def closeDoors (ms : Nat) (w : Compartments) (d : SideDoors) : SideDoors :=
  { d with
    doors := all4.foldl
      (fun v c => if setHas w c && doorUnlocked (v.get c) then vset v c ⟨.CLOSING, some ms⟩ else v)
      d.doors }

/-- The release set of a side under a permission (R106). -/
def releaseSet (perm : Compartments) (d : SideDoors) : Compartments :=
  if d.outstanding.isSome then 0#4
  else compartmentsWhere fun c => setHas perm c && ((d.doors.get c).state == .LOCKED) && !setHas d.released c

/-- The doors that a side adopts under a permission (R106). -/
def adoptSet (perm : Compartments) (d : SideDoors) : Compartments :=
  if d.outstanding.isSome then 0#4
  else compartmentsWhere fun c => setHas perm c && doorUnlocked (d.doors.get c)

/-- A side after an evaluation has withdrawn, released and adopted (R105, R106). -/
def evaluatedSide (ms : Nat) (perm : Compartments) (d : SideDoors) : SideDoors :=
  let w := withdrawSet perm d
  let d1 := closeDoors ms w { d with released := setMinus d.released w }
  { d1 with released := d1.released ||| releaseSet perm d1 ||| adoptSet perm d1 }

/-- The release set that the evaluation of a side finds, after its withdrawals (R106). -/
def evaluatedRelease (ms : Nat) (perm : Compartments) (d : SideDoors) : Compartments :=
  let w := withdrawSet perm d
  releaseSet perm (closeDoors ms w { d with released := setMinus d.released w })

/-! ## Orders (R107) -/

/-- Merge a new order with the queued one (R107, step 3). -/
def mergeOrder (queued : Option DoorOrder) (new : DoorOrder) : DoorOrder :=
  match queued with
  | none => new
  | some q =>
    { token := new.token
      releaseLeft := setMinus q.releaseLeft new.withdrawLeft ||| new.releaseLeft
      withdrawLeft := setMinus q.withdrawLeft new.releaseLeft ||| new.withdrawLeft
      releaseRight := setMinus q.releaseRight new.withdrawRight ||| new.releaseRight
      withdrawRight := setMinus q.withdrawRight new.releaseRight ||| new.withdrawRight }

/-- The outstanding release of a side after an order: moved from the queued token to the new one (R107, step 3), or new
where the order releases on a side that has none (R107, step 5). -/
def outstandingAfter (queued : Option DoorOrder) (new : Byte) (release : Compartments) (d : SideDoors) : SideDoors :=
  match d.outstanding with
  | some o => if queued.map DoorOrder.token = some o.token then { d with outstanding := some { o with token := new } } else d
  | none => if release = 0#4 then d else { d with outstanding := some ⟨new, none⟩ }

/-- Place a door order in the urgent queue of port F; it becomes the car's queued order (R107, step 4). -/
def placeDoorOrder (k : CarId) (o : DoorOrder) (s : State) : State :=
  match firstRole s.active.b (carRole k) with
  | none => s
  | some e =>
    modDoors k (fun d => { d with queued := some o })
      (placeUrgent (frameFor e (some (carRole k)) (.doorOrder k o) s) s)

/-- Give DOORS_WITHDRAWN for an order with a withdraw set, for a car that has a berth (R115). -/
def giveWithdrawn (k : CarId) (o : DoorOrder) (s : State) : State :=
  match s.berth k with
  | none => s
  | some h => if o.withdrawLeft = 0#4 ∧ o.withdrawRight = 0#4 then s else giveEvent (.doorsWithdrawn h) s

/-- Build a door order for car `k` from the release and withdraw sets of its sides (R107). -/
def buildDoorOrder (k : CarId) (rl wl rr wr : Compartments) (s : State) : State :=
  let d := s.doors.get k
  let o := mergeOrder d.queued ⟨d.token + 1#8, rl, wl, rr, wr⟩
  giveWithdrawn k o
    (placeDoorOrder k o
      (modDoors k
        (fun d => { d with
          token := o.token
          sides := ⟨outstandingAfter d.queued o.token o.releaseLeft d.sides.left,
            outstandingAfter d.queued o.token o.releaseRight d.sides.right⟩ }) s))

/-! ## Evaluation, hearing, reports -/

/-- The door close limit in ms. -/
def doorCloseMs (s : State) : Nat := s.params.doorCloseLimit.toNat * 1000

/-- Evaluate the release interlock for car `k` (R104 to R107). -/
def evaluateDoors (k : CarId) (s : State) : State :=
  let ms := doorCloseMs s
  let pl := permittedSet s k .LEFT
  let pr := permittedSet s k .RIGHT
  let d := s.doors.get k
  let wl := withdrawSet pl d.sides.left
  let wr := withdrawSet pr d.sides.right
  let rl := evaluatedRelease ms pl d.sides.left
  let rr := evaluatedRelease ms pr d.sides.right
  let s1 := modDoors k (fun d => { d with sides := ⟨evaluatedSide ms pl d.sides.left, evaluatedSide ms pr d.sides.right⟩ }) s
  if rl = 0#4 ∧ wl = 0#4 ∧ rr = 0#4 ∧ wr = 0#4 then s1 else buildDoorOrder k rl wl rr wr s1

/-- The states of all the door records of a car. -/
def doorStates (d : CarDoors) : List DoorState :=
  d.sides.left.doors.toList.map DoorRecord.state ++ d.sides.right.doors.toList.map DoorRecord.state

/-- Carry out an event of the door unit and announce a changed record to the brake supervisor (R115). The trip sequencer
and the platform sequencers learn of it after every event. -/
def doorEvent (k : CarId) (f : State → State) (s : State) : State :=
  let s1 := f s
  announceIf (doorStates (s.doors.get k) != doorStates (s1.doors.get k)) .brakeDoors s1

/-- The release interlock of car `k` is evaluated as an event of its own (R104). -/
def doorEvaluation (k : CarId) (s : State) : State := doorEvent k (evaluateDoors k) s

/-- Car `k` is heard, if it has not been (R113). -/
def hearCar (k : CarId) (s : State) : State :=
  if (s.doors.get k).heard then s
  else
    let ms := doorCloseMs s
    let wl := ~~~permittedSet s k .LEFT
    let wr := ~~~permittedSet s k .RIGHT
    buildDoorOrder k 0#4 wl 0#4 wr
      (modDoors k
        (fun d => { d with heard := true, sides := ⟨closeDoors ms wl d.sides.left, closeDoors ms wr d.sides.right⟩ }) s)

/-- A frame of the car's relay other than a DOOR_STATE hears the car (R113, R104). -/
def carHeardByReport (k : CarId) (s : State) : State :=
  if (s.doors.get k).heard then s else doorEvent k (fun s => evaluateDoors k (hearCar k s)) s

/-- A door record after a report (R102). -/
def reportedDoor (rep : DoorReport) (r : DoorRecord) : DoorRecord :=
  match rep with
  | .LOCKED => ⟨.LOCKED, none⟩
  | .RELEASED => if r.state = .CLOSING then r else ⟨.RELEASED, none⟩
  | .OPEN => if r.state = .CLOSING then r else ⟨.OPEN, none⟩
  | .FAULT => ⟨.FAULT, none⟩

/-- One side after the reports of its four doors (R102). -/
def reportedSide (reps : Vector DoorReport 4) (d : SideDoors) : SideDoors :=
  { d with doors := Vector.zipWith reportedDoor reps d.doors }

/-- How many records of a side become FAULT from another state (R102). -/
def newFaults (reps : Vector DoorReport 4) (d : SideDoors) : Nat :=
  (all4.filter fun c => (reps.get c == .FAULT) && ((d.doors.get c).state != .FAULT)).length

/-- The occurrence of a notice, `n` times. -/
def occurTimes (x : Notice) : Nat → State → State
  | 0, s => s
  | n + 1, s => occurTimes x n (occur x s)

/-- A side after an answer that carries `token` (R110). -/
def answeredSide (token : Byte) (d : SideDoors) : SideDoors :=
  match d.outstanding with
  | some o => if o.token = token then { d with outstanding := none } else d
  | none => d

/-- A DOOR_STATE of car `k` is taken (R102). -/
def takeDoorState (k : CarId) (p : DoorStateP) (s : State) : State :=
  doorEvent k
    (fun s =>
      let d := s.doors.get k
      let s1 := modDoors k (fun d => { d with
        sides := ⟨reportedSide p.left d.sides.left, reportedSide p.right d.sides.right⟩
        linkFault := false }) s
      let s2 := occurTimes .DOOR_FAULT (newFaults p.left d.sides.left + newFaults p.right d.sides.right) s1
      let s3 := if p.mark = .ANSWER then modDoors k (CarDoors.mapSides (answeredSide p.token)) s2 else s2
      evaluateDoors k (hearCar k s3))
    s

/-- A side with its doors UNKNOWN, no outstanding release and nothing released (R111, R114). -/
def sideForgotten (_ : SideDoors) : SideDoors := ⟨Vector.replicate 4 ⟨.UNKNOWN, none⟩, 0#4, none⟩

/-- The answer window of an outstanding release of car `k` expires (R111). -/
def doorWindowExpires (k : CarId) (sd : Side) (s : State) : State :=
  if windowRunning ((s.doors.get k).sides.get sd) then
    doorEvent k
      (fun s =>
        let s1 := modDoors k (CarDoors.mapSides fun d => { d with outstanding := none }) s
        let d := s1.doors.get k
        let s2 := buildDoorOrder k 0#4 d.sides.left.released 0#4 d.sides.right.released s1
        let s3 := modDoors k (fun d => { d.mapSides sideForgotten with linkFault := true }) s2
        evaluateDoors k (occur .DOOR_LINK_LOST s3))
      s
  else s

/-- The close timer of a record expires (R112). -/
def closeTimerExpires (k : CarId) (sd : Side) (c : Fin 4) (s : State) : State :=
  let r := ((s.doors.get k).sides.get sd).doors.get c
  if r.state = .CLOSING ∧ r.closeTimer.isSome then
    doorEvent k
      (fun s =>
        let s1 := modDoors k (fun d => { d with
          sides := d.sides.set sd { d.sides.get sd with doors := vset (d.sides.get sd).doors c ⟨.FAULT, none⟩ } }) s
        evaluateDoors k (occur .DOOR_FAULT s1))
      s
  else s

/-- The position unit announces the loss of the link of car `k` (R114). -/
def doorLinkLost (k : CarId) (s : State) : State :=
  doorEvent k (modDoors k fun d => { d.mapSides sideForgotten with heard := false }) s

/-- Port F begins the order of car `k` with the given token (R107). -/
def doorOrderBegun (k : CarId) (token : Byte) (s : State) : State :=
  let ms := s.params.doorWindow.toNat
  let begun (d : SideDoors) : SideDoors :=
    match d.outstanding with
    | some o => if o.token = token then { d with outstanding := some { o with window := some ms } } else d
    | none => d
  modDoors k (fun d =>
    { d.mapSides begun with queued := if d.queued.map DoorOrder.token = some token then none else d.queued }) s

end Sys2Proof.Machine
end

