-- ==== Sys2Proof/Machine/Position.lean ====
section
/-!
DEFINITION. The position unit (chapter 1): sheave samples, speeds and standstill, car reports, markers and the pair check,
sample loss, discrepancy and slip.
-/

namespace Sys2Proof.Machine

/-- Change the position unit. -/
def modPos (f : Position → Position) (s : State) : State := { s with pos := f s.pos }

/-- Change the record of car `k`. -/
def modCar (k : CarId) (f : CarRecord → CarRecord) (s : State) : State :=
  modPos (fun p => { p with cars := p.cars.set k (f (p.cars.get k)) }) s

/-- Change the state of channel `ch`. -/
def modChan (ch : Channel) (f : ChannelState → ChannelState) (s : State) : State :=
  modPos (fun p => { p with chan := p.chan.set ch (f (p.chan.get ch)) }) s

/-! ## Samples (R4 to R8) -/

/-- The UP-positive count difference from `o` to `n` (R4). -/
def countDiff (inverted : Bool) (o n : SampleEntry) : Int :=
  if inverted then -(n.count - o.count).toInt else (n.count - o.count).toInt

/-- The stamp difference from `o` to `n` (R4). -/
def stampDiff (o n : SampleEntry) : Nat := (n.stamp - o.stamp).toNat

/-- The newest entry of a window. -/
def newest (w : List SampleEntry) : Option SampleEntry := w.getLast?

/-- Which check of R5 decides a sample. -/
inductive SampleCheck | headFault | first | duplicate | gap | implausible | accepted
  deriving DecidableEq, Repr

/-- The check that decides (R5). -/
def sampleCheck (scale : Nat) (inverted : Bool) (c : ChannelState) (status : SampleStatus) (e : SampleEntry) : SampleCheck :=
  match status, newest c.window with
  | .HEAD_FAULT, _ => .headFault
  | .NORMAL, none => .first
  | .NORMAL, some n =>
    if stampDiff n e = 0 then .duplicate
    else if 2000 < stampDiff n e then .gap
    else if 25000 < (countDiff inverted n e).natAbs * scale * 10 / stampDiff n e then .implausible
    else .accepted

/-- A channel after a sample decided by a check (R5). -/
def channelAfter (k : SampleCheck) (e : SampleEntry) (c : ChannelState) : ChannelState :=
  match k with
  | .headFault => { c with window := [], rejections := satInc c.rejections, rejects := 0 }
  | .first => { c with window := [e] }
  | .duplicate => { c with duplicates := satInc c.duplicates }
  | .gap => { c with window := [e], gaps := satInc c.gaps, rejects := 0 }
  | .implausible =>
    if c.rejects + 1 < 3 then { c with rejections := satInc c.rejections, rejects := c.rejects + 1 }
    else { c with window := [], rejections := satInc c.rejections, rejects := 0 }
  | .accepted =>
    { c with window := (if 4 ≤ c.window.length then c.window.drop 1 else c.window) ++ [e], rejects := 0 }

/-- Whether a check accepts the sample (R5). -/
def accepts : SampleCheck → Bool
  | .first => true
  | .gap => true
  | .accepted => true
  | _ => false

/-! ## Speeds and standstill (R9, R10) -/

/-- The speed of a channel, if it is valid (R9). -/
def channelSpeed (scale : Nat) (inverted : Bool) (c : ChannelState) : Option Int :=
  match c.window, newest c.window with
  | o :: _ :: _, some n =>
    let d := countDiff inverted o n
    let v := d.natAbs * scale * 10 / stampDiff o n
    some (if d < 0 then -(v : Int) else v)
  | _, _ => none

/-- The speed of channel `ch`. -/
def speedOf (s : State) (ch : Channel) : Option Int :=
  channelSpeed (channelScale s.active.b ch).toNat (channelInverted s.active.b ch) (s.pos.chan.get ch)

/-- The magnitude of an optional speed, 0 when absent. -/
def magOf : Option Int → Nat
  | none => 0
  | some v => v.natAbs

/-- The measured speed as the windows give it (R9); a driving speed of 0 leaves its sign free (notes/assumptions/9). -/
def measuredFrom (s : State) : Int :=
  let mag := max (magOf (speedOf s .A)) (magOf (speedOf s .B))
  match drivingChannel s.pos with
  | none => s.pos.measured
  | some ch =>
    let v := (speedOf s ch).getD 0
    if v < 0 then -(mag : Int)
    else if 0 < v then mag
    else if mag = 0 then 0
    else if Config.zeroDrivingSpeedIsNegative mag then -(mag : Int)
    else mag

/-- The standstill rule at a recomputation of the measured speed (R10). -/
def standstillRule (s : State) : State :=
  if aboveThreshold s || (drivingChannel s.pos).isNone then
    modPos (fun p => { p with standstill := false, standstillTimer := none }) s
  else if !s.pos.standstill && s.pos.standstillTimer.isNone then
    modPos (fun p => { p with standstillTimer := some s.params.standstillTime.toNat }) s
  else s

/-- Recompute the measured speed and apply the standstill rule (R9, R10). -/
def recomputeMeasured (s : State) : State :=
  standstillRule (modPos (fun p => { p with measured := measuredFrom s }) s)

/-- Both cars' interlocks are evaluated when the speed crosses the threshold between `a` and `b` (R104), car 1 first
(notes/assumptions/38). -/
def announceCrossing (a b : State) : State :=
  if aboveThreshold a = aboveThreshold b then b else announce (.doorEval .car2) (announce (.doorEval .car1) b)

/-- A change of the standstill flag between `a` and `b` reaches the brake supervisor (R10, R60). -/
def announceStandstill (a b : State) : State :=
  if a.pos.standstill = b.pos.standstill then b else evalLinkCause b

/-! ## Discrepancy and slip (R19, R20) -/

/-- CHANNEL_DISCREPANCY ends and its timer stops (R19). -/
def endDiscrepancy (s : State) : State :=
  levelCause .CHANNEL_DISCREPANCY false (modPos (fun p => { p with discrepancyTimer := none, discrepancy := false }) s)

/-- The discrepancy test after an accepted sample, and after a change of validity (R19). -/
def discrepancyTest (s : State) : State :=
  match speedOf s .A, speedOf s .B with
  | some va, some vb =>
    if 100 + s.speedNow / 50 < (va - vb).natAbs then
      if s.pos.discrepancyTimer.isNone && !s.pos.discrepancy then modPos (fun p => { p with discrepancyTimer := some 100 }) s
      else s
    else endDiscrepancy s
  | _, _ => endDiscrepancy s

/-- SLIP is a cause while it is active for either car (R20). -/
def evalSlipCause (s : State) : State := levelCause .SLIP ((s.car .car1).slip || (s.car .car2).slip) s

/-- The slip timer of car `k` stops and its SLIP ends (R20). -/
def endSlip (k : CarId) (s : State) : State :=
  evalSlipCause (modCar k (fun c => { c with slipTimer := none, slip := false }) s)

/-- The speed of car `k` converted to UP-positive (R20). -/
def carSpeedUp : CarId → Int → Int
  | .car1, v => v
  | .car2, v => -v

/-- The slip test of car `k` (R20). -/
def slipTest (k : CarId) (s : State) : State :=
  let c := s.car k
  if !c.linkUp then s
  else
    match c.speed, drivingChannel s.pos with
    | some v, some _ =>
      if 300 < (carSpeedUp k v - s.pos.measured).natAbs then
        if c.slipTimer.isNone && !c.slip then modCar k (fun c => { c with slipTimer := some 200 }) s else s
      else endSlip k s
    | _, _ => endSlip k s

/-! ## A sample taken (R5 to R11, R18) -/

/-- The travel of a driving sample, added to the rope travel and the accumulators (R8). -/
def addTravel (d : Travel) (s : State) : State :=
  modCar .car2 (fun c => { c with accumulator := c.accumulator - d })
    (modCar .car1 (fun c => { c with accumulator := c.accumulator + d })
      (modPos (fun p => { p with ropeTravel := p.ropeTravel + d }) s))

/-- SAMPLE_LOSS ends and the line sample timer restarts (R18). -/
def endSampleLoss (s : State) : State :=
  levelCause .SAMPLE_LOSS false
    (modPos (fun p => { p with sampleLoss := false, lineSampleTimer := some s.params.sampleLossTime.toNat }) s)

/-- A SAMPLE is taken: the position unit's own work, then the driving sample handed on (R5 to R11). That the doors' evaluation at a
crossing of the threshold (R104) comes before the sample's recomputation is the model's choice (notes/assumptions/38). -/
def takeSample (p : SampleP) (s : State) : State :=
  let ch := p.channel
  let scale := (channelScale s.active.b ch).toNat
  let inv := channelInverted s.active.b ch
  let c := s.pos.chan.get ch
  let e : SampleEntry := ⟨p.count, p.stamp⟩
  let k := sampleCheck scale inv c p.status e
  let d0 := drivingChannel s.pos
  let s1 := modChan ch (channelAfter k e) s
  if accepts k then
    let s2 := modChan ch (fun c => { c with silence := some s.params.sampleLossTime.toNat }) s1
    let drives := (d0 == some ch) && (drivingChannel s2.pos == some ch)
    let travel : Int :=
      match newest c.window with
      | some n => countDiff inv n e * scale
      | none => 0
    let s3 := if drives then addTravel (BitVec.ofInt 48 travel) s2 else s2
    let s4 := recomputeMeasured s3
    let s5 := if channelValid (s4.pos.chan.get ch) then endSampleLoss s4 else s4
    let s6 := discrepancyTest s5
    let s7 := if drives then slipTest .car2 (slipTest .car1 s6) else s6
    announceIf drives (.recompute true) (announceCrossing s (announceStandstill s s7))
  else if channelValid c = channelValid (s1.pos.chan.get ch) then s1
  else
    let s2 := discrepancyTest (recomputeMeasured s1)
    announceCrossing s (announceStandstill s s2)

/-- The silence timer of a channel expires (R6). That the loss of the last valid channel leaves a slip timer and SLIP as they stand
until the next slip test (R20) is the model's choice (notes/assumptions/41). -/
def channelSilenceExpires (ch : Channel) (s : State) : State :=
  let c := s.pos.chan.get ch
  if c.silence.isNone then s
  else
    let s1 := modChan ch (fun c => { c with window := [], silence := none }) s
    if channelValid c then announceCrossing s (announceStandstill s (discrepancyTest (recomputeMeasured s1))) else s1

/-- The standstill timer expires: standstill holds (R10). -/
def standstillTimerExpires (s : State) : State :=
  if s.pos.standstillTimer.isNone then s
  else announce .tripStandstill (evalLinkCause (modPos (fun p => { p with standstillTimer := none, standstill := true }) s))

/-- The line sample timer expires: SAMPLE_LOSS begins (R18). -/
def sampleLossBegins (s : State) : State :=
  if s.pos.lineSampleTimer.isNone then s
  else
    let s1 := occur .SAMPLE_LOSS (modPos (fun p => { p with lineSampleTimer := none, sampleLoss := true }) s)
    if s1.inService then levelCause .SAMPLE_LOSS true s1 else s1

/-- The discrepancy timer expires (R19). -/
def discrepancyBegins (s : State) : State :=
  if s.pos.discrepancyTimer.isNone then s
  else
    levelCause .CHANNEL_DISCREPANCY true
      (occur .CHANNEL_DISCREPANCY (modPos (fun p => { p with discrepancyTimer := none, discrepancy := true }) s))

/-- The slip timer of car `k` expires (R20). -/
def slipBegins (k : CarId) (s : State) : State :=
  if (s.car k).slipTimer.isNone then s
  else evalSlipCause (occur .SLIP (modCar k (fun c => { c with slipTimer := none, slip := true }) s))

/-! ## Markers (R15 to R17) -/

/-- An accumulator value for a track position in mm. -/
def accumulatorAt (mm : Int) : Travel := BitVec.ofInt 48 (mm * 1000)

/-- The pair sum in µm. -/
def pairSumMicro (t : GroupB) : Int := t.pairSum.toNat * 1000

/-- Announce a correction or a referencing (R26, R91). -/
def announceCorrection (s : State) : State := announce .tripArrival (announce (.recompute false) s)

/-- A POSITION fault of the cars that `who` names (R17). -/
def positionFault (who : CarId → Bool) (s : State) : State :=
  let lose (k : CarId) (s : State) : State :=
    if who k then modCar k (fun c => { c with referenced := false, lastMarker := none }) s else s
  announce (.recompute false) (raiseEvent .POSITION .EMERGENCY (occur .POSITION_FAULT (lose .car2 (lose .car1 s))))

/-- The pair check (R16). -/
def pairCheck (s : State) : State :=
  if bothReferenced s then
    let sum := (s.car .car1).accumulator.toInt + (s.car .car2).accumulator.toInt
    if s.params.pairTolerance.toNat * 1000 < (sum - pairSumMicro s.active.b).natAbs then positionFault (fun _ => true) s else s
  else s

/-- A marker report of car `k` at a marker that stands at `mm` (R15, R16). That the recomputation of an applied correction is made after
the pair check of the same report is the model's choice (notes/assumptions/49). -/
def takeMarker (k : CarId) (id : Nat) (kind : MarkerKind) (mm : Int) (s : State) : State :=
  let c := s.car k
  if !c.referenced then
    let s1 := modCar k (fun c => { c with accumulator := accumulatorAt mm, referenced := true, lastMarker := some (id, kind) }) s
    if (s.car (otherCar k)).referenced then pairCheck (announceCorrection s1)
    else
      pairCheck (announceCorrection (modCar (otherCar k)
        (fun o => { o with
          accumulator := BitVec.ofInt 48 (pairSumMicro s.active.b) - accumulatorAt mm
          referenced := true }) s1))
  else if kind = .PASSED ∧ c.lastMarker = some (id, .PASSED) then s
  else
    let e := mm * 1000 - c.accumulator.toInt
    if s.params.correctionLimit.toNat * 1000 < e.natAbs then positionFault (fun x => x == k) s
    else
      pairCheck (announceCorrection (modCar k
        (fun c => { c with accumulator := accumulatorAt mm, lastMarker := some (id, kind) }) s))

/-! ## Car reports (R13, R14) -/

/-- The reported car speed: absent for 0x8000, else read within −20 465 to 20 465 (R13, R190). -/
def reportedSpeed (x : BitVec 16) : Option Int :=
  if x = 0x8000#16 then none else some (max (-20465) (min 20465 x.toInt))

/-- The reported load: absent for 0xFFFF, else read within 0 to 30 000 (R13, R190). -/
def reportedLoad (x : BitVec 16) : Option Nat := if x = 0xFFFF#16 then none else some (min 30000 x.toNat)

/-- A car record after steps 1 to 4 of a CAR_REPORT (R13). -/
def carAfterReport (timeout : Nat) (p : CarReportP) (c : CarRecord) : CarRecord :=
  let v := reportedSpeed p.speed
  let c1 := { c with linkUp := true, reportTimer := some timeout, speed := v, speedAge := 0, rail := some p.rail }
  match reportedLoad p.load with
  | some l => { c1 with load := some l, loadTimer := some 30000 }
  | none => c1

/-- The marker field of a CAR_REPORT (R15): handled only when it names a present marker. -/
def takeMarkerField (p : CarReportP) (s : State) : State :=
  match markerPos s.active.b p.markerId.toNat with
  | some mm => takeMarker p.car p.markerId.toNat p.markerKind mm s
  | none => s

/-- A CAR_REPORT is taken (R13, R166). -/
def takeCarReport (p : CarReportP) (s : State) : State :=
  let k := p.car
  let s1 := modCar k (carAfterReport s.params.carReportTimeout.toNat p) s
  let s2 := evalLinkCause { s1 with brake := { s1.brake with lossInForce := s1.brake.lossInForce.set k false } }
  carHeardByReport k (slipTest k (takeMarkerField p s2))

/-- The report timer of car `k` expires (R14, R60, R114). -/
def reportTimerExpires (k : CarId) (s : State) : State :=
  if (s.car k).reportTimer.isNone then s
  else
    let s1 := modCar k (fun c => { c with linkUp := false, reportTimer := none, speed := none, speedAge := 0, rail := none }) s
    let s2 := occur .CAR_LINK_LOST (endSlip k s1)
    doorLinkLost k
      (evalLinkCause { s2 with brake := { s2.brake with lossInForce := s2.brake.lossInForce.set k true } })

/-- The load of car `k` becomes absent (R13). -/
def loadExpires (k : CarId) (s : State) : State :=
  if (s.car k).loadTimer.isNone then s else modCar k (fun c => { c with load := none, loadTimer := none }) s

/-! ## A new group B (R3) -/

/-- The position unit under a new group B (R3). A field has changed when its byte has, also between two codes that read alike: the
model's choice (notes/assumptions/48). -/
def positionTakesGroupB (old new : GroupB) (s : State) : State :=
  let empty (ch : Channel) (s : State) : State :=
    if channelSettings old ch = channelSettings new ch then s else modChan ch (fun c => { c with window := [] }) s
  let s1 := empty .B (empty .A s)
  let s2 :=
    if channelValid s.pos.chan.a = channelValid s1.pos.chan.a ∧ channelValid s.pos.chan.b = channelValid s1.pos.chan.b then s1
    else announceCrossing s (announceStandstill s (discrepancyTest (recomputeMeasured s1)))
  if old.pairSum = new.pairSum ∧ old.markers = new.markers then s2
  else
    let lose (c : CarRecord) : CarRecord := { c with referenced := false }
    modCar .car2 lose (modCar .car1 lose s2)

end Sys2Proof.Machine
end

