-- ==== Sys2Proof/Machine/Speed.lean ====
section
/-!
DEFINITION. The speed limit unit (chapter 2): distances and the curve (R30), the recomputation (R26 to R36) and the overrun
check (R37).
-/

namespace Sys2Proof.Machine

/-- Whether car `k` travels uphill in trip direction `d` (R30). -/
def carUphill (d : Dir) (k : CarId) : Bool :=
  match d, k with
  | .UP, .car1 => true
  | .UP, .car2 => false
  | .DOWN, .car1 => false
  | .DOWN, .car2 => true

/-- The distance d of a (car, halt) pair in mm, positive while the stopping point lies ahead (R30). -/
def pairDistance (s : State) (k : CarId) (h : Halt) : Int :=
  let p := reportedPos (s.car k)
  if carUphill s.trip.dir k then stopPoint s.active.b h - p else p - stopPoint s.active.b h

/-- The distance ahead of a pair whose car is referenced (R77). -/
def pairAhead (s : State) (p : StopPair) : Option Int :=
  if (s.car p.car).referenced then some (pairDistance s p.car p.halt) else none

/-- The pairs of a stop (R77). -/
def stopPairs (st : Stop) : List StopPair :=
  match st.second with
  | none => [st.first]
  | some q => [st.first, q]

/-- The smaller of two optional distances, an absent one counting as none. -/
def minDist : Option Int → Option Int → Option Int
  | none, y => y
  | x, none => x
  | some x, some y => some (min x y)

/-- The distance of a stop: the smallest among its pairs whose car is referenced (R77, R31). -/
def stopDistance (s : State) (st : Stop) : Option Int :=
  (stopPairs st).foldl (fun acc p => minDist acc (pairAhead s p)) none

/-- The curve at a distance d in mm (R30). -/
def curveAt (par : Params) (d : Int) : Nat :=
  isqrt (2 * par.serviceDecel.toNat * min 8000000 (d - par.stopMargin.toNat).toNat)

/-- The envelope term of car `k` (R25). -/
def envelopeTerm (s : State) (k : CarId) : Nat :=
  if (s.car k).referenced then ceilingAt s.active.b (reportedPos (s.car k)) else lowestCeiling s.active.b

/-- The mode cap (R35). -/
def modeCap (s : State) : Option Nat :=
  match s.trip.mode with
  | .CREEP => some s.params.creepCap.toNat
  | .NORMAL => none

/-- The curve term and what it was computed toward: target, target distance, raw curve, curve (R31, R33). That target distance and
raw curve are absent in STOPPING without a virtual stop is the model's choice (notes/assumptions/42). -/
def curveTerm (s : State) : Option Target × Option Int × Option Nat × Nat :=
  if s.trip.state = .STOPPING then
    match s.trip.virtualStop with
    | none => (some .VIRTUAL_STOP, none, none, 0)
    | some v =>
      let d := (dirSign s.trip.dir * (v - s.pos.ropeTravel).toInt) / 1000
      let c := curveAt s.params d
      (some .VIRTUAL_STOP, some d, some c, c)
  else
    let creep := s.params.creepSpeed.toNat
    match s.trip.plan with
    | [] => (none, none, none, creep)
    | st :: _ =>
      match stopDistance s st with
      | none => (some .HEAD_STOP, none, none, creep)
      | some d => (some .HEAD_STOP, some d, some (curveAt s.params d), max creep (curveAt s.params d))

/-- The first of the terms, in the order of R22, that has the value `v`. -/
def limitingTerm (v e1 e2 c cap : Nat) : LimitTerm :=
  if e1 = v then .ENVELOPE_1
  else if e2 = v then .ENVELOPE_2
  else if c = v then .CURVE
  else if cap = v then .LINE_CAP
  else .MODE_CAP

/-- The speed record that a recomputation sets, less the overrun check (R27, R28). -/
def speedRecordFor (s : State) : SpeedRecord :=
  let cap := s.trip.lineCap
  let none3 : SpeedRecord :=
    { vPerm := 0, envelope1 := none, envelope2 := none, target := none, targetDistance := none, rawCurve := none,
      curve := none, lineCap := cap, modeCap := modeCap s, limiting := .STATE, overrunRaised := s.speed.overrunRaised }
  if s.trip.state ≠ .RUNNING ∧ s.trip.state ≠ .STOPPING then none3
  else if s.trip.mode = .CREEP ∧ ¬ bothReferenced s then
    let m := s.params.creepCap.toNat
    { none3 with vPerm := min m cap, limiting := if cap ≤ m then .LINE_CAP else .MODE_CAP }
  else
    let e1 := envelopeTerm s .car1
    let e2 := envelopeTerm s .car2
    let t := curveTerm s
    let c := t.2.2.2
    let v0 := min (min e1 e2) (min c cap)
    let v := match modeCap s with
      | none => v0
      | some m => min v0 m
    { none3 with
      vPerm := v
      envelope1 := some e1
      envelope2 := some e2
      target := t.1
      targetDistance := t.2.1
      rawCurve := t.2.2.1
      curve := some c
      limiting := limitingTerm v e1 e2 c cap }

/-- Whether a pair is overrun (R37). -/
def pairOverrun (s : State) (p : StopPair) : Bool :=
  match pairAhead s p with
  | none => false
  | some d => decide (d < -(platformWindow s.active.b p.halt + s.params.overrunAllowance.toNat))

/-- Whether the head stop is overrun (R37). -/
def headOverrun (s : State) : Bool :=
  match s.trip.plan with
  | [] => false
  | st :: _ => (stopPairs st).any (pairOverrun s)

/-- The overrun check of a recomputation in RUNNING or STOPPING (R37). -/
def overrunCheck (s : State) : State :=
  if (s.trip.state = .RUNNING ∨ s.trip.state = .STOPPING) ∧ headOverrun s ∧ ¬ s.speed.overrunRaised then
    raiseEvent .OVERRUN .EMERGENCY (occur .OVERRUN { s with speed := { s.speed with overrunRaised := true } })
  else s

/-- A recomputation (R26): the record is set, the overrun check is made, and its result is handed whole to the brake supervisor
and to the demand filter: a later recomputation does not change it (R29). -/
def recompute (driving : Bool) (s : State) : State :=
  let r := speedRecordFor s
  announce (.demandCode driving r.vPerm) (announce (.compare driving r.vPerm) (overrunCheck { s with speed := r }))

end Sys2Proof.Machine
end

