-- ==== Sys2Proof/Machine/Demand.lean ====
section
/-!
DEFINITION. The demand filter (chapter 3): console demands, the demand held in the queue, the demand timer, substitution
and the line cap request.
-/

namespace Sys2Proof.Machine

/-- The zero-speed code. -/
def zeroSpeedCode : Nat := 0x001

/-- code(v_perm) of the speed record (R36). -/
def permittedCode (s : State) : Nat := codeOf s.speed.vPerm

/-- The speed code field of a received DEMAND: 12 bits, read at its nearer bound when it lies above 0xFFF (R190). -/
def requestedCode (p : DemandP) : Nat := min 0xFFF p.code.toNat

/-- Whether the trip state forces the zero-speed code (R41, step 2). -/
def stateForcesZero (s : State) : Bool :=
  match s.trip.state with
  | .RUNNING => false
  | .STOPPING => s.brake.latchS.isSome
  | _ => true

/-- The forwarded code and the clamp flag of R42. -/
def clampCode (s : State) (req : Nat) : Nat × Bool :=
  let v := permittedCode s
  if req = 0 then
    match s.filter.lastForwarded with
    | none => (zeroSpeedCode, false)
    | some l => (min l v, decide (v < l))
  else if req = 0xFFF then (zeroSpeedCode, true)
  else (min req v, decide (v < req))

/-- The forwarded code and the clamp flag of a console DEMAND (R41). -/
def demandOutcome (s : State) (p : DemandP) : Nat × Bool :=
  let req := requestedCode p
  if p.dir ≠ s.trip.dir ∨ stateForcesZero s then (zeroSpeedCode, decide (1 < req)) else clampCode s req

/-- floor(a_max / 10) (R43). -/
def accelBound (s : State) : Nat := s.params.accelMax.toNat / 10

/-- The trip states in which the prepare flag passes and the demand timer restarts (R43, R46). -/
def tripUnderWay (st : TripState) : Bool := (st == .DEPARTING) || (st == .RUNNING) || (st == .STOPPING)

/-- The flags byte with the prepare flag kept or cleared and the clamp flag as given; the other bits as received (R43). -/
def demandFlags (flags : Byte) (keepPrepare clamp : Bool) : Byte :=
  (flags &&& 0xFC#8) ||| (if keepPrepare then flags &&& 0x01#8 else 0#8) ||| (if clamp then 0x02#8 else 0#8)

/-- The frame that a console DEMAND is forwarded as (R41 to R43). -/
def forwardedDemand (s : State) (p : DemandP) : DemandP :=
  let o := demandOutcome s p
  { code := BitVec.ofNat 16 o.1
    accel := BitVec.ofNat 8 (clampNat 1 (accelBound s) p.accel.toNat)
    dir := s.trip.dir
    flags := demandFlags p.flags (tripUnderWay s.trip.state) o.2 }

/-- Place a DEMAND toward the drive: the urgent queue of port F, and last forwarded (R44). -/
def placeDemand (dst src : Byte) (p : DemandP) (s : State) : State :=
  let s1 := placeUrgent ⟨dst, src, some .DRIVE, .demand p⟩ s
  { s1 with filter := { s1.filter with lastForwarded := some p.code.toNat } }

/-- The demand timer is started or restarted (R46). -/
def startDemandTimer (s : State) : State :=
  { s with filter := { s.filter with timer := some s.params.demandTimeout.toNat } }

/-- A console DEMAND is taken (R41 to R44, R46, R49). -/
def takeDemand (dst src : Byte) (p : DemandP) (s : State) : State :=
  if s.filter.substitution then { s with filter := { s.filter with ignored := satInc s.filter.ignored } }
  else
    let s1 := if tripUnderWay s.trip.state then startDemandTimer s else s
    let s2 : State := { s1 with filter := { s1.filter with
      clamps := if (demandOutcome s p).2 then satInc s1.filter.clamps else s1.filter.clamps
      rewrites := if p.dir ≠ s.trip.dir then satInc s1.filter.rewrites else s1.filter.rewrites } }
    placeDemand dst src (forwardedDemand s p) s2

/-! ## The demand in the queue (R45) -/

/-- Whether a frame is a DEMAND toward the drive. -/
def isDemand (f : OutFrame) : Bool := (contentKind f.content == 0x09#8) && (f.role == some .DRIVE)

/-- The DEMAND held in the urgent queue of port F. -/
def queuedDemand (s : State) : Option (OutFrame × DemandP) :=
  match s.ports.f.urgent.find? isDemand with
  | some f => match f.content with
    | .demand p => some (f, p)
    | _ => none
  | none => none

/-- Replace the held DEMAND in its place by one with the given code and direction and the clamp flag (R45). That last forwarded becomes
its code also where it was absent, after a RELOAD, is the model's choice (notes/assumptions/61). -/
def lowerQueued (f : OutFrame) (p : DemandP) (code : Nat) (dir : Dir) (s : State) : State :=
  let q : DemandP := { p with code := BitVec.ofNat 16 code, dir := dir, flags := p.flags ||| 0x02#8 }
  let s1 := placeUrgent { f with content := .demand q } s
  { s1 with filter := { s1.filter with lastForwarded := some code } }

/-- A new v_perm, whose code is `code`, reaches a held DEMAND (R45). -/
def lowerToCode (code : Nat) (s : State) : State :=
  match queuedDemand s with
  | some (f, p) => if code < p.code.toNat then lowerQueued f p code p.dir s else s
  | none => s

/-- Latch S set reaches a held DEMAND in STOPPING (R45), also where the trip entered STOPPING on the rise that the latch made
(notes/assumptions/50). -/
def lowerForLatchS (s : State) : State :=
  if s.trip.state = .STOPPING then
    match queuedDemand s with
    | some (f, p) => if p.code.toNat = zeroSpeedCode then s else lowerQueued f p zeroSpeedCode p.dir s
    | none => s
  else s

/-- A change of the trip direction reaches a held DEMAND (R45). -/
def turnQueued (s : State) : State :=
  match queuedDemand s with
  | some (f, p) => if p.dir = s.trip.dir then s else lowerQueued f p zeroSpeedCode s.trip.dir s
  | none => s

/-! ## Substitution and the timer -/

/-- The substitute DEMAND for a driving sample, whose recomputation gave `code` (R48). -/
def substituteDemand (code : Nat) (s : State) : State :=
  match firstRole s.active.b .DRIVE with
  | none => s
  | some e =>
    let sent := if s.trip.state = .STOPPING ∧ s.brake.latchS.isSome then zeroSpeedCode else code
    placeDemand e.address s.mgmt.ownAddress
      ⟨BitVec.ofNat 16 sent, BitVec.ofNat 8 (accelBound s), s.trip.dir, 0x01#8⟩ s

/-- The demand filter takes the v_perm `v` of a recomputation (R29, R45, R48). That a held DEMAND is lowered before a substitute takes its place is the
model's choice (notes/assumptions/39). -/
def demandTakesCode (driving : Bool) (v : Nat) (s : State) : State :=
  let s1 := lowerToCode (codeOf v) s
  if driving && s1.filter.substitution then substituteDemand (codeOf v) s1 else s1

/-- The trip states whose entry ends substitution (R49). -/
def endsSubstitution (st : TripState) : Bool :=
  (st == .HELD) || (st == .AT_STOP) || (st == .PARKED) || (st == .IDLE)

/-- The demand filter takes the trip's entry to a state (R46, R49). -/
def demandStateEntered (st : TripState) (s : State) : State :=
  let s1 : State := { s with filter := { s.filter with
    timer := if tripUnderWay st then s.filter.timer else none
    substitution := if endsSubstitution st then false else s.filter.substitution } }
  if st = .DEPARTING then startDemandTimer s1 else s1

/-- The demand filter takes an announcement of the trip sequencer (R45, R46, R49, R76). -/
def demandTakesTrip (entered : Option TripState) (s : State) : State :=
  turnQueued (match entered with
    | some st => demandStateEntered st s
    | none => s)

/-- The demand timer expires (R47). -/
def demandTimerExpires (s : State) : State :=
  if s.filter.timer.isNone then s
  else
    let s1 : State := { s with filter := { s.filter with timer := none } }
    let on (s : State) : State := occur .DEMAND_SUBSTITUTED { s with filter := { s.filter with substitution := true } }
    match s.trip.state with
    | .DEPARTING => announce .tripDemandLost s1
    | .RUNNING => announce .tripDemandLost (on s1)
    | .STOPPING => on s1
    | _ => s1

end Sys2Proof.Machine
end

