-- ==== Sys2Proof/Machine/Gate.lean ====
section
/-!
DEFINITION. The gate unit (chapter 8): gate modes, boarding windows, the ticket cache, the validation queue, the fare server,
passages and close-outs. What the other blocks must learn of (budget, idle gates, entries in WAIT_PASS, the fare server
state) they learn after the event, from the comparison of Machine/Settle.lean.
-/

namespace Sys2Proof.Machine

/-- Change the gate unit. -/
def modGates (f : GateUnit → GateUnit) (s : State) : State := { s with gates := f s.gates }

/-! ## Boarding windows (R141 to R143) -/

/-- The room a record leaves: capacity − base − admitted − reserved (R143). -/
def windowBudget (w : Window) : Nat := w.capacity - w.base - w.admitted - w.reserved

/-- The budget of halt `h`, 0 without a record. -/
def haltBudget (s : State) (h : Halt) : Nat :=
  match s.gates.windows.get h with
  | some w => windowBudget w
  | none => 0

/-- Whether the boarding window of halt `h` is open. -/
def windowOpen (s : State) (h : Halt) : Bool :=
  match s.gates.windows.get h with
  | some w => w.isOpen
  | none => false

/-- Change the window record of halt `h`, if it has one. -/
def modWindow (h : Halt) (f : Window → Window) (s : State) : State :=
  modGates (fun g => { g with windows := vmod g.windows h (Option.map f) }) s

/-! ## Gate modes (R139) -/

/-- The desired mode of gate `g`: OPEN when true (R139). -/
def desiredMode (s : State) (g : GateId) : Bool :=
  gatePresent s.active.a g && s.inService && !(s.gates.records.get g).fault &&
    (if gateIsExit s.active.a g then outputSet s (gateHalt s.active.a g) bitExitOpen
     else windowOpen s (gateHalt s.active.a g))

/-- Send SET_MODE with the desired mode; the mode ordered takes it (R139). -/
def orderMode (g : GateId) (s : State) : State :=
  let m := desiredMode s g
  modGates (fun u => { u with records := vmod u.records g fun r => { r with mode := some m } })
    (sendGate g (.gateSetMode m) s)

/-- Find the desired mode of a heard gate anew and order it if it differs from the mode ordered (R139). -/
def updateMode (g : GateId) (s : State) : State :=
  let r := s.gates.records.get g
  if r.heard && (r.mode != some (desiredMode s g)) then orderMode g s else s

/-- The desired modes of the gates of `p`, in gate order (R139). -/
def updateModesOf (p : GateId → Bool) (s : State) : State :=
  all16.foldl (fun s g => if p g then updateMode g s else s) s

/-- The desired modes of all gates, in gate order. -/
def updateModes (s : State) : State := updateModesOf (fun _ => true) s

/-- A frame from gate `g` is taken: the gate becomes heard (R139). -/
def hearGate (g : GateId) (s : State) : State :=
  if (s.gates.records.get g).heard then s
  else orderMode g (modGates (fun u => { u with records := vmod u.records g fun r => { r with heard := true } }) s)

/-! ## The ticket cache (R144, R145) -/

/-- Whether a token is in use: an entry holding it is in WAIT_GATE or WAIT_PASS (R144). -/
def tokenInUse (q : List VEntry) (t : Token) : Bool :=
  q.any fun v => (v.token == t) && ((v.state == .WAIT_GATE) || (v.state == .WAIT_PASS))

/-- Whether a token belongs to bank 1: an odd number of its bits stand in the mask (R144). -/
def tokenInBank1 (mask : BitVec 64) (t : Token) : Bool :=
  (List.range 64).foldl (fun b i => b != (t &&& mask).getLsbD i) false

/-- The bank of a token. -/
def bankFor (a : GroupA) (g : GateUnit) (t : Token) : List CacheEntry :=
  if tokenInBank1 a.fare.bankMask t then g.bank1 else g.bank0

/-- Replace the bank of a token. -/
def setBankFor (a : GroupA) (t : Token) (b : List CacheEntry) (g : GateUnit) : GateUnit :=
  if tokenInBank1 a.fare.bankMask t then { g with bank1 := b } else { g with bank0 := b }

/-- How many entries a bank may hold, from its disabled count (R144). -/
def bankCapacity (disabled : Byte) : Nat := 64 - codeAt 32 disabled

/-- The capacity of the bank of a token. -/
def capacityFor (a : GroupA) (t : Token) : Nat :=
  bankCapacity (if tokenInBank1 a.fare.bankMask t then a.fare.disabled1 else a.fare.disabled0)

/-- The cache entry of a token. -/
def cacheFind (a : GroupA) (g : GateUnit) (t : Token) : Option CacheEntry :=
  (bankFor a g t).find? fun e => e.token == t

/-- A bank without the entry of a token. -/
def withoutToken (t : Token) (b : List CacheEntry) : List CacheEntry := b.filter fun e => e.token != t

/-- Remove up to `n` elements that satisfy `p`, the first ones of the list. -/
def dropFirst {α : Type} (p : α → Bool) : Nat → List α → List α
  | 0, l => l
  | _ + 1, [] => []
  | n + 1, x :: xs => if p x then dropFirst p n xs else x :: dropFirst p (n + 1) xs

/-- Remove the `n` least recently used entries not in use (R144, R145). -/
def evict (q : List VEntry) (n : Nat) (b : List CacheEntry) : List CacheEntry :=
  (dropFirst (fun e => !tokenInUse q e.token) n b.reverse).reverse

/-- Make the entry of a token, if there is one, the most recently used of its bank (R144). -/
def cacheTouch (a : GroupA) (t : Token) (g : GateUnit) : GateUnit :=
  match cacheFind a g t with
  | some e => setBankFor a t (e :: withoutToken t (bankFor a g t)) g
  | none => g

/-- Fill the entry of a token: in place of the one it has, or as a new one, for which a full bank gives up one (R144). -/
def cacheFill (a : GroupA) (e : CacheEntry) (g : GateUnit) : GateUnit :=
  let b := bankFor a g e.token
  match cacheFind a g e.token with
  | some _ => setBankFor a e.token (e :: withoutToken e.token b) g
  | none =>
    if b.length < capacityFor a e.token then setBankFor a e.token (e :: b) g
    else setBankFor a e.token (e :: evict g.queue 1 b) g

/-- Change the entry of a token in its place, if there is one. -/
def cacheUpdate (a : GroupA) (t : Token) (f : CacheEntry → CacheEntry) (g : GateUnit) : GateUnit :=
  setBankFor a t ((bankFor a g t).map fun e => if e.token == t then f e else e) g

/-- Whether a found entry is a hit for a class at local time `now` (R144). -/
def cacheHit (cls now : Nat) (e : CacheEntry) : Bool :=
  decide (e.cls = cls) && !e.provisional && !e.stale &&
    (match e.validUntil with
     | some t => decide (now < t)
     | none => false)

/-- A stale entry goes when its token has left use (R144). -/
def dropStale (t : Token) (g : GateUnit) : GateUnit :=
  if tokenInUse g.queue t then g
  else { g with
    bank0 := g.bank0.filter fun e => !((e.token == t) && e.stale)
    bank1 := g.bank1.filter fun e => !((e.token == t) && e.stale) }

/-- INVALIDATE_CACHE (R145). -/
def invalidateCache (g : GateUnit) : GateUnit :=
  let f (b : List CacheEntry) : List CacheEntry :=
    (b.filter fun e => tokenInUse g.queue e.token).map fun e => { e with stale := true }
  { g with bank0 := f g.bank0, bank1 := f g.bank1 }

/-- The cache under new fare settings (R145). -/
def cacheAfterCommit (old new : GroupA) (g : GateUnit) : GateUnit :=
  let fit (cap : Nat) (b : List CacheEntry) : List CacheEntry := evict g.queue (b.length - cap) b
  let g1 := { g with
    bank0 := fit (bankCapacity new.fare.disabled0) g.bank0
    bank1 := fit (bankCapacity new.fare.disabled1) g.bank1 }
  if old.fare.bankMask = new.fare.bankMask then g1
  else
    let kept := (g1.bank0 ++ g1.bank1).filter fun e => tokenInUse g.queue e.token
    { g1 with
      bank0 := kept.filter fun e => !tokenInBank1 new.fare.bankMask e.token
      bank1 := kept.filter fun e => tokenInBank1 new.fare.bankMask e.token }

/-! ## The validation queue (R146, R150, R151) -/

/-- Whether an entry is undelivered (R146). -/
def undelivered (v : VEntry) : Bool := (v.state == .ASKING) || (v.state == .MERGED) || (v.state == .WAIT_GATE)

/-- Whether an entry holds a reservation: an ADMIT in WAIT_GATE or WAIT_PASS (R150). -/
def holdsReservation (v : VEntry) : Bool :=
  (v.verdict == some .ADMIT) && ((v.state == .WAIT_GATE) || (v.state == .WAIT_PASS))

/-- The entry in a place of the queue. -/
def entryAt (g : GateUnit) (i : SlotId) : Option VEntry := g.queue.find? fun v => v.slot == i

/-- Change the entry in place `i`. -/
def modEntry (i : SlotId) (f : VEntry → VEntry) (g : GateUnit) : GateUnit :=
  { g with queue := g.queue.map fun v => if v.slot == i then f v else v }

/-- The lowest free place of the queue. -/
def freeSlot (g : GateUnit) : Option SlotId := all16.find? fun i => !(g.queue.any fun v => v.slot == i)

/-- Free an entry (R146); a stale cache entry goes with the last use of its token (R144). -/
def freeEntry (v : VEntry) (g : GateUnit) : GateUnit :=
  dropStale v.token { g with queue := g.queue.filter fun x => x.slot != v.slot }

/-- The place of a refusal reason among the counters: its code less one. -/
def reasonIndex : GateReason → Fin 8
  | .GATE_FAULT => 0
  | .CLOSED => 1
  | .FULL => 2
  | .BUSY => 3
  | .NO_RIDES => 4
  | .PASSBACK => 5
  | .OFFLINE => 6
  | .SERVER => 7

/-- Send a refusal to a gate and count it (R151). -/
def sendRefusal (g : GateId) (number : Byte) (reason : GateReason) (serverReason : Byte) (s : State) : State :=
  modGates (fun u => { u with refusals := vmod u.refusals (reasonIndex reason) satInc })
    (sendGate g (.gateRefuse number reason serverReason) s)

/-- The WAIT_PASS deadline of a gate in ms: its cycle limit plus 1 s (R151). -/
def passDeadline (s : State) (g : GateId) : Nat := (s.active.a.gates.get g).cycleLimit.toNat * 1000 + 1000

/-- Test delivery for gate `g` (R151): refusals go out in a row up to the first ADMIT. The fuel is the length of the queue. -/
def deliverGo (g : GateId) : Nat → State → State
  | 0, s => s
  | n + 1, s =>
    if s.gates.queue.any fun v => (v.gate == g) && (v.state == .WAIT_PASS) then s
    else
      match s.gates.queue.find? fun v => (v.gate == g) && undelivered v with
      | none => s
      | some v =>
        if v.state = .WAIT_GATE then
          match v.verdict with
          | some .ADMIT =>
            modGates (modEntry v.slot fun x => { x with state := .WAIT_PASS, deadline := some (passDeadline s g) })
              (sendGate g (.gateAdmitOne v.number) s)
          | some (.REFUSE reason serverReason) =>
            deliverGo g n (modGates (freeEntry v) (sendRefusal g v.number reason serverReason s))
          | none => s
        else s

/-- Test delivery for gate `g` (R151). -/
def deliver (g : GateId) (s : State) : State := deliverGo g (s.gates.queue.length + 1) s

/-- Whether a decision for an entry refuses with PASSBACK (R148, step 3). -/
def passback (s : State) (i : SlotId) (t : Token) (last : Option Nat) : Bool :=
  (s.gates.queue.any fun v => (v.slot != i) && (v.token == t) && holdsReservation v) ||
    (match last with
     | some l => decide (s.localTime - l < s.active.a.fare.passback.toNat)
     | none => false)

/-- The verdict of a hit on a cache entry (R148). -/
def hitVerdict (s : State) (i : SlotId) (e : CacheEntry) : Verdict :=
  match e.verdict with
  | .REFUSE r sr => .REFUSE r sr
  | .ADMIT =>
    if e.rides = some 0 then .REFUSE .NO_RIDES 0#8
    else if passback s i e.token e.lastAdmitted then .REFUSE .PASSBACK 0#8
    else .ADMIT

/-- The verdict that R150 makes of a decided verdict: an ADMIT needs a budget. -/
def budgetVerdict (s : State) (h : Halt) (x : Verdict) : Verdict :=
  match x with
  | .ADMIT => if 0 < haltBudget s h then .ADMIT else .REFUSE .FULL 0#8
  | .REFUSE r sr => .REFUSE r sr

/-- Take a decided verdict on: the reservation, and the entry in WAIT_GATE (R150), before delivery. -/
def takeVerdict (v : VEntry) (x : Verdict) (by_ : DecidedBy) (s : State) : State :=
  let y := budgetVerdict s v.halt x
  let s1 := if y = .ADMIT then modWindow v.halt (fun w => { w with reserved := w.reserved + 1 }) s else s
  modGates (modEntry v.slot fun e =>
    { e with state := .WAIT_GATE, verdict := some y, decidedBy := some by_, query := none, mergedTo := none, deadline := none }) s1

/-- Decide an entry against a cache entry and offer it for delivery (R148, R150). -/
def decideHit (v : VEntry) (e : CacheEntry) (by_ : DecidedBy) (s : State) : State :=
  deliver v.gate (takeVerdict v (hitVerdict s v.slot e) by_ s)

/-- The verdict of an offline decision (R153). -/
def offlineVerdict (s : State) (v : VEntry) : Verdict :=
  if passback s v.slot v.token ((cacheFind s.active.a s.gates v.token).bind CacheEntry.lastAdmitted) then
    .REFUSE .PASSBACK 0#8
  else if classAdmits s.active.a v.cls then .ADMIT
  else .REFUSE .OFFLINE 0#8

/-- The cache entry of a token becomes provisional, or a provisional one is filled (R153). -/
def markProvisional (a : GroupA) (t : Token) (cls : Nat) (g : GateUnit) : GateUnit :=
  match cacheFind a g t with
  | some _ => cacheUpdate a t (fun e => { e with provisional := true }) g
  | none => cacheFill a ⟨t, cls, .ADMIT, none, none, none, true, false⟩ g

/-- Decide an entry offline and offer it for delivery (R153, R150). -/
def decideOffline (v : VEntry) (s : State) : State :=
  let x := offlineVerdict s v
  let s1 := takeVerdict v x .OFFLINE s
  let s2 := if budgetVerdict s v.halt x = .ADMIT then modGates (markProvisional s.active.a v.token v.cls) s1 else s1
  deliver v.gate s2

/-! ## Requests (R147, R149) -/

/-- A refusal given without a decision: at once, or through the queue behind an undelivered entry (R147). That one of cases 2 to 4 which
finds no free entry is discarded unanswered, as one of case 5 is, is the model's choice (notes/assumptions/52). -/
def refuseRequest (g : GateId) (p : GateRequestP) (reason : GateReason) (s : State) : State :=
  if s.gates.queue.any fun v => (v.gate == g) && undelivered v then
    match freeSlot s.gates with
    | none => s
    | some i =>
      modGates (fun u => { u with queue := u.queue ++
        [⟨i, .WAIT_GATE, g, gateHalt s.active.a g, p.token, codeAt 15 p.cls, p.number, none, none,
          some (.REFUSE reason 0#8), none, none⟩] }) s
  else sendRefusal g p.number reason 0#8 s

/-- Send a FARE_QUERY under a new query number (R149, R153). -/
def sendQuery (v : VEntry) (s : State) : State :=
  let n := s.gates.queryCounter + 1#16
  sendNormal .FARE_SERVER (.fareQuery n v.token v.cls v.halt v.gate) (modGates (fun u => { u with queryCounter := n }) s)

/-- A miss (R149; in SERVER_LOST, R153). -/
def handleMiss (v : VEntry) (s : State) : State :=
  if s.gates.serverLost then sendQuery v (decideOffline v s)
  else
    match s.gates.queue.find? fun x => (x.slot != v.slot) && (x.state == .ASKING) && (x.token == v.token) with
    | some x => modGates (modEntry v.slot fun e => { e with state := .MERGED, mergedTo := some x.slot }) s
    | none =>
      let s1 := sendQuery v s
      modGates (modEntry v.slot fun e =>
        { e with state := .ASKING, query := some s1.gates.queryCounter, deadline := some 300 }) s1

/-- Allocate an entry and consult the cache (R147, case 6). -/
def admitRequest (g : GateId) (p : GateRequestP) (i : SlotId) (s : State) : State :=
  let v : VEntry := ⟨i, .ASKING, g, gateHalt s.active.a g, p.token, codeAt 15 p.cls, p.number, none, none, none, none, none⟩
  let found := cacheFind s.active.a s.gates p.token
  let s1 := modGates (fun u => cacheTouch s.active.a p.token { u with queue := u.queue ++ [v] }) s
  match found with
  | some e => if cacheHit v.cls s.localTime e then decideHit v e .LOCAL s1 else handleMiss v s1
  | none => handleMiss v s1

/-- A GATE_REQUEST is taken (R140, R147). -/
def takeGateRequest (g : GateId) (p : GateRequestP) (s : State) : State :=
  let h := gateHalt s.active.a g
  if gateIsExit s.active.a g then sendRefusal g p.number .CLOSED 0#8 s
  else if s.gates.queue.any fun v => (v.gate == g) && (v.number == p.number) then s
  else if (s.gates.records.get g).fault then refuseRequest g p .GATE_FAULT s
  else if !windowOpen s h then refuseRequest g p .CLOSED s
  else if haltBudget s h = 0 then refuseRequest g p .FULL s
  else
    match freeSlot s.gates with
    | none => refuseRequest g p .BUSY (occur .QUEUE_FULL s)
    | some i => admitRequest g p i s

/-! ## The fare server (R152, R153) -/

/-- The cache entry that an answer fills (R152, step 1). -/
def answeredEntry (s : State) (p : FareAnswerP) : CacheEntry where
  token := p.token
  cls := codeAt 15 p.cls
  verdict := match p.verdict with
    | .ADMIT => .ADMIT
    | .REFUSE => .REFUSE .SERVER p.serverReason
  rides := if p.rides = 0xFFFF#16 then none else some p.rides.toNat
  validUntil := match p.verdict with
    | .ADMIT => some (s.localTime + 60 * p.minutes.toNat)
    | .REFUSE => some (s.localTime + 60)
  lastAdmitted := (cacheFind s.active.a s.gates p.token).bind CacheEntry.lastAdmitted
  provisional := false
  stale := false

/-- A FARE_ANSWER is taken (R152). -/
def takeFareAnswer (p : FareAnswerP) (s : State) : State :=
  let e := answeredEntry s p
  let s1 := modGates (fun u => { cacheFill s.active.a e u with timeouts := 0, serverLost := false }) s
  match s1.gates.queue.find? fun v => (v.state == .ASKING) && (v.query == some p.query) && (v.token == p.token) with
  | none => s1
  | some v =>
    let merged := s1.gates.queue.filter fun x => (x.state == .MERGED) && (x.mergedTo == some v.slot)
    (v :: merged).foldl (fun s x => decideHit x e .SERVER s) s1

/-- The deadline of an ASKING entry expires (R153). -/
def fareDeadlineExpires (i : SlotId) (s : State) : State :=
  match entryAt s.gates i with
  | none => s
  | some v =>
    if v.state = .ASKING ∧ v.deadline.isSome then
      let n := min 3 (s.gates.timeouts + 1)
      let s1 := modGates (fun u => { u with timeouts := n }) s
      let s2 :=
        if n = 3 ∧ ¬ s.gates.serverLost then occur .FARE_SERVER_LOST (modGates (fun u => { u with serverLost := true }) s1)
        else s1
      let merged := s2.gates.queue.filter fun x => (x.state == .MERGED) && (x.mergedTo == some i)
      (v :: merged).foldl (fun s x => decideOffline x s) s2
    else s

/-! ## Passages (R154, R155) -/

/-- An entry in WAIT_PASS ends without an admission (R154). -/
def passageFailed (v : VEntry) (s : State) : State :=
  deliver v.gate (modGates (freeEntry v) (modWindow v.halt (fun w => { w with reserved := w.reserved - 1 }) s))

/-- The FARE_USE of a passage decided LOCAL or OFFLINE (R154). -/
def sendUse (v : VEntry) (s : State) : State :=
  match v.decidedBy with
  | some .LOCAL => sendNormal .FARE_SERVER (.fareUse v.token v.cls v.halt v.gate s.localTime .LOCAL) s
  | some .OFFLINE => sendNormal .FARE_SERVER (.fareUse v.token v.cls v.halt v.gate s.localTime .OFFLINE) s
  | _ => s

/-- A window after a passed passage (R154): a reservation becomes an admission. A passage whose reservation the window does not
hold is counted in no window, so that the room of R143 is never exceeded (notes/assumptions/33). -/
def Window.passed (w : Window) : Window :=
  { w with reserved := w.reserved - 1, admitted := w.admitted + (if 0 < w.reserved then 1 else 0) }

/-- An entry in WAIT_PASS ends with an admission (R154). That rides remaining of 0 stay 0 is the model's choice
(notes/assumptions/53). -/
def passagePassed (v : VEntry) (s : State) : State :=
  let s1 := modWindow v.halt Window.passed s
  let s2 := modGates (cacheUpdate s.active.a v.token fun e =>
    { e with rides := e.rides.map fun r => r - 1, lastAdmitted := some s.localTime }) s1
  deliver v.gate (modGates (freeEntry v) (sendUse v s2))

/-- An unverified passage (R155). -/
def unverifiedPassage (g : GateId) (s : State) : State :=
  let s1 := modGates (fun u => { u with
    unverified := vmod u.unverified (gateHalt s.active.a g) satInc
    records := vmod u.records g fun r => { r with fault := true } }) s
  updateMode g (occur .GATE_FAULT (occur .UNVERIFIED_PASSAGE s1))

/-- A GATE_PASSAGE is taken (R140, R154). -/
def takeGatePassage (g : GateId) (p : GatePassageP) (s : State) : State :=
  if gateIsExit s.active.a g then
    match p.outcome with
    | .passed => modGates (fun u => { u with exits := vmod u.exits (gateHalt s.active.a g) satInc }) s
    | .expired => s
  else
    match s.gates.queue.find? fun v => (v.gate == g) && (v.state == .WAIT_PASS) && (v.number == p.number), p.outcome with
    | some v, .passed => passagePassed v s
    | some v, .expired => passageFailed v s
    | none, .passed => unverifiedPassage g s
    | none, .expired => s

/-- The WAIT_PASS deadline of an entry expires (R154). -/
def passDeadlineExpires (i : SlotId) (s : State) : State :=
  match entryAt s.gates i with
  | none => s
  | some v => if v.state = .WAIT_PASS ∧ v.deadline.isSome then passageFailed v s else s

/-- CLEAR_GATE (R155). -/
def clearGate (g : GateId) (s : State) : State :=
  updateMode g (modGates (fun u => { u with records := vmod u.records g fun r => { r with fault := false } }) s)

/-! ## Openings and close-outs (R141, R142, R156) -/

/-- The passengers counted aboard a car when its window opens (R141). -/
def carBase (s : State) (k : CarId) : Nat :=
  let cap := carCapacity s.active.a k
  let m := s.active.a.fare.personMass.toNat
  match (s.car k).load with
  | none => cap
  | some l => min cap ((l + m - 1) / m)

/-- The record of a window that opens at halt `h` for the cars berthed there (R141). -/
def freshWindow (s : State) (h : Halt) : Window where
  isOpen := true
  cars := ⟨(carsAt s h).contains .car1, (carsAt s h).contains .car2⟩
  capacity := ((carsAt s h).map (carCapacity s.active.a)).sum
  base := ((carsAt s h).map (carBase s)).sum
  admitted := 0
  reserved := 0

/-- An event of R141 at halt `h`: the window is created, or reopened (R142). -/
def openWindow (h : Halt) (s : State) : State :=
  match s.gates.windows.get h with
  | none => modGates (fun u => { u with windows := vset u.windows h (some (freshWindow s h)) }) s
  | some _ => modWindow h (fun w => { w with isOpen := true }) s

/-- Whether a close-out of the halts of `hs` turns an entry into a refusal (R156, step 2). -/
def closedOut (hs : Halt → Bool) (v : VEntry) : Bool := hs v.halt && undelivered v

/-- The first entry, in queue order, that takes over the query of place `m` (R156, step 3). -/
def heirOf (hs : Halt → Bool) (q : List VEntry) (m : SlotId) : Option VEntry :=
  q.find? fun v => (v.state == .MERGED) && (v.mergedTo == some m) && !closedOut hs v

/-- An entry after steps 2 and 3 of a close-out (R156). -/
def entryAfterCloseOut (hs : Halt → Bool) (q : List VEntry) (v : VEntry) : VEntry :=
  if closedOut hs v then
    { v with state := .WAIT_GATE, verdict := some (.REFUSE .CLOSED 0#8), query := none, mergedTo := none, deadline := none }
  else
    match v.mergedTo with
    | none => v
    | some m =>
      match q.find? fun x => x.slot == m, heirOf hs q m with
      | some asker, some heir =>
        if closedOut hs asker then
          if heir.slot = v.slot then { v with state := .ASKING, query := asker.query, deadline := asker.deadline, mergedTo := none }
          else { v with mergedTo := some heir.slot }
        else v
      | _, _ => v

/-- The reservations of halt `h` that a close-out releases (R156, step 2). -/
def releasedAt (q : List VEntry) (h : Halt) : Nat :=
  (q.filter fun v => (v.halt == h) && (v.state == .WAIT_GATE) && (v.verdict == some .ADMIT)).length

/-- A close-out of the halts of `hs` (R156). That each of its steps is made for all of them before the next is the model's choice
(notes/assumptions/54). -/
def closeOut (hs : Halt → Bool) (s : State) : State :=
  let s1 := allHalts.foldl (fun s h => if hs h then modWindow h (fun w => { w with isOpen := false }) s else s) s
  let s2 := updateModesOf (fun g => !gateIsExit s1.active.a g && hs (gateHalt s1.active.a g)) s1
  let q := s2.gates.queue
  let s3 := allHalts.foldl
    (fun s h => if hs h then modWindow h (fun w => { w with reserved := w.reserved - releasedAt q h }) s else s) s2
  let s4 := modGates (fun u => { u with queue := q.map (entryAfterCloseOut hs q) }) s3
  all16.foldl (fun s g => deliver g s) s4

/-- The gate unit takes the announcement of the trip sequencer (R76): the halts that lost and gained a berth, and whether
the line left service (R141, R142, R139). That the modes of the exit gates are ordered behind all that the close-out sends is the model's
choice (notes/assumptions/78). -/
def gateTakesTrip (lost gained : BitVec 6) (leftService : Bool) (s : State) : State :=
  let s1 :=
    if leftService then closeOut (fun _ => true) s
    else
      let hs : Halt → Bool := fun h => lost.getLsbD h.val && (carsAt s h).isEmpty
      if allHalts.any hs then closeOut hs s else s
  let s2 := allHalts.foldl
    (fun s h => if gained.getLsbD h.val && outputSet s h bitEntryOpen then openWindow h s else s) s1
  updateModes s2

/-- The gate unit takes a change of ENTRY_OPEN or EXIT_OPEN of halt `h` (R130, R139, R141, R142). The close-out comes before the modes of
the exit gates here too (notes/assumptions/78). -/
def gateTakesOutputs (h : Halt) (rose fell : Bool) (s : State) : State :=
  let s1 := if fell then closeOut (fun x => x == h) s else s
  let s2 := if rose && !(carsAt s1 h).isEmpty then openWindow h s1 else s1
  updateModes s2

/-- The entry to RUNNING: a close-out of every halt, then every window is erased (R90, R142). -/
def gateEntersRunning (s : State) : State :=
  modGates (fun u => { u with windows := Vector.replicate 6 none }) (closeOut (fun _ => true) s)

/-- The gate unit under a new group A (R138, R145, R139). -/
def gateTakesGroupA (old new : GroupA) (s : State) : State := updateModes (modGates (cacheAfterCommit old new) s)

end Sys2Proof.Machine
end

