-- ==== Sys2Proof/Machine/Seq.lean ====
section
/-!
DEFINITION. The platform sequencers (chapter 7): conditions, passes, publication, the answer to an outside change, and the
application of a group A commit (R131, R178).
-/

namespace Sys2Proof.Machine

/-! ## Conditions (R124) -/

/-- Whether a stop holds a pair that names halt `h`. -/
def stopNames (h : Halt) (st : Stop) : Bool := (stopPairs st).any fun p => p.halt == h

/-- DOORS_OPEN_HERE for one side of a car at halt `h` (R115). -/
def sideOpenAt (s : State) (h : Halt) (sd : Side) (d : SideDoors) : Bool :=
  haltHasSide s.active.b h sd && all4.any fun c => setHas (haltMask s.active.b h) c && doorUnlocked (d.doors.get c)

/-- DOORS_OPEN_HERE (R115). -/
def doorsOpenHere (s : State) (h : Halt) : Bool :=
  (carsAt s h).any fun k =>
    sideOpenAt s h .LEFT (s.doors.get k).sides.left || sideOpenAt s h .RIGHT (s.doors.get k).sides.right

/-- CAR_APPROACHING_HERE (R124). -/
def approachingHere (s : State) (h : Halt) : Bool :=
  (s.trip.state == .RUNNING) &&
    (match s.trip.plan with
     | [] => false
     | st :: _ => stopNames h st)

/-- BUDGET_EXHAUSTED_HERE (R143). -/
def budgetExhausted (s : State) (h : Halt) : Bool :=
  match s.gates.windows.get h with
  | some w => windowBudget w == 0
  | none => false

/-- GATES_IDLE_HERE (R146). -/
def gatesIdle (s : State) (h : Halt) : Bool := !(s.gates.queue.any fun v => v.halt == h)

/-- USER_A of sequencer `q`, as published. -/
def userA (s : State) (q : Halt) : Bool := outputSet s q bitUserA

/-- Whether the filtered level of DIN `i` is CLOSED. -/
def dinClosed (s : State) (i : Fin 8) : Bool := dinLevel s i == .CLOSED

/-- The 32 condition levels of the sequencer of halt `h`, condition 0 first (R124). -/
def conditionList (s : State) (h : Halt) : List Bool :=
  [ !(carsAt s h).isEmpty,
    approachingHere s h,
    (carsAt s h).all fun k => carLocked (s.doors.get k),
    doorsOpenHere s h,
    budgetExhausted s h,
    gatesIdle s h,
    (s.seqs.get h).timerDone,
    s.trip.state == .READY,
    (s.trip.state == .DEPARTING) || (s.trip.state == .RUNNING),
    s.inService,
    anyLatch s.brake,
    s.trip.hold == .SOFT,
    s.trip.plan.any (stopNames h),
    s.trip.flags.get 0, s.trip.flags.get 1, s.trip.flags.get 2, s.trip.flags.get 3,
    dinClosed s 2, dinClosed s 3, dinClosed s 4, dinClosed s 5, dinClosed s 6, dinClosed s 7,
    yes (s.active.b.halts.get h).terminus,
    s.trip.mode == .CREEP,
    userA s 0, userA s 1, userA s 2, userA s 3, userA s 4, userA s 5,
    s.gates.serverLost ]

/-- A list of levels as a mask, the first level in bit 0. -/
def maskOf : List Bool → Nat
  | [] => 0
  | b :: bs => (if b then 1 else 0) + 2 * maskOf bs

/-- The condition levels of halt `h` as a mask. -/
def conditionWord (s : State) (h : Halt) : BitVec 32 := BitVec.ofNat 32 (maskOf (conditionList s h))

/-- The condition levels of halt `h` as the sequencers have been told of them: a change that is still to be announced is not
yet among them (R125). -/
def toldWord (s : State) (h : Halt) : BitVec 32 :=
  s.agenda.foldl
    (fun w a => match a with
      | .outside changed _ => w ^^^ changed.get h
      | _ => w)
    (conditionWord s h)

/-- The levels with which an answer is evaluated: those that stand when it is taken (R125, R130). -/
def answerLevels (s : State) : Vector (BitVec 32) 6 := Vector.ofFn (toldWord s)

/-- Conditions 25 to 30, the USER_A bits, which are handed on within an answer (R125). -/
def userMask : BitVec 32 := 0x7E000000#32

/-- The levels of a pass of sequencer `q` within an answer: those of the answer, and the USER_A bits as published (R125). -/
def passWord (levels : Vector (BitVec 32) 6) (s : State) (q : Halt) : BitVec 32 :=
  (levels.get q &&& ~~~userMask) ||| (conditionWord s q &&& userMask)

/-! ## Outside changes (R124, R125) -/

/-- Whether a condition is one of the halt's own: the conditions named HERE, and STATE_TIMER_DONE (R124). -/
def hereCondition (c : Fin 32) : Bool :=
  [0, 1, 2, 3, 4, 5, 6, 12, 23].contains c.val

/-- The conditions that outside changes change, in the order in which the changes of one event are announced: those of the trip
sequencer, the door unit, the gate unit, the brake supervisor, the frame switch and the management agent, each owner's by index,
and last the sequencers' own, condition 6 (R124, notes/assumptions/7). Conditions 25 to 30 are handed on within an answer (R125). -/
def ownedConditions : List (Fin 32) :=
  [0, 1, 7, 8, 9, 11, 12, 13, 14, 15, 16, 24] ++ [2, 3] ++ [4, 5, 31] ++ [10] ++ [17, 18, 19, 20, 21, 22] ++ [23] ++ [6]

/-- Condition `c` alone, for the sequencers of `hs`. -/
def changeOf (hs : Fin 6 → Bool) (c : Fin 32) : Vector (BitVec 32) 6 :=
  Vector.ofFn fun h => if hs h then 1#32 <<< c.val else 0#32

/-- The outside changes that there can be: one for each condition, and for each halt where the condition is the halt's own
(R125: two that arrive together form two answers). -/
def changeKinds : List (Vector (BitVec 32) 6) :=
  ownedConditions.flatMap fun c =>
    if hereCondition c then allHalts.map fun h => changeOf (fun x => x == h) c else [changeOf (fun _ => true) c]

/-- The conditions that changed between two states, sequencer by sequencer, less those already announced. -/
def changedConditions (a b : State) : Vector (BitVec 32) 6 :=
  Vector.ofFn fun h : Fin 6 => toldWord a h ^^^ toldWord b h

/-- The part of a change that lies in `m`. -/
def changeWithin (m v : Vector (BitVec 32) 6) : Vector (BitVec 32) 6 := Vector.zipWith (fun x y => x &&& y) m v

/-- Announce the part of a change that lies in `m`, if there is any, as one outside change. -/
def announceChange (v m : Vector (BitVec 32) 6) (s : State) : State :=
  announceIf ((changeWithin m v).toList.any fun x => x != 0#32) (.outside (changeWithin m v) 0#6) s

/-- Announce the condition changes from `a` to `b` that have not been announced, each as an outside change of its own (R124,
R125, R130). -/
def announceConditions (a b : State) : State :=
  let v := changedConditions a b
  if v.toList.all fun x => x == 0#32 then b else changeKinds.foldl (fun s m => announceChange v m s) b

/-- Carry out the work of one block and announce the condition changes it made, before another block is told (R130). -/
def watch (f : State → State) (s : State) : State := announceConditions s (f s)

/-! ## A pass (R126 to R129) -/

/-- The level of a condition during a pass: STATE_TIMER_DONE as the record has it, the others as they stood at its start. -/
def condLevel (w : BitVec 32) (r : SeqRecord) (c : Byte) : Bool :=
  if codeAt 31 c = 6 then r.timerDone else w.getLsbD (codeAt 31 c)

/-- Whether a slot is true (R120). -/
def slotTrue (w : BitVec 32) (r : SeqRecord) (sl : SlotEntry) : Bool :=
  yes sl.enabled && sl.source.getLsbD r.state.val && (condLevel w r sl.condition != yes sl.polarity)

/-- Whether the reset slot holds (R128). -/
def resetHolds (p : Program) (w : BitVec 32) (r : SeqRecord) : Bool :=
  yes p.reset.enabled && (condLevel w r p.reset.condition != yes p.reset.polarity)

/-- Enter a state (R126, R127): its word is loaded, its timer started or stopped, timer done becomes no. -/
def enterSeqState (p : Program) (st : Fin 8) (r : SeqRecord) : SeqRecord :=
  { r with state := st, loaded := p.outputs.get st, timer := programTimer p st, timerDone := false }

/-- The target state of slot `i`: `i` div 3 (R120). -/
def slotTarget (i : Nat) : Fin 8 := ⟨min 7 (i / 3), by omega⟩

/-- The ninth transition found: the cycling hold (R129). -/
def enterCyclingHold (p : Program) (r : SeqRecord) : SeqRecord :=
  { r with state := stateOfCode p.initial, loaded := 0#8, timer := none, timerDone := false, cyclingHold := true }

/-- Steps 3 to 5 of a pass (R126, R129). The second part of the answer says whether it ended in a cycling hold. The fuel
exceeds the eight transitions that one answer allows. -/
def passGo (p : Program) (w : BitVec 32) : Nat → SeqRecord → SeqRecord × Bool
  | 0, r => (r, false)
  | n + 1, r =>
    match p.slots.toList.findIdx? (slotTrue w r) with
    | none => (r, false)
    | some i =>
      if r.transitions < 8 then passGo p w n (enterSeqState p (slotTarget i) { r with transitions := r.transitions + 1 })
      else (enterCyclingHold p r, true)

/-- A pass of a sequencer (R126); `fresh` says whether it is its first in this answer. During a cycling hold a later pass of the
same answer ends at once, before the reset slot is looked at; the first of a later answer ends the hold, the reset slot first
(R129, notes/assumptions/40). -/
def passRecord (p : Program) (w : BitVec 32) (fresh : Bool) (r0 : SeqRecord) : SeqRecord × Bool :=
  if !fresh && r0.cyclingHold then (r0, false)
  else
    let r := if fresh then { r0 with transitions := 0 } else r0
    if resetHolds p w r then
      if r.resetHeld then (r, false)
      else (enterSeqState p (stateOfCode p.initial) { r with resetHeld := true, cyclingHold := false }, false)
    else
      let r1 := { r with resetHeld := false }
      if r1.cyclingHold then passGo p w 10 (enterSeqState p (stateOfCode p.initial) { r1 with cyclingHold := false })
      else passGo p w 10 r1

/-- The word that a record publishes at the end of a pass (R122, R130). -/
def wordToPublish (r : SeqRecord) : Byte := if r.cyclingHold then 0#8 else r.loaded

/-! ## Publication (R130) -/

/-- Change the record of sequencer `q`. -/
def modSeq (q : Halt) (f : SeqRecord → SeqRecord) (s : State) : State := { s with seqs := vmod s.seqs q f }

/-- Give the user bit events of a changed word, A, B, C in order (R130). -/
def giveUserEvents (q : Halt) (old new : Byte) (s : State) : State :=
  [(0 : Fin 3), 1, 2].foldl
    (fun s b =>
      if old.getLsbD (5 + b.val) == new.getLsbD (5 + b.val) then s
      else if new.getLsbD (5 + b.val) then giveEvent (.userRise q b) s
      else giveEvent (.userFall q b) s)
    s

/-- The end of a pass of sequencer `q`: its word is published and the changed bits are announced to the door unit, the gate
unit, the trip sequencer (`tell`) and the pulse unit, in that order. The conditions that a consumer changes are announced when its
work is done, each to be answered after the present answer (R130). -/
def publish (tell : Halt → Byte → State → State) (q : Halt) (s : State) : State :=
  let old := (s.seqs.get q).published
  let new := wordToPublish (s.seqs.get q)
  if old = new then s
  else
    let ch := old ^^^ new
    let s1 := modSeq q (fun r => { r with published := new }) s
    let s2 := if ch.getLsbD bitDoorPermit then (carsAt s1 q).foldl (fun s k => watch (doorEvaluation k) s) s1 else s1
    let s3 :=
      if ch.getLsbD bitEntryOpen || ch.getLsbD bitExitOpen then
        watch
          (gateTakesOutputs q (ch.getLsbD bitEntryOpen && new.getLsbD bitEntryOpen)
            (ch.getLsbD bitEntryOpen && old.getLsbD bitEntryOpen)) s2
      else s2
    giveUserEvents q old new (watch (tell q ch) s3)

/-- One pass of sequencer `q` with its publication. A fall of its STATE_TIMER_DONE at a state entry is announced at the end of the
pass, before the consumers are told (R124, R127, notes/assumptions/40). -/
def seqPass (tell : Halt → Byte → State → State) (levels : Vector (BitVec 32) 6) (fresh : Bool) (q : Halt) (s : State) :
    State :=
  let r := passRecord (s.active.a.programs.get q) (passWord levels s q) fresh (s.seqs.get q)
  let s1 := watch (modSeq q fun _ => r.1) s
  publish tell q (if r.2 then occur .SEQUENCER_CYCLING s1 else s1)

/-- Whether a program reads USER_A of sequencer `q` (R124). -/
def readsUserA (p : Program) (q : Halt) : Bool := programReads p (1#32 <<< (25 + q.val))

/-- The answer to one outside change: the passes due, one at a time (R125). `done` holds the sequencers that have made a
pass in it. -/
def answerGo (tell : Halt → Byte → State → State) (levels : Vector (BitVec 32) 6) : Nat → List Halt → List Halt → State → State
  | 0, _, _, s => s
  | _ + 1, [], _, s => s
  | n + 1, q :: rest, done, s =>
    let s1 := seqPass tell levels (!done.contains q) q s
    let more :=
      if userA s q == userA s1 q then []
      else allHalts.filter fun x => readsUserA (s1.active.a.programs.get x) q && !rest.contains x
    answerGo tell levels n (rest ++ more) (q :: done) s1

/-- The answer to an outside change that changed the given conditions and makes the passes of `due` due (R125). -/
def answerOutside (tell : Halt → Byte → State → State) (changed : Vector (BitVec 32) 6) (due : BitVec 6) (s : State) : State :=
  answerGo tell (answerLevels s) Config.answerBound
    (allHalts.filter fun q => due.getLsbD q.val || programReads (s.active.a.programs.get q) (changed.get q)) [] s

/-- All six passes due, no condition changed. -/
def allDue : BitVec 6 := 0x3F#6

/-- The state timer of sequencer `q` expires (R127): an outside change of its own, which the rise of STATE_TIMER_DONE belongs to and
which prompts one pass whatever the program references (R125). -/
def stateTimerExpires (q : Halt) (s : State) : State :=
  if (s.seqs.get q).timer.isSome then
    let s1 := modSeq q (fun r => { r with timer := none, timerDone := true }) s
    announce (.outside (changedConditions s s1) (1#6 <<< q.val)) s1
  else s

/-! ## Start-up and commit (R131, R132, R178) -/

/-- A sequencer record after start-up, before its pass (R132). -/
def startSeq (p : Program) : SeqRecord where
  state := stateOfCode p.initial
  loaded := p.outputs.get (stateOfCode p.initial)
  published := 0#8
  timer := programTimer p (stateOfCode p.initial)
  timerDone := false
  resetHeld := false
  cyclingHold := false
  transitions := 0

/-- A sequencer record under a new program, before its pass (R131). -/
def newProgram (p : Program) (r : SeqRecord) : SeqRecord :=
  let r1 :=
    if r.state.val < p.stateCount.toNat then r
    else { r with state := stateOfCode p.initial, timer := none, timerDone := false }
  { r1 with resetHeld := false }

/-- The trip sequencer is told of outputs while the trip is IDLE or RUNNING: it then tests nothing (R85, R86). -/
def tellNothing : Halt → Byte → State → State := fun _ _ s => s

/-- The application of the staged group A (R178): the active generation, the commit status, the notice, then the
platform sequencers (R131), the pulse unit (R135) and the gate unit (R138). It happens only in IDLE and RUNNING. -/
def applyGroupA (s : State) : State :=
  let old := s.active.a
  let new := s.staged.a
  let s1 : State := { s with
    active := { s.active with a := new }
    mgmt := { s.mgmt with commitA := ⟨false, .OK⟩ } }
  let s2 := occur .COMMIT_APPLIED s1
  let s3 := allHalts.foldl (fun s q => modSeq q (newProgram (new.programs.get q)) s) s2
  let s4 := answerOutside tellNothing (Vector.replicate 6 0#32) allDue s3
  let s5 : State := { s4 with pulses := pulsesAfterCommit old new s4.pulses }
  gateTakesGroupA old new s5

/-- A pending group A commit is applied (R90, R95, R178). -/
def applyPendingA (s : State) : State := if s.mgmt.commitA.pending then applyGroupA s else s

end Sys2Proof.Machine
end

