-- ==== Sys2Proof/Machine/Trip.lean ====
section
/-!
DEFINITION. The trip sequencer (chapter 5): the stop plan, calls, holds, departure, arrival, stopping, recovery, service and
mode, the line cap (R50) and LINE_STATUS (R98). An event is carried through in the trip record and the berths and its
net change is then announced (R76, `announceTrip`).
-/

namespace Sys2Proof.Machine

/-- Change the trip record. -/
def modTrip (f : Trip → Trip) (s : State) : State := { s with trip := f s.trip }

/-! ## Announcements (R76) -/

/-- Whether two stops are one: they share a (car, halt) pair. -/
def sameStop (x y : Stop) : Bool :=
  (stopPairs x).any fun p => (stopPairs y).any fun q => (p.car == q.car) && (p.halt == q.halt)

/-- Whether the head stop became another one, or went, or came (R37). A stop that is joined, or that loses one of two pairs, stays the
same stop (notes/assumptions/71). -/
def headChanged (a b : List Stop) : Bool :=
  match a, b with
  | [], [] => false
  | x :: _, y :: _ => !sameStop x y
  | _, _ => true

/-- The halts of the berths that `a` has and `b` has not, car by car, as a mask. -/
def berthsLost (a b : PerCar (Option Halt)) : BitVec 6 :=
  let m (x y : Option Halt) : BitVec 6 :=
    match x with
    | some h => if x = y then 0#6 else 1#6 <<< h.val
    | none => 0#6
  m a.one b.one ||| m a.two b.two

/-- Whether a departure-relevant change for auto-dispatch lies between two trip records (R85). -/
def autoMoment (a b : Trip) : Bool :=
  (a.berth != b.berth) || (a.plan != b.plan) || ((a.hold != .NONE) && (b.hold == .NONE)) ||
    (((b.state == .PARKED) || (b.state == .AT_STOP)) && ((a.state == .RUNNING) || (a.state == .TRIPPED)))

/-- Announce what changed from `a` to `b`, both states of one event of the trip sequencer (R76), and prompt the trip
sequencer's own tests (R85, R91). That a head stop which a pair joins or leaves counts as changed for the arrival test, though not for R37
(`headChanged`), is the model's choice (notes/assumptions/77). -/
def announceTrip (a b : State) : State :=
  let x := a.trip
  let y := b.trip
  let stateChanged := x.state != y.state
  let entered := stateChanged && (y.state == .RUNNING)
  let service := a.inService != b.inService
  let lost := berthsLost x.berth y.berth
  let gained := berthsLost y.berth x.berth
  let b0 : State :=
    if headChanged x.plan y.plan || entered then { b with speed := { b.speed with overrunRaised := false } } else b
  let b1 := announceIf stateChanged (.brakeTrip y.state) b0
  let b2 := announceIf
    (stateChanged || (x.dir != y.dir) || (x.plan != y.plan) || (x.virtualStop != y.virtualStop) || (x.mode != y.mode) ||
      (x.lineCap != y.lineCap)) (.recompute false) b1
  let b3 := announceIf (stateChanged || (x.dir != y.dir)) (.demandTrip (if stateChanged then some y.state else none)) b2
  let b4 := announceIf (service || (x.berth.one != y.berth.one)) (.doorEval .car1) b3
  let b5 := announceIf (service || (x.berth.two != y.berth.two)) (.doorEval .car2) b4
  let b6 := announceIf (service || (lost != 0#6) || (gained != 0#6)) (.gateTrip lost gained (service && !b.inService)) b5
  let b7 := announceIf (autoMoment x y) .tripAuto b6
  announceIf (entered || ((y.state == .RUNNING) && (x.plan.head? != y.plan.head?))) .tripArrival b7

/-- Carry an event through and announce its net change (R76). -/
def carry (f : State → State) (s : State) : State := announceTrip s (f s)

/-! ## Entering states -/

/-- The trip record enters a state: the virtual stop goes when STOPPING is left (R32), the READY and torque proof timers stop
when their states are left (R86, R89). -/
def tripEnter (st : TripState) (t : Trip) : Trip :=
  { t with
    state := st
    virtualStop := if st = .STOPPING then t.virtualStop else none
    readyTimer := if st = .READY then t.readyTimer else none
    torqueTimer := if st = .DEPARTING then t.torqueTimer else none }

/-- The direction that the berths of PARKED give (R91). -/
def parkedDir (t : Trip) : Dir :=
  if t.berth.one = some 0 then .UP else if t.berth.one = some 1 then .DOWN else t.dir

/-- The entry to PARKED (R91). -/
def tripPark (t : Trip) : Trip :=
  let u := tripEnter .PARKED t
  { u with plan := [], dir := parkedDir u }

/-- The state an origin stands for. -/
def originState : Origin → TripState
  | .PARKED => .PARKED
  | .AT_STOP => .AT_STOP
  | .HELD => .HELD

/-- A departure returns to its origin state (R89). -/
def tripAbandon (t : Trip) : Trip :=
  { tripEnter ((t.origin.map originState).getD .HELD) t with origin := none }

/-- The virtual stop of an entry to STOPPING (R32). -/
def virtualStopFor (s : State) : Travel :=
  let v := s.speedNow
  s.pos.ropeTravel +
    BitVec.ofInt 48 (dirSign s.trip.dir *
      (((v * v / (2 * s.params.serviceDecel.toNat) + s.params.stopMargin.toNat) * 1000 : Nat) : Int))

/-- The entry to STOPPING (R32), and at once to HELD where standstill holds (R92). -/
def enterStopping (s : State) : State :=
  if s.pos.standstill then modTrip (tripEnter .HELD) s
  else modTrip (fun t => { tripEnter .STOPPING t with virtualStop := some (virtualStopFor s) }) s

/-- The conditions on which READY passes to DEPARTING (R86). -/
def departureReady (s : State) : Bool :=
  allLocked s &&
    !(s.gates.queue.any fun v => v.state == .WAIT_PASS) &&
    ((berthedHalts s).all fun h => !outputSet s h bitEntryOpen) &&
    !anyLatch s.brake &&
    (bothReferenced s || (s.trip.mode == .CREEP)) &&
    !s.trip.plan.isEmpty &&
    (dinLevel s 0 == .CLOSED) &&
    (match s.trip.lastDrive with
     | some d => d.ready
     | none => false)

/-- The entry to DEPARTING (R87). -/
def enterDeparting (s : State) : State :=
  giveEvent .departureAccepted
    (modTrip (fun t => { tripEnter .DEPARTING t with torqueTimer := some s.params.torqueProofTime.toNat }) s)

/-- The entry to READY, and at once to DEPARTING where its conditions hold (R86). -/
def enterReady (o : Origin) (s : State) : State :=
  let s1 := modTrip (fun t =>
    { tripEnter .READY t with origin := some o, readyTimer := some (s.params.readyTimeout.toNat * 1000) }) s
  if departureReady s1 then enterDeparting s1 else s1

/-- The test of the departure conditions (R86). -/
def testReady (s : State) : State := if s.trip.state = .READY ∧ departureReady s then carry enterDeparting s else s

/-! ## The stop plan (R77 to R79) -/

/-- Whether a stop holds a pair of car `k` and halt `h`. -/
def stopHolds (k : CarId) (h : Halt) (st : Stop) : Bool := (stopPairs st).any fun p => (p.car == k) && (p.halt == h)

/-- A stop without the pair of car `k` and halt `h`; none when it is left without pairs. -/
def stopWithout (k : CarId) (h : Halt) (st : Stop) : Option Stop :=
  match (stopPairs st).filter fun p => !((p.car == k) && (p.halt == h)) with
  | [] => none
  | [p] => some ⟨p, none⟩
  | p :: q :: _ => some ⟨p, some q⟩

/-- A plan without the pair of car `k` and halt `h` (R79, R82). -/
def planWithout (k : CarId) (h : Halt) (plan : List Stop) : List Stop := plan.filterMap (stopWithout k h)

/-- Whether a stop is the termini stop (R79). -/
def isTermini (st : Stop) : Bool := st.first.source == .TERMINI

/-- The termini stop of a direction (R79). -/
def terminiStop : Dir → Stop
  | .UP => ⟨⟨.car1, 1, .TERMINI⟩, some ⟨.car2, 0, .TERMINI⟩⟩
  | .DOWN => ⟨⟨.car1, 0, .TERMINI⟩, some ⟨.car2, 1, .TERMINI⟩⟩

/-- Place the termini stop of a direction in a plan (R79). -/
def placeTermini (d : Dir) (plan : List Stop) : List Stop :=
  if plan.any isTermini then plan
  else
    let rest :=
      match d with
      | .UP => planWithout .car2 0 (planWithout .car1 1 plan)
      | .DOWN => planWithout .car2 1 (planWithout .car1 0 plan)
    (if 9 ≤ rest.length then rest.take 8 else rest) ++ [terminiStop d]

/-- Whether a stop may be joined by a pair of car `k` at distance `d` (R78). -/
def joinable (s : State) (k : CarId) (d : Int) (st : Stop) : Bool :=
  st.second.isNone && (st.first.car != k) &&
    (match stopDistance s st with
     | some x => decide ((x - d).natAbs ≤ 50)
     | none => false)

/-- Put `x` behind every element that satisfies `p`, in front of what follows the last of them. In a plan (R78) this places a new
stop behind a stop without distance that stands before a stop at or below its distance: the model's choice
(notes/assumptions/43). -/
def insertAfterAll {α : Type} (p : α → Bool) (x : α) : List α → List α
  | [] => [x]
  | y :: ys => if (y :: ys).any p then y :: insertAfterAll p x ys else x :: y :: ys

/-- Replace the first element that satisfies `p` by its image. -/
def modifyFirst {α : Type} (p : α → Bool) (f : α → α) : List α → List α
  | [] => []
  | y :: ys => if p y then f y :: ys else y :: modifyFirst p f ys

/-- Whether the distance of a stop is at or below `d` (R78). -/
def atOrBefore (s : State) (d : Int) (st : Stop) : Bool :=
  match stopDistance s st with
  | some x => decide (x ≤ d)
  | none => false

/-- The plan with a pair joined or inserted; none when the plan is full (R78). -/
def planWith (s : State) (p : StopPair) (d : Int) : Option (List Stop) :=
  if s.trip.plan.any (joinable s p.car d) then
    some (modifyFirst (joinable s p.car d) (fun st => { st with second := some p }) s.trip.plan)
  else if 9 ≤ s.trip.plan.length then none
  else
    some (insertAfterAll (atOrBefore s d) ⟨p, none⟩ (s.trip.plan.filter fun st => !isTermini st) ++
      s.trip.plan.filter isTermini)

/-! ## Calls (R80 to R82) -/

/-- The tests of R80 on a call for car `k` at the halt named by a byte; the plan that an accepted call leaves. -/
def callOutcome (s : State) (k : CarId) (halt : Option Halt) (src : Source) : LineAnswer × Option (List Stop) :=
  let st := s.trip.state
  if !((st == .PARKED) || (st == .READY) || (st == .AT_STOP) || (st == .RUNNING)) then (.REFUSED .WRONG_STATE, none)
  else
    match halt with
    | none => (.REFUSED .HALT_ABSENT, none)
    | some h =>
      if !haltPresent s.active.b h then (.REFUSED .HALT_ABSENT, none)
      else if s.trip.hold ≠ .NONE then (.REFUSED .HOLD_ACTIVE, none)
      else if src = .PLATFORM ∧ ¬ outputSet s h bitCallsAccepted then (.REFUSED .CALLS_CLOSED, none)
      else if !(s.car k).referenced then (.REFUSED .NOT_REFERENCED, none)
      else
        let d := pairDistance s k h
        if d ≤ platformWindow s.active.b h then (.REFUSED .HALT_NOT_AHEAD, none)
        else if s.trip.plan.any (stopHolds k h) then (.ACCEPTED, none)
        else if st = .RUNNING ∧ curveAt s.params d < s.speedNow + s.params.callMargin.toNat then (.TOO_LATE, none)
        else
          match planWith s ⟨k, h, src⟩ d with
          | some plan => (.ACCEPTED, some plan)
          | none => (.REFUSED .PLAN_FULL, none)

/-- The effect of a call: the plan it leaves. -/
def callEffect (o : LineAnswer × Option (List Stop)) (s : State) : State :=
  match o.2 with
  | some plan => carry (modTrip fun t => { t with plan := plan }) s
  | none => s

/-- The car of a platform call (R81). -/
def platformCar (d : Dir) (w : Wanted) : CarId :=
  match d, w with
  | .UP, .UPHILL => .car1
  | .UP, _ => .car2
  | .DOWN, .UPHILL => .car2
  | .DOWN, _ => .car1

/-- The answer to CANCEL_CALL (R82). -/
def cancelAnswer (s : State) (k : CarId) (halt : Option Halt) : LineAnswer :=
  match halt with
  | none => .REFUSED .NOT_FOUND
  | some h =>
    match (s.trip.plan.flatMap stopPairs).find? fun p => (p.car == k) && (p.halt == h) with
    | none => .REFUSED .NOT_FOUND
    | some p => if p.source = .CONSOLE then .ACCEPTED else .REFUSED .NOT_CONSOLE

/-- The effect of an accepted CANCEL_CALL (R82). -/
def cancelEffect (k : CarId) (halt : Option Halt) (s : State) : State :=
  match halt with
  | none => s
  | some h => carry (modTrip fun t => { t with plan := planWithout k h t.plan }) s

/-! ## Holds and departure (R83 to R90) -/

/-- The answer to HOLD_SOFT and HOLD_HARD (R83, R84). -/
def holdAnswer (s : State) : LineAnswer := if s.trip.state = .IDLE then .REFUSED .WRONG_STATE else .ACCEPTED

/-- The effect of an accepted HOLD_SOFT (R83). -/
def holdSoftEffect (s : State) : State :=
  carry (modTrip fun t => { t with plan := t.plan.take 1, hold := if t.hold = .HARD then .HARD else .SOFT }) s

/-- The effect of an accepted HOLD_HARD (R84). -/
def holdHardEffect (s : State) : State :=
  carry
    (fun s =>
      modTrip (fun t => { t with hold := .HARD })
        (match s.trip.state with
         | .READY => modTrip tripAbandon s
         | .DEPARTING => modTrip tripAbandon s
         | .RUNNING => enterStopping s
         | _ => s))
    s

/-- Whether CREEP mode with DIN1 open bars a departure (R85). -/
def keyBars (s : State) : Bool := (s.trip.mode == .CREEP) && (dinLevel s 1 == .OPEN)

/-- The answer to DISPATCH (R85). -/
def dispatchAnswer (s : State) : LineAnswer :=
  if ¬ (s.trip.state = .PARKED ∨ s.trip.state = .AT_STOP) then .REFUSED .WRONG_STATE
  else if keyBars s then .REFUSED .KEY_OPEN
  else if s.trip.hold ≠ .NONE then .REFUSED .HOLD_ACTIVE
  else if s.trip.state = .AT_STOP ∧ s.trip.plan = [] then .REFUSED .PLAN_EMPTY
  else .ACCEPTED

/-- The departure that DISPATCH and auto-dispatch start (R85). -/
def startDispatch (s : State) : State :=
  if s.trip.state = .PARKED then enterReady .PARKED (modTrip (fun t => { t with plan := placeTermini t.dir t.plan }) s)
  else enterReady .AT_STOP s

/-- The effect of an accepted DISPATCH (R85). -/
def dispatchEffect (s : State) : State := carry startDispatch s

/-- The test of auto-dispatch (R85). -/
def testAuto (s : State) : State :=
  if dispatchAnswer s = .ACCEPTED ∧ (berthedHalts s).all (fun h => outputSet s h bitDepartRequest) then dispatchEffect s
  else s

/-- The answer to RESUME (R85). -/
def resumeAnswer (s : State) : LineAnswer :=
  if ¬ (s.trip.state = .PARKED ∨ s.trip.state = .AT_STOP ∨ s.trip.state = .HELD) then .REFUSED .WRONG_STATE
  else if keyBars s then .REFUSED .KEY_OPEN
  else .ACCEPTED

/-- The effect of an accepted RESUME (R85). -/
def resumeEffect (s : State) : State :=
  carry
    (fun s =>
      let s1 := modTrip (fun t => { t with
        hold := .NONE
        plan := if t.state = .PARKED ∨ t.plan = [] then placeTermini t.dir t.plan else t.plan }) s
      enterReady (if s.trip.state = .PARKED then .PARKED else if s.trip.state = .AT_STOP then .AT_STOP else .HELD) s1)
    s

/-- A departure is abandoned, if one is in DEPARTING (R89). -/
def abandonDeparting (s : State) : State := if s.trip.state = .DEPARTING then carry (modTrip tripAbandon) s else s

/-- The READY timer expires (R86). -/
def readyTimerExpires (s : State) : State :=
  if s.trip.state = .READY ∧ s.trip.readyTimer.isSome then occur .DISPATCH_TIMEOUT (carry (modTrip tripAbandon) s) else s

/-- The torque proof timer expires (R89). -/
def torqueTimerExpires (s : State) : State := if s.trip.torqueTimer.isSome then abandonDeparting s else s

/-- A DRIVE_STATE is taken (R74, R88). That one which reports not ready abandons the departure, without a release asked, although it
is also the first to report torque proven, is the model's choice (notes/assumptions/44). -/
def takeDriveState (p : DriveStateP) (s : State) : State :=
  let s1 := modTrip (fun t => { t with lastDrive := some p }) s
  if s1.trip.state = .DEPARTING then
    if !p.ready then abandonDeparting s1
    else if p.torque && s1.trip.torqueTimer.isSome then requestRelease (modTrip (fun t => { t with torqueTimer := none }) s1)
    else s1
  else s1

/-- The entry to RUNNING (R90). -/
def enterRunning (s : State) : State :=
  applyPendingA
    (gateEntersRunning
      (modTrip (fun t => { tripEnter .RUNNING t with
        number := if t.origin = some .PARKED then t.number + 1#16 else t.number
        origin := none
        berth := ⟨none, none⟩ }) s))

/-- Brake released is announced (R65, R88, R90). -/
def takeReleased (s : State) : State := if s.trip.state = .DEPARTING then carry enterRunning s else s

/-- Demand lost is announced (R47). -/
def takeDemandLost (s : State) : State :=
  if s.trip.state = .RUNNING then carry enterStopping s else abandonDeparting s

/-! ## Arrival, stopping, recovery (R91 to R93) -/

/-- Whether a pair's car is referenced and stands within the pair's window (R91). -/
def pairArrived (s : State) (p : StopPair) : Bool :=
  match pairAhead s p with
  | some d => decide (-platformWindow s.active.b p.halt ≤ d) && decide (d ≤ platformWindow s.active.b p.halt)
  | none => false

/-- The berth that arrival at a stop gives car `k`, or the one it has. -/
def berthAtStop (st : Stop) (k : CarId) (old : Option Halt) : Option Halt :=
  match (stopPairs st).find? fun p => p.car == k with
  | some p => some p.halt
  | none => old

/-- Give BERTHED for the halts of a list (R91, R93). -/
def giveBerthed (hs : List Halt) (s : State) : State := hs.foldl (fun s h => giveEvent (.berthed h) s) s

/-- Arrival at stop `st`, the head of the plan (R91). -/
def arriveAt (st : Stop) (s : State) : State :=
  giveBerthed ((stopPairs st).map StopPair.halt).dedup
    (modTrip
      (fun t =>
        let u := { t with
          berth := ⟨berthAtStop st .car1 t.berth.one, berthAtStop st .car2 t.berth.two⟩
          plan := t.plan.drop 1 }
        if isTermini st then tripPark u else tripEnter .AT_STOP u)
      s)

/-- The test of arrival (R91). -/
def testArrival (s : State) : State :=
  match s.trip.plan with
  | [] => s
  | st :: _ =>
    if s.trip.state = .RUNNING ∧ s.pos.standstill ∧ (stopPairs st).all (pairArrived s) then carry (arriveAt st) s else s

/-- Standstill begins (R50, R91, R92). -/
def takeStandstill (s : State) : State :=
  testArrival
    (carry
      (fun s =>
        modTrip
          (fun t =>
            let u := { t with lineCap := t.pendingCap.getD t.lineCap, pendingCap := none }
            if t.state = .STOPPING then tripEnter .HELD u else u)
          s)
      s)

/-- The halt in whose window car `k` stands, if it is referenced (R93). -/
def berthFromWindows (s : State) (k : CarId) : Option Halt :=
  if (s.car k).referenced then allHalts.find? fun h => withinWindow s.active.b h (reportedPos (s.car k)) else none

/-- Whether both cars are referenced and each stands in the window of a different terminus (R93, R94). -/
def atTermini (s : State) : Bool :=
  let inWindow (k : CarId) (h : Halt) : Bool := withinWindow s.active.b h (reportedPos (s.car k))
  bothReferenced s && ((inWindow .car1 0 && inWindow .car2 1) || (inWindow .car1 1 && inWindow .car2 0))

/-- Berths from the windows, then PARKED at the termini and HELD elsewhere (R93, R94). -/
def berthAndStand (s : State) : State :=
  modTrip
    (fun t =>
      let u := { t with berth := ⟨berthFromWindows s .car1, berthFromWindows s .car2⟩ }
      if atTermini s then tripPark u else tripEnter .HELD u)
    s

/-- The trip leaves TRIPPED (R93). -/
def recover (s : State) : State :=
  let s0 := modTrip (fun t => { t with berth := ⟨none, none⟩ }) s
  let windows := giveBerthed ((berthFromWindows s .car1).toList ++ (berthFromWindows s .car2).toList).dedup (berthAndStand s0)
  match s.trip.plan with
  | [] => windows
  | st :: _ => if (stopPairs st).all (pairArrived s) then arriveAt st s0 else windows

/-- The trip enters TRIPPED (R69, R93). -/
def tripTrip (t : Trip) : Trip := { tripEnter .TRIPPED t with origin := none }

/-- A change of the commanded stage reaches the trip sequencer (R69, R93). -/
def takeStage (old new : Stage) (s : State) : State :=
  if stageRank old < stageRank new then
    if new = .SERVICE then
      if s.trip.state = .RUNNING then carry enterStopping s else abandonDeparting s
    else if 3 ≤ stageRank new ∧ s.trip.state ≠ .IDLE ∧ s.trip.state ≠ .TRIPPED then carry (modTrip tripTrip) s
    else s
  else if new = .HOLD ∧ s.trip.state = .TRIPPED then carry recover s
  else s

/-! ## Service, mode, flags, cap (R94 to R96, R50) -/

/-- The answer to ENTER_SERVICE; `invalid` says that the active generations fail validation (R94). -/
def enterServiceAnswer (invalid : Bool) (s : State) : LineAnswer :=
  if s.trip.state ≠ .IDLE then .REFUSED .WRONG_STATE
  else if invalid then .REFUSED .CONFIG_INVALID
  else if !s.pos.standstill then .REFUSED .NOT_AT_STANDSTILL
  else if anyLatch s.brake then .REFUSED .LATCH_SET
  else if !bothReferenced s then .REFUSED .NOT_REFERENCED
  else .ACCEPTED

/-- The effect of an accepted ENTER_SERVICE (R94). -/
def enterServiceEffect (s : State) : State :=
  carry (fun s => berthAndStand (modTrip (fun t => { t with hold := .NONE, plan := [] }) s)) s

/-- The answer to LEAVE_SERVICE (R95). -/
def leaveServiceAnswer (s : State) : LineAnswer :=
  if s.trip.state = .PARKED ∨ s.trip.state = .HELD then .ACCEPTED else .REFUSED .WRONG_STATE

/-- The effect of an accepted LEAVE_SERVICE (R95). -/
def leaveServiceEffect (s : State) : State :=
  carry
    (fun s =>
      applyPendingA
        (modTrip (fun t => { tripEnter .IDLE t with plan := [], hold := .NONE, origin := none, berth := ⟨none, none⟩ }) s))
    s

/-- The answer to SET_MODE (R96). -/
def setModeAnswer (m : Mode) (s : State) : LineAnswer :=
  if s.inService ∧ s.trip.state ≠ .PARKED ∧ s.trip.state ≠ .HELD then .REFUSED .WRONG_STATE
  else if s.inService ∧ ¬ s.pos.standstill then .REFUSED .NOT_AT_STANDSTILL
  else if m = .CREEP ∧ dinLevel s 1 = .OPEN then .REFUSED .KEY_OPEN
  else .ACCEPTED

/-- The effect of an accepted SET_MODE (R96). -/
def setModeEffect (m : Mode) (s : State) : State := carry (modTrip fun t => { t with mode := m }) s

/-- The console flag that a byte names (R96). -/
def flagOfByte (b : Byte) : Option (Fin 4) := if h : b.toNat < 4 then some ⟨b.toNat, h⟩ else none

/-- The answer to SET_FLAG (R96). -/
def setFlagAnswer (b : Byte) : LineAnswer := if (flagOfByte b).isSome then .ACCEPTED else .REFUSED .OUT_OF_RANGE

/-- The effect of an accepted SET_FLAG (R96). -/
def setFlagEffect (b : Byte) (v : FlagValue) (s : State) : State :=
  match flagOfByte b with
  | some i => modTrip (fun t => { t with flags := vset t.flags i (v == .SET) }) s
  | none => s

/-- The cap of a SET_CAP, clamped (R50). -/
def clampedCap (s : State) (cap : Nat) : Nat := clampNat s.params.creepSpeed.toNat s.params.designMax.toNat cap

/-- Whether SET_CAP is deferred (R50). -/
def capDeferred (s : State) (cap : Nat) : Bool := decide (clampedCap s cap < s.trip.lineCap) && !s.pos.standstill

/-- The answer to SET_CAP (R50). -/
def setCapAnswer (cap : Nat) (s : State) : LineAnswer := if capDeferred s cap then .DEFERRED else .ACCEPTED

/-- The effect of SET_CAP (R50). -/
def setCapEffect (cap : Nat) (s : State) : State :=
  if capDeferred s cap then modTrip (fun t => { t with pendingCap := some (clampedCap s cap) }) s
  else carry (modTrip fun t => { t with lineCap := clampedCap s cap, pendingCap := none }) s

/-- The trip sequencer under a new group B (R24, R50). -/
def tripTakesGroupB (s : State) : State :=
  carry
    (modTrip fun t =>
      let cap := clampedCap s t.lineCap
      { t with
        lineCap := cap
        pendingCap := match t.pendingCap with
          | some p => if cap ≤ clampedCap s p then none else some (clampedCap s p)
          | none => none })
    s

/-! ## LINE_STATUS (R98, R191) -/

/-- The code of a trip state (chapter 12.3). -/
def tripCode : TripState → Nat
  | .IDLE => 0
  | .PARKED => 1
  | .READY => 2
  | .DEPARTING => 3
  | .RUNNING => 4
  | .AT_STOP => 5
  | .STOPPING => 6
  | .HELD => 7
  | .TRIPPED => 8

/-- The code of a direction. -/
def dirCode : Dir → Nat
  | .UP => 0
  | .DOWN => 1

/-- The code of a hold request. -/
def holdCode : HoldRequest → Nat
  | .NONE => 0
  | .SOFT => 1
  | .HARD => 2

/-- The code of a mode. -/
def modeCode : Mode → Nat
  | .NORMAL => 0
  | .CREEP => 1

/-- Bit `i` of a byte, set when `b` holds. -/
def flagBit (i : Nat) (b : Bool) : Nat := if b then 2 ^ i else 0

/-- The halt of car `k`'s pair of the head stop, 0xF where none. -/
def headNibble (s : State) (k : CarId) : Nat :=
  match s.trip.plan with
  | [] => 15
  | st :: _ =>
    match (stopPairs st).find? fun p => p.car == k with
    | some p => p.halt.val
    | none => 15

/-- The door summary of a car: 0 LOCKED, 1 NOT_LOCKED, 2 UNKNOWN, 3 FAULT (R98). -/
def doorSummary (d : CarDoors) : Nat :=
  let l := doorStates d
  if l.contains .FAULT then 3 else if l.contains .UNKNOWN then 2 else if l.all fun x => x == .LOCKED then 0 else 1

/-- The boarding summary of a halt (R98). -/
def boardingSummary (s : State) (h : Halt) : Nat :=
  match s.gates.windows.get h with
  | none => 0xFFFF
  | some w => flagBit 15 w.isOpen + windowBudget w % 1024

/-- A berth byte: the halt, or all ones. -/
def berthByte (b : Option Halt) : List Byte := optBytes 1 (b.map fun h => h.val)

/-- The payload of LINE_STATUS (R98, R191). -/
def statusBytes (s : State) : List Byte :=
  natBytes 1 (tripCode s.trip.state) ++
  natBytes 1 (flagBit 0 s.inService + flagBit 1 (s.trip.mode == .CREEP) + flagBit 2 (s.trip.dir == .DOWN) +
    flagBit 3 (s.car .car1).referenced + flagBit 4 (s.car .car2).referenced + 32 * holdCode s.trip.hold) ++
  natBytes 2 s.trip.number.toNat ++
  intBytesClamped 3 (reportedPos (s.car .car1)) ++
  intBytesClamped 3 (reportedPos (s.car .car2)) ++
  berthByte s.trip.berth.one ++ berthByte s.trip.berth.two ++
  natBytes 1 (headNibble s .car1 + 16 * headNibble s .car2) ++
  natBytes 1 s.trip.plan.length ++
  intBytes 2 s.pos.measured ++
  natBytes 2 (permittedCode s) ++
  natBytes 1 (stageRank s.brake.commanded + flagBit 4 s.brake.latchS.isSome + flagBit 5 s.brake.latchE.isSome +
    flagBit 6 s.brake.latchR.isSome) ++
  natBytes 1 (doorSummary s.doors.one + 16 * doorSummary s.doors.two) ++
  allHalts.flatMap fun h => natBytes 2 (boardingSummary s h)

/-- The status timer expires (R98). -/
def statusTimerExpires (s : State) : State :=
  if s.trip.statusTimer.isNone then s else
  sendNormal .CONSOLE (.lineStatus (statusBytes s)) (modTrip (fun t => { t with statusTimer := some 100 }) s)

end Sys2Proof.Machine
end

