-- ==== Sys2Proof/Machine/Records.lean ====
section
/-!
DEFINITION. The management records (R174, R192, R193): the byte layouts of banks 0 to 3, written and read; the live records
of banks 4 and 5; segments; and the byte string of the configuration store with its check value (R194).
-/

namespace Sys2Proof.Machine

/-! ## Writing and reading fields -/

/-- A field of a record as its bytes, most significant first (R190). -/
def bvBytes {w : Nat} (n : Nat) (x : BitVec w) : List Byte := natBytes n x.toNat

/-- The field of width `w` in the `n` bytes at place `i`. -/
def bvAt (w : Nat) (bs : List Byte) (i n : Nat) : BitVec w := BitVec.ofNat w (numAt bs i n)

/-! ## Banks 0 to 3 (R192) -/

/-- A halt entry as bytes. -/
def HaltEntry.bytes (e : HaltEntry) : List Byte :=
  [e.present] ++ bvBytes 3 e.stoppingPoint ++ bvBytes 2 e.window ++ [e.doorSide, e.mask, e.terminus]

/-- A halt entry from bytes. -/
def HaltEntry.ofBytes (b : List Byte) : HaltEntry :=
  ⟨byteAt b 0, bvAt 24 b 1 3, bvAt 16 b 4 2, byteAt b 6, byteAt b 7, byteAt b 8⟩

/-- A marker entry as bytes. -/
def MarkerEntry.bytes (e : MarkerEntry) : List Byte := [e.present] ++ bvBytes 3 e.position

/-- A marker entry from bytes. -/
def MarkerEntry.ofBytes (b : List Byte) : MarkerEntry := ⟨byteAt b 0, bvAt 24 b 1 3⟩

/-- An envelope entry as bytes. -/
def EnvelopeEntry.bytes (e : EnvelopeEntry) : List Byte := [e.present] ++ bvBytes 3 e.start ++ bvBytes 2 e.ceiling

/-- An envelope entry from bytes. -/
def EnvelopeEntry.ofBytes (b : List Byte) : EnvelopeEntry := ⟨byteAt b 0, bvAt 24 b 1 3, bvAt 16 b 4 2⟩

/-- The settings of a channel as bytes. -/
def ChannelSettings.bytes (e : ChannelSettings) : List Byte := bvBytes 2 e.scale ++ [e.inversion]

/-- The settings of a channel from bytes. -/
def ChannelSettings.ofBytes (b : List Byte) : ChannelSettings := ⟨bvAt 16 b 0 2, byteAt b 2⟩

/-- A node map entry as bytes. -/
def NodeEntry.bytes (e : NodeEntry) : List Byte := [e.present, e.address, e.mask, e.role, e.index, e.side, e.transit]

/-- A node map entry from bytes. -/
def NodeEntry.ofBytes (b : List Byte) : NodeEntry :=
  ⟨byteAt b 0, byteAt b 1, byteAt b 2, byteAt b 3, byteAt b 4, byteAt b 5, byteAt b 6⟩

/-- The supervision parameters as bytes. -/
def Params.bytes (p : Params) : List Byte :=
  bvBytes 2 p.serviceDecel ++ bvBytes 2 p.stopMargin ++ bvBytes 2 p.creepSpeed ++ bvBytes 2 p.designMax ++
  bvBytes 2 p.creepCap ++ bvBytes 2 p.overrunAllowance ++ bvBytes 2 p.accelMax ++ bvBytes 2 p.demandTimeout ++
  bvBytes 2 p.warningMargin ++ bvBytes 2 p.serviceMargin ++ bvBytes 2 p.emergencyMargin ++ bvBytes 2 p.emergencyDecel ++
  bvBytes 2 p.rollbackLimit ++ bvBytes 2 p.brakeWindow ++ bvBytes 2 p.callMargin ++ bvBytes 2 p.torqueProofTime ++
  bvBytes 2 p.readyTimeout ++ bvBytes 2 p.doorWindow ++ [p.doorCloseLimit, p.standstillSpeed] ++
  bvBytes 2 p.standstillTime ++ bvBytes 2 p.correctionLimit ++ bvBytes 2 p.pairTolerance ++ [p.sampleLossTime] ++
  bvBytes 2 p.carReportTimeout

/-- The supervision parameters from bytes. -/
def Params.ofBytes (b : List Byte) : Params where
  serviceDecel := bvAt 16 b 0 2
  stopMargin := bvAt 16 b 2 2
  creepSpeed := bvAt 16 b 4 2
  designMax := bvAt 16 b 6 2
  creepCap := bvAt 16 b 8 2
  overrunAllowance := bvAt 16 b 10 2
  accelMax := bvAt 16 b 12 2
  demandTimeout := bvAt 16 b 14 2
  warningMargin := bvAt 16 b 16 2
  serviceMargin := bvAt 16 b 18 2
  emergencyMargin := bvAt 16 b 20 2
  emergencyDecel := bvAt 16 b 22 2
  rollbackLimit := bvAt 16 b 24 2
  brakeWindow := bvAt 16 b 26 2
  callMargin := bvAt 16 b 28 2
  torqueProofTime := bvAt 16 b 30 2
  readyTimeout := bvAt 16 b 32 2
  doorWindow := bvAt 16 b 34 2
  doorCloseLimit := byteAt b 36
  standstillSpeed := byteAt b 37
  standstillTime := bvAt 16 b 38 2
  correctionLimit := bvAt 16 b 40 2
  pairTolerance := bvAt 16 b 42 2
  sampleLossTime := byteAt b 44
  carReportTimeout := bvAt 16 b 45 2

/-- A slot as bytes. -/
def SlotEntry.bytes (e : SlotEntry) : List Byte := [e.enabled, e.condition, e.polarity, e.source]

/-- A slot from the four bytes at place `i`. -/
def SlotEntry.at (b : List Byte) (i : Nat) : SlotEntry := ⟨byteAt b i, byteAt b (i + 1), byteAt b (i + 2), byteAt b (i + 3)⟩

/-- A sequencer program as its 125 bytes (R192). -/
def Program.bytes (p : Program) : List Byte :=
  [p.stateCount, p.initial] ++ p.outputs.toList ++ p.timers.toList.flatMap (fun t => bvBytes 2 t) ++
    p.slots.toList.flatMap SlotEntry.bytes ++ [p.reset.enabled, p.reset.condition, p.reset.polarity]

/-- A sequencer program from its bytes. -/
def Program.ofBytes (b : List Byte) : Program where
  stateCount := byteAt b 0
  initial := byteAt b 1
  outputs := Vector.ofFn fun i : Fin 8 => byteAt b (2 + i.val)
  timers := Vector.ofFn fun i : Fin 8 => bvAt 16 b (10 + 2 * i.val) 2
  slots := Vector.ofFn fun i : Fin 24 => SlotEntry.at b (26 + 4 * i.val)
  reset := ⟨byteAt b 122, byteAt b 123, byteAt b 124⟩

/-- A pulse entry as bytes. -/
def PulseEntry.bytes (e : PulseEntry) : List Byte :=
  [e.enabled, e.output, e.refKind, e.refArg] ++ bvBytes 2 e.start ++ bvBytes 2 e.stop

/-- A pulse entry from bytes. -/
def PulseEntry.ofBytes (b : List Byte) : PulseEntry :=
  ⟨byteAt b 0, byteAt b 1, byteAt b 2, byteAt b 3, bvAt 16 b 4 2, bvAt 16 b 6 2⟩

/-- A gate entry as bytes. -/
def GateEntry.bytes (e : GateEntry) : List Byte := [e.present, e.halt, e.role, e.cycleLimit]

/-- A gate entry from bytes. -/
def GateEntry.ofBytes (b : List Byte) : GateEntry := ⟨byteAt b 0, byteAt b 1, byteAt b 2, byteAt b 3⟩

/-- The fare settings as bytes. -/
def FareSettings.bytes (e : FareSettings) : List Byte :=
  [e.personMass] ++ bvBytes 2 e.passback ++ bvBytes 8 e.bankMask ++ [e.disabled0, e.disabled1]

/-- The fare settings from bytes. -/
def FareSettings.ofBytes (b : List Byte) : FareSettings :=
  ⟨byteAt b 0, bvAt 16 b 1 2, bvAt 64 b 3 8, byteAt b 11, byteAt b 12⟩

/-- The index `i` of a table of `n` entries, if it exists. -/
def indexOf (n i : Nat) : Option (Fin n) := if h : i < n then some ⟨i, h⟩ else none

/-- The bytes of a record of banks 0 to 3, if its bank, item and index exist (R174, R192). -/
def tableBytes (t : Tables) (bank item index : Nat) : Option (List Byte) :=
  match bank, item with
  | 0, 0 => (indexOf 6 index).map fun i => (t.b.halts.get i).bytes
  | 0, 1 => (indexOf 32 index).map fun i => (t.b.markers.get i).bytes
  | 0, 2 => (indexOf 32 index).map fun i => (t.b.envelope.get i).bytes
  | 0, 3 => (indexOf 1 index).map fun _ => bvBytes 3 t.b.pairSum
  | 0, 4 => (indexOf 2 index).map fun i => (t.b.channels.get i).bytes
  | 0, 5 => (indexOf 48 index).map fun i => (t.b.nodes.get i).bytes
  | 1, 0 => (indexOf 1 index).map fun _ => t.b.params.bytes
  | 1, 1 => (indexOf 8 index).map fun i => [t.b.filterTimes.get i]
  | 2, 0 => (indexOf 6 index).map fun i => (t.a.programs.get i).bytes
  | 2, 1 => (indexOf 16 index).map fun i => (t.a.pulses.get i).bytes
  | 2, 2 => (indexOf 8 index).map fun i => [t.a.polarity.get i]
  | 2, 3 => (indexOf 1 index).map fun _ => bvBytes 3 t.a.notify
  | 3, 0 => (indexOf 16 index).map fun i => (t.a.gates.get i).bytes
  | 3, 1 => (indexOf 2 index).map fun i => [t.a.capacity.get i]
  | 3, 2 => (indexOf 16 index).map fun i => [t.a.classPolicy.get i]
  | 3, 3 => (indexOf 1 index).map fun _ => t.a.fare.bytes
  | _, _ => none

/-- Whether a bank belongs to group A (R174). -/
def bankInGroupA (bank : Nat) : Bool := decide (2 ≤ bank)

/-- Replace a table of group B. -/
def setB (t : Tables) (f : GroupB → GroupB) : Tables := { t with b := f t.b }

/-- Replace a table of group A. -/
def setA (t : Tables) (f : GroupA → GroupA) : Tables := { t with a := f t.a }

/-- Replace an entry of a table when the index exists. -/
def setAt {α : Type} {n : Nat} (v : Vector α n) (index : Nat) (x : α) : Vector α n :=
  match indexOf n index with
  | some i => vset v i x
  | none => v

/-- The tables with a record of banks 0 to 3 replaced by given bytes (R176). -/
def tableWrite (t : Tables) (bank item index : Nat) (b : List Byte) : Tables :=
  match bank, item with
  | 0, 0 => setB t fun g => { g with halts := setAt g.halts index (HaltEntry.ofBytes b) }
  | 0, 1 => setB t fun g => { g with markers := setAt g.markers index (MarkerEntry.ofBytes b) }
  | 0, 2 => setB t fun g => { g with envelope := setAt g.envelope index (EnvelopeEntry.ofBytes b) }
  | 0, 3 => setB t fun g => { g with pairSum := bvAt 24 b 0 3 }
  | 0, 4 => setB t fun g => { g with channels := setAt g.channels index (ChannelSettings.ofBytes b) }
  | 0, 5 => setB t fun g => { g with nodes := setAt g.nodes index (NodeEntry.ofBytes b) }
  | 1, 0 => setB t fun g => { g with params := Params.ofBytes b }
  | 1, 1 => setB t fun g => { g with filterTimes := setAt g.filterTimes index (byteAt b 0) }
  | 2, 0 => setA t fun g => { g with programs := setAt g.programs index (Program.ofBytes b) }
  | 2, 1 => setA t fun g => { g with pulses := setAt g.pulses index (PulseEntry.ofBytes b) }
  | 2, 2 => setA t fun g => { g with polarity := setAt g.polarity index (byteAt b 0) }
  | 2, 3 => setA t fun g => { g with notify := bvAt 24 b 0 3 }
  | 3, 0 => setA t fun g => { g with gates := setAt g.gates index (GateEntry.ofBytes b) }
  | 3, 1 => setA t fun g => { g with capacity := setAt g.capacity index (byteAt b 0) }
  | 3, 2 => setA t fun g => { g with classPolicy := setAt g.classPolicy index (byteAt b 0) }
  | 3, 3 => setA t fun g => { g with fare := FareSettings.ofBytes b }
  | _, _ => t

/-! ## Codes of live fields (R190, chapter 12.3) -/

/-- A stopped or running timer: one byte for the state (R193). -/
def runByte (t : Timer) : List Byte := boolByte t.isSome

/-- The time remaining of a timer in 4 bytes, all ones while it is stopped (R193). -/
def remainBytes (t : Timer) : List Byte := optBytes 4 t

/-- The code of a cause, in the order of R55. -/
def causeCode : Cause → Nat
  | .OVERSPEED_SERVICE => 0
  | .OVERSPEED_EMERGENCY => 1
  | .OVERSPEED_ABSOLUTE => 2
  | .OVERRUN => 3
  | .ROLLBACK => 4
  | .DOORS_NOT_LOCKED => 5
  | .SAMPLE_LOSS => 6
  | .POSITION => 7
  | .ESTOP => 8
  | .START => 9
  | .CHANNEL_DISCREPANCY => 10
  | .CAR_LINK_LOST => 11
  | .SLIP => 12
  | .DECEL_NOT_ACHIEVED => 13
  | .BRAKE_NO_ANSWER => 14

/-- The code of a door state, in the order of R101. -/
def doorCode : DoorState → Nat
  | .LOCKED => 0
  | .RELEASED => 1
  | .OPEN => 2
  | .CLOSING => 3
  | .FAULT => 4
  | .UNKNOWN => 5

/-- The code of a source, in the order of R74. -/
def sourceCode : Source → Nat
  | .CONSOLE => 0
  | .CAR => 1
  | .PLATFORM => 2
  | .TERMINI => 3

/-- The code of a car: 1 or 2 (R190). -/
def carCode : CarId → Nat
  | .car1 => 1
  | .car2 => 2

/-- The code of a rail brake state. -/
def railCode : RailState → Nat
  | .READY => 0
  | .APPLIED => 1
  | .NOT_READY => 2

/-- The code of a marker kind. -/
def markerKindCode : MarkerKind → Nat
  | .PASSED => 0
  | .STANDING => 1

/-- The code of a target. -/
def targetCode : Target → Nat
  | .HEAD_STOP => 0
  | .VIRTUAL_STOP => 1

/-- The code of a limiting term. -/
def limitCode : LimitTerm → Nat
  | .STATE => 0
  | .ENVELOPE_1 => 1
  | .ENVELOPE_2 => 2
  | .CURVE => 3
  | .LINE_CAP => 4
  | .MODE_CAP => 5

/-- The code of an origin. -/
def originCode : Origin → Nat
  | .PARKED => 0
  | .AT_STOP => 1
  | .HELD => 2

/-- The code of a gate refusal reason, 1 to 8 (chapter 12.3). -/
def gateReasonCode (r : GateReason) : Nat := (reasonIndex r).val + 1

/-- The code of a decided-by value. -/
def decidedCode : DecidedBy → Nat
  | .LOCAL => 0
  | .SERVER => 1
  | .OFFLINE => 2

/-- The verdict and reason bytes of a decided or undecided entry. That the reason is the gate refusal reason, and the fare server's own
code is not shown, is the model's choice (notes/assumptions/75). -/
def verdictBytes : Option Verdict → List Byte
  | none => absentBytes 2
  | some .ADMIT => [0#8, 0#8]
  | some (.REFUSE r _) => [1#8, BitVec.ofNat 8 (gateReasonCode r)]

/-- The code of a validation state; a FREE entry is read as a place that holds none. -/
def entryCode : EntryState → Nat
  | .ASKING => 1
  | .MERGED => 2
  | .WAIT_GATE => 3
  | .WAIT_PASS => 4

/-- The code of a link state. -/
def linkCode : LinkState → Nat
  | .DOWN => 0
  | .SYNCING => 1
  | .UP => 2

/-- The code of a pulse state. -/
def pulseCode : PulseState → Nat
  | .IDLE => 0
  | .WAITING => 1
  | .ACTIVE => 2

/-- The code of a level. -/
def levelCode : Level → Nat
  | .OPEN => 0
  | .CLOSED => 1

/-- A console flag: SET 0, CLEAR 1, in the order of R74 (R190). -/
def flagByte (b : Bool) : List Byte := [if b then 0#8 else 1#8]

/-- Car `k` by index. -/
def carOfIndex : Fin 2 → CarId
  | 0 => .car1
  | 1 => .car2

/-- Port by index. -/
def portOfIndex : Fin 2 → PortId
  | 0 => .C
  | 1 => .F

/-! ## Bank 4 (R193)

The bytes of a field that has parts of its own, and of one that is a name with a value, are the model's choices
(notes/assumptions/70). -/

/-- A car record. -/
def carBytes (s : State) (k : CarId) : List Byte :=
  let c := s.car k
  bvBytes 6 c.accumulator ++ boolByte c.referenced ++ optIntBytes 2 c.speed ++ natBytes 4 c.speedAge ++ optBytes 2 c.load ++
    optBytes 1 (c.lastMarker.map Prod.fst) ++ optBytes 1 (c.lastMarker.map fun m => markerKindCode m.2) ++
    optBytes 1 (c.rail.map railCode) ++ berthByte (s.berth k) ++ boolByte (!c.linkUp)

/-- The speed record. -/
def speedBytes (s : State) : List Byte :=
  let r := s.speed
  natBytes 2 r.vPerm ++ natBytes 2 (codeOf r.vPerm) ++ optBytes 2 r.envelope1 ++ optBytes 2 r.envelope2 ++
    optBytes 1 (r.target.map targetCode) ++ optIntBytes 4 r.targetDistance ++ optBytes 3 r.rawCurve ++ optBytes 3 r.curve ++
    natBytes 4 r.lineCap ++ optBytes 4 r.modeCap ++ natBytes 1 (limitCode r.limiting) ++ boolByte r.overrunRaised

/-- The filter record of the demand filter. -/
def filterBytes (s : State) : List Byte :=
  let r := s.filter
  optBytes 2 r.lastForwarded ++ boolByte r.substitution ++ runByte r.timer ++ remainBytes r.timer ++ natBytes 2 r.clamps ++
    natBytes 2 r.rewrites ++ natBytes 2 r.ignored

/-- The supervisor record. -/
def supervisorBytes (s : State) : List Byte :=
  let b := s.brake
  natBytes 1 (stageRank b.commanded) ++ boolByte (!b.wantsRelease) ++
    natBytes 2 ((b.active.map fun c => 2 ^ causeCode c).sum) ++ optBytes 1 (b.latchS.map causeCode) ++
    optBytes 1 (b.latchE.map causeCode) ++ optBytes 1 (b.latchR.map causeCode) ++ [b.counter] ++
    (match b.outstanding with
     | some o => [o.number] ++ natBytes 1 (stageRank o.stage) ++ runByte o.window
     | none => absentBytes 3) ++
    optBytes 1 (b.applied.map stageRank) ++
    (match b.rollback with
     | some base => [1#8] ++ bvBytes 6 base
     | none => [0#8] ++ absentBytes 6) ++
    (match b.decel with
     | some d => [1#8] ++ natBytes 4 d.v0 ++ natBytes 4 d.remaining
     | none => [0#8] ++ absentBytes 8) ++
    boolByte b.warning ++ natBytes 2 b.stale

/-- The trip record (R74). That its stop plan field is one byte, the number of stops, is the model's choice (notes/assumptions/51). -/
def tripBytes (s : State) : List Byte :=
  let t := s.trip
  boolByte s.inService ++ natBytes 1 (modeCode t.mode) ++ natBytes 1 (tripCode t.state) ++ natBytes 1 (dirCode t.dir) ++
    bvBytes 2 t.number ++ natBytes 1 t.plan.length ++ natBytes 1 (holdCode t.hold) ++
    (match t.virtualStop with
     | some v => bvBytes 6 v
     | none => absentBytes 6) ++
    optBytes 1 (t.origin.map originCode) ++ runByte t.readyTimer ++ runByte t.torqueTimer ++ natBytes 4 t.lineCap ++
    optBytes 4 t.pendingCap ++ (t.flags.toList.flatMap flagByte) ++
    (match t.lastDrive with
     | some d => boolByte d.ready ++ boolByte d.torque
     | none => absentBytes 2)

/-- A pair of a stop. -/
def pairBytes (p : StopPair) : List Byte :=
  natBytes 1 (carCode p.car) ++ natBytes 1 p.halt.val ++ natBytes 1 (sourceCode p.source)

/-- A stop of the plan. -/
def stopBytes (st : Stop) : List Byte :=
  pairBytes st.first ++
    (match st.second with
     | some q => pairBytes q
     | none => absentBytes 3)

/-- The door records of a side. -/
def sideDoorBytes (d : SideDoors) : List Byte :=
  d.doors.toList.flatMap fun r => natBytes 1 (doorCode r.state) ++ remainBytes r.closeTimer

/-- A side record. -/
def sideBytes (d : SideDoors) : List Byte :=
  bvBytes 1 d.released ++
    (match d.outstanding with
     | some o => [o.token] ++ runByte o.window
     | none => absentBytes 2)

/-- A door order as it is sent (R191). -/
def orderBytes (k : CarId) (o : DoorOrder) : List Byte :=
  natBytes 1 (carCode k) ++ [o.token] ++ bvBytes 1 o.releaseLeft ++ bvBytes 1 o.withdrawLeft ++ bvBytes 1 o.releaseRight ++
    bvBytes 1 o.withdrawRight

/-- The door and side records of a car (R193). That the queued order stands there as its six payload bytes is the model's choice
(notes/assumptions/70). -/
def doorBytes (s : State) (k : CarId) : List Byte :=
  let d := s.doors.get k
  sideDoorBytes d.sides.left ++ sideDoorBytes d.sides.right ++ [d.token] ++ boolByte d.heard ++ boolByte d.linkFault ++
    (match d.queued with
     | some o => orderBytes k o
     | none => absentBytes 6) ++
    sideBytes d.sides.left ++ sideBytes d.sides.right

/-- A sequencer record, its timer in units of 100 ms, rounded up (notes/assumptions/30). That the time remaining takes 2 bytes is read
from the range of R120 (notes/assumptions/74). -/
def seqBytes (r : SeqRecord) : List Byte :=
  natBytes 1 r.state.val ++ [r.loaded, r.published] ++ runByte r.timer ++ optBytes 2 (r.timer.map fun t => (t + 99) / 100) ++
    boolByte r.timerDone ++ boolByte r.resetHeld ++ boolByte r.cyclingHold ++ natBytes 1 r.transitions

/-- The pulse item: the sixteen pulses and the output levels. -/
def pulseBytes (s : State) : List Byte :=
  (s.pulses.toList.flatMap fun r => natBytes 1 (pulseCode r.state) ++ optBytes 4 r.since) ++
    natBytes 1 (maskOf (all8.map fun o => (sigLevel s o).getD false))

/-- A boarding window record (R141). That each snapshot takes 2 bytes is read from the range of the car capacities
(notes/assumptions/73). -/
def windowBytes (w : Window) : List Byte :=
  boolByte w.isOpen ++ natBytes 1 (maskOf [w.cars.one, w.cars.two]) ++ natBytes 2 w.capacity ++ natBytes 2 w.base ++
    natBytes 2 w.admitted ++ natBytes 2 w.reserved

/-- A validation entry. -/
def entryBytes (v : VEntry) : List Byte :=
  natBytes 1 (entryCode v.state) ++ natBytes 1 v.gate.val ++ natBytes 1 v.halt.val ++ bvBytes 8 v.token ++ natBytes 1 v.cls ++
    [v.number] ++ optBytes 2 (v.query.map BitVec.toNat) ++ optBytes 1 (v.mergedTo.map fun i => i.val) ++
    verdictBytes v.verdict ++ optBytes 1 (v.decidedBy.map decidedCode) ++ remainBytes v.deadline

/-- A cache entry. -/
def cacheBytes (e : CacheEntry) : List Byte :=
  bvBytes 8 e.token ++ natBytes 1 e.cls ++ verdictBytes (some e.verdict) ++ optBytes 2 e.rides ++ optBytes 4 e.validUntil ++
    optBytes 4 e.lastAdmitted ++ boolByte e.provisional ++ boolByte e.stale

/-- A gate record (R139). That its mode ordered takes the codes of GATE_ORDER is read from R190 and R191 (notes/assumptions/76). -/
def gateBytes (r : GateRecord) : List Byte :=
  boolByte r.heard ++ boolByte r.fault ++ optBytes 1 (r.mode.map fun m => if m then 1 else 0)

/-- The fare server state. -/
def fareBytes (s : State) : List Byte :=
  boolByte s.gates.serverLost ++ natBytes 1 s.gates.timeouts ++ bvBytes 2 s.gates.queryCounter

/-- A link record with the counters of its port. -/
def linkBytes (p : Port) : List Byte :=
  let c := p.counters
  natBytes 1 (linkCode p.link) ++ remainBytes p.silence ++ natBytes 1 p.syncCount ++ remainBytes p.syncWindow ++
    [c.received, c.checkFailed, c.unknownSource, c.kindRefused, c.misaddressed, c.normalDrops, c.urgentReplacements].flatMap
      (natBytes 2)

/-- The filter record of a discrete input. -/
def dinBytes (r : DinRecord) : List Byte :=
  natBytes 1 (levelCode r.raw) ++
    natBytes 1 (match r.filtered with
      | some l => levelCode l
      | none => 2) ++
    remainBytes r.timer

/-- The counters item (R193). That the unverified passages of all halts stand before the exit passages of all is the model's choice
(notes/assumptions/69). -/
def counterBytes (s : State) : List Byte :=
  let ch (c : ChannelState) : List Nat := [c.duplicates, c.gaps, c.rejections]
  (ch s.pos.chan.a ++ ch s.pos.chan.b ++ s.gates.refusals.toList ++ s.gates.unverified.toList ++
    s.gates.exits.toList).flatMap (natBytes 2)

/-- The driving channel (R7): A 0, B 1, all ones for none. -/
def drivingBytes (s : State) : List Byte :=
  optBytes 1 ((drivingChannel s.pos).map fun ch =>
    match ch with
    | .A => 0
    | .B => 1)

/-- A notice record (R181). -/
def noticeBytes (r : NoticeRecord) : List Byte :=
  boolByte r.pending ++ natBytes 1 r.count ++ optBytes 4 r.first ++ optBytes 4 r.latest

/-- The bytes of an optional record, or of a place that holds none: `n` bytes of all ones (R193). -/
def placeBytes {α : Type} (n : Nat) (f : α → List Byte) : Option α → List Byte
  | some x => f x
  | none => absentBytes n

/-- Cache place `i`: bank `i / 64`, place `i % 64` counted from the most recently used entry (R193). -/
def cachePlace (g : GateUnit) (i : Nat) : Option CacheEntry := if i < 64 then g.bank0[i]? else g.bank1[i - 64]?

/-- The bytes of a record of bank 4, if its item and index exist (R193). Items 17 and 18 are the model's places for what R7 and R181
have shown in bank 4 and R193 does not number (notes/assumptions/31). -/
def liveBytes (s : State) (item index : Nat) : Option (List Byte) :=
  match item with
  | 0 => (indexOf 2 index).map fun i => carBytes s (carOfIndex i)
  | 1 => (indexOf 1 index).map fun _ => speedBytes s
  | 2 => (indexOf 1 index).map fun _ => filterBytes s
  | 3 => (indexOf 1 index).map fun _ => supervisorBytes s
  | 4 => (indexOf 1 index).map fun _ => tripBytes s
  | 5 => (indexOf 9 index).map fun i => placeBytes 6 stopBytes (s.trip.plan[i.val]?)
  | 6 => (indexOf 2 index).map fun i => doorBytes s (carOfIndex i)
  | 7 => (indexOf 6 index).map fun i => seqBytes (s.seqs.get i)
  | 8 => (indexOf 1 index).map fun _ => pulseBytes s
  | 9 => (indexOf 6 index).map fun i => placeBytes 10 windowBytes (s.gates.windows.get i)
  | 10 => (indexOf 16 index).map fun i => placeBytes 23 entryBytes (entryAt s.gates i)
  | 11 => (indexOf 128 index).map fun i => placeBytes 23 cacheBytes (cachePlace s.gates i.val)
  | 12 => (indexOf 16 index).map fun i => gateBytes (s.gates.records.get i)
  | 13 => (indexOf 1 index).map fun _ => fareBytes s
  | 14 => (indexOf 2 index).map fun i => linkBytes (s.ports.get (portOfIndex i))
  | 15 => (indexOf 8 index).map fun i => dinBytes (s.dins.get i)
  | 16 => (indexOf 1 index).map fun _ => counterBytes s
  | 17 => (indexOf 1 index).map fun _ => drivingBytes s
  | 18 => (indexOf 24 index).map fun i => noticeBytes (s.mgmt.notices.get i)
  | _ => none

/-! ## Bank 5 (R174, R192) -/

/-- The lock flags or defaults (R180). Three bytes, 1 for set, are the model's choice (notes/assumptions/56). -/
def lockBytes (l : Locks) : List Byte := boolByte l.read ++ boolByte l.write ++ boolByte l.writeAll

/-- The lock defaults from bytes (notes/assumptions/56). -/
def locksOfBytes (b : List Byte) : Locks := ⟨yes (byteAt b 0), yes (byteAt b 1), yes (byteAt b 2)⟩

/-- The bank, item and index of a record. -/
def refBytes (r : ItemRef) : List Byte := natBytes 1 r.bank ++ natBytes 1 r.item ++ natBytes 1 r.index

/-- The commit status of a group (R178). That it is one byte of status, one of result and three of the item, and that group A comes first
in the record, are the model's choices (notes/assumptions/57). -/
def commitBytes (c : CommitStatus) : List Byte :=
  boolByte c.pending ++
    (match c.last with
     | .none => [0#8] ++ absentBytes 3
     | .OK => [1#8] ++ absentBytes 3
     | .WRONG_STATE => [2#8] ++ absentBytes 3
     | .INVALID r => [3#8] ++ refBytes r)

/-- The store status. -/
def storeStatusBytes (m : Management) : List Byte :=
  (match m.loadedFrom with
   | .STORE => [0#8] ++ absentBytes 4
   | .CHECK_FAILED => [1#8, 0#8] ++ absentBytes 3
   | .INVALID r => [1#8, 1#8] ++ refBytes r) ++
  boolByte m.flight.isSome ++
  (match m.storeLast with
   | .none => [0#8]
   | .OK => [1#8]
   | .FAILED => [2#8])

/-- The bytes of a record of bank 5, if its item and index exist. -/
def bank5Bytes (m : Management) (item index : Nat) : Option (List Byte) :=
  match item with
  | 0 => (indexOf 1 index).map fun _ => lockBytes m.locks
  | 1 => (indexOf 1 index).map fun _ => lockBytes m.lockDefaults
  | 2 => (indexOf 1 index).map fun _ => commitBytes m.commitA ++ commitBytes m.commitB
  | 3 => (indexOf 1 index).map fun _ => storeStatusBytes m
  | 4 => (indexOf 1 index).map fun _ => [m.nodeAddress]
  | _ => none

/-! ## Segments (R192) -/

/-- How many segments of 24 bytes a record has. -/
def segmentCount (b : List Byte) : Nat := (b.length + 23) / 24

/-- The 24 bytes of segment `n`, 0 beyond the record's end. -/
def segmentBytes (b : List Byte) (n : Nat) : List Byte :=
  let d := (b.drop (24 * n)).take 24
  d ++ List.replicate (24 - d.length) 0#8

/-- A record with the bytes of segment `n` replaced; data beyond the record's end is ignored. -/
def withSegment (b : List Byte) (n : Nat) (data : List Byte) : List Byte :=
  b.take (24 * n) ++ data.take (min 24 (b.length - 24 * n)) ++ b.drop (24 * n + 24)

/-! ## The store (R194) -/

/-- The records of one item, index by index. -/
def itemString (t : Tables) (bank item count : Nat) : List Byte :=
  (List.range count).flatMap fun i => (tableBytes t bank item i).getD []

/-- The byte string of a store's contents before its check value (R194). -/
def storeString (c : StoreContents) : List Byte :=
  itemString c.tables 0 0 6 ++ itemString c.tables 0 1 32 ++ itemString c.tables 0 2 32 ++ itemString c.tables 0 3 1 ++
  itemString c.tables 0 4 2 ++ itemString c.tables 0 5 48 ++ itemString c.tables 1 0 1 ++ itemString c.tables 1 1 8 ++
  itemString c.tables 2 0 6 ++ itemString c.tables 2 1 16 ++ itemString c.tables 2 2 8 ++ itemString c.tables 2 3 1 ++
  itemString c.tables 3 0 16 ++ itemString c.tables 3 1 2 ++ itemString c.tables 3 2 16 ++ itemString c.tables 3 3 1 ++
  lockBytes c.lockDefaults ++ [c.ownAddress]

/-- The check value over a store's contents (R194). -/
def storeCheck (c : StoreContents) : BitVec 32 := crc32 (storeString c)

/-- Whether a store's check value agrees with its contents (R185). -/
def storeAgrees (x : ConfigStore) : Bool := x.check == storeCheck x.contents

end Sys2Proof.Machine
end

