-- ==== Sys2Proof/Machine/Frames.lean ====
section
/-!
DEFINITION. The frames that the part sends, byte for byte (R190, R191): the payload of every content, the header, and the frame
check. A frame's check is computed over the frame as it stands when it is sent, so a DEMAND that is changed in the queue (R44, R45),
a substitute (R48) and a console copy (R166) carry a new one; a transit frame's is the one it came with (R167,
`sentFrame_transit` in Laws/Frames.lean).
-/

namespace Sys2Proof.Machine

/-- The code of a REFUSED reason (chapter 12.3): code 5 names none. -/
def reasonCode : Reason → Nat
  | .WRONG_STATE => 1
  | .NOT_AT_STANDSTILL => 2
  | .CAUSE_ACTIVE => 3
  | .LATCH_SET => 4
  | .NOT_REFERENCED => 6
  | .CONFIG_INVALID => 7
  | .HALT_ABSENT => 8
  | .HALT_NOT_AHEAD => 9
  | .HOLD_ACTIVE => 10
  | .CALLS_CLOSED => 11
  | .PLAN_FULL => 12
  | .PLAN_EMPTY => 13
  | .NOT_FOUND => 14
  | .NOT_CONSOLE => 15
  | .KEY_OPEN => 16
  | .OUT_OF_RANGE => 17
  | .UNKNOWN_REQUEST => 18

/-- The answer and reason bytes of a LINE_ANSWER (chapter 12.3); the reason is 0 where there is none. -/
def lineAnswerBytes : LineAnswer → List Byte
  | .ACCEPTED => [0#8, 0#8]
  | .DEFERRED => [1#8, 0#8]
  | .TOO_LATE => [2#8, 0#8]
  | .REFUSED r => [3#8] ++ natBytes 1 (reasonCode r)

/-- The code of a MGMT_ANSWER (chapter 12.3). -/
def mgmtCodeOf : MgmtCode → Nat
  | .OK => 0
  | .NO_ITEM => 1
  | .WRONG_STATE => 2
  | .PENDING => 3
  | .BUSY => 4
  | .INVALID => 5

/-- The code of a notice: its priority, 1 to 24 (chapter 12.3). -/
def noticeCode (n : Notice) : Nat := (noticeIndex n).val + 1

/-- The server reason of a REFUSE: sent only with the reason SERVER (R191). -/
def serverReasonByte (reason : GateReason) (serverReason : Byte) : Byte := if reason = .SERVER then serverReason else 0#8

/-- The payload of a frame (R191): fields that an order or answer does not use are 0. -/
def contentBytes : Content → List Byte
  | .brakeOrder number stage => [number] ++ natBytes 1 (stageRank stage)
  | .demand p => bvBytes 2 p.code ++ [p.accel] ++ natBytes 1 (dirCode p.dir) ++ [p.flags]
  | .doorOrder car order => orderBytes car order
  | .gateSetMode opened => [0#8] ++ boolByte opened ++ [0#8, 0#8, 0#8]
  | .gateAdmitOne number => [1#8, 0#8, number, 0#8, 0#8]
  | .gateRefuse number reason serverReason =>
    [2#8, 0#8, number] ++ natBytes 1 (gateReasonCode reason) ++ [serverReasonByte reason serverReason]
  | .fareQuery query token cls halt gate =>
    bvBytes 2 query ++ bvBytes 8 token ++ natBytes 1 cls ++ natBytes 1 halt.val ++ natBytes 1 gate.val
  | .fareUse token cls halt gate localTime decidedBy =>
    bvBytes 8 token ++ natBytes 1 cls ++ natBytes 1 halt.val ++ natBytes 1 gate.val ++ natBytes 4 localTime ++
      natBytes 1 (decidedCode decidedBy)
  | .lineAnswer number kind answer => [number, kind] ++ lineAnswerBytes answer
  | .lineStatus bytes => bytes
  | .notice n localTime pendingCount => natBytes 1 (noticeCode n) ++ natBytes 4 localTime ++ natBytes 1 pendingCount
  | .mgmtAnswer tag kind code detail => [tag, kind] ++ natBytes 1 (mgmtCodeOf code) ++ detail
  | .driveState p => boolByte p.ready ++ boolByte p.torque
  | .brakeState p => [p.number] ++ natBytes 1 (stageRank p.stage)
  | .transit _ bytes => bytes

/-- A frame as it is sent: addresses, kind, length, payload, and the check over them (R190). -/
def sentFrame (f : OutFrame) : RawFrame :=
  let b := contentBytes f.content
  let open_ : RawFrame := ⟨f.dst, f.src, contentKind f.content, BitVec.ofNat 8 b.length, b, 0#16⟩
  { open_ with check := crc16 (rawCovered open_) }

/-- The bytes of a frame behind its lead-in, the check most significant byte first (R190). -/
def frameBytes (f : RawFrame) : List Byte := rawCovered f ++ bvBytes 2 f.check

/-- The bytes that a port sends while a frame is in transmission (R158, R190). -/
def lineBytes (p : Port) : List Byte :=
  match p.sending with
  | some f => frameBytes (sentFrame f)
  | none => []

end Sys2Proof.Machine
end

