-- ==== Sys2Proof/Machine/Settle.lean ====
section
/-!
DEFINITION. Carrying announcements through: what each block does with an announcement, what an event changed for the
platform sequencers and for a departure in READY (R124, R125, R86), and the loop that empties the agenda in order.
-/

namespace Sys2Proof.Machine

/-- The trip sequencer is told of the changed outputs of sequencer `q` (R130, R85, R86). -/
def tellTrip (q : Halt) (ch : Byte) (s : State) : State :=
  let s1 := if ch.getLsbD bitEntryOpen then testReady s else s
  if ch.getLsbD bitDepartRequest && !(carsAt s1 q).isEmpty then testAuto s1 else s1

/-- Carry out one announcement in the block it is made to. -/
def handleAnn (a : Ann) (s : State) : State :=
  match a with
  | .recompute driving => recompute driving s
  | .compare driving v => brakeCompare driving v s
  | .demandCode driving v => demandTakesCode driving v s
  | .brakeTrip entered => brakeTripEntered entered s
  | .demandTrip entered => demandTakesTrip entered s
  | .demandLatchS => lowerForLatchS s
  | .brakeDoors => brakeDoorsChanged s
  | .doorEval k => doorEvaluation k s
  | .gateTrip lost gained left => gateTakesTrip lost gained left s
  | .tripStage old new => takeStage old new s
  | .tripReady => testReady s
  | .tripAuto => testAuto s
  | .tripArrival => testArrival s
  | .tripStandstill => takeStandstill s
  | .tripReleaseLost => abandonDeparting s
  | .tripReleased => takeReleased s
  | .tripDemandLost => takeDemandLost s
  | .outside changed due => answerOutside tellTrip changed due s

/-- Announce what an event that led from `a` to `b` changed for a departure in READY (R86) and for the platform
sequencers (R124). -/
def announceChanges (a b : State) : State :=
  announceConditions a (announceIf ((b.trip.state == .READY) && departureReady b) .tripReady b)

/-- Carry an event out and announce what it changed. -/
def react (f : State → State) (s : State) : State := announceChanges s (f s)

/-- Take announcements from the front of the agenda, at most `n` of them, until none is left. -/
def settleGo : Nat → State → State
  | 0, s => s
  | n + 1, s =>
    match s.agenda with
    | [] => s
    | a :: rest => settleGo n (react (handleAnn a) { s with agenda := rest })

/-- Carry all announcements through (notes/assumptions/2). -/
def settle (s : State) : State := settleGo Config.settleBound s

end Sys2Proof.Machine
end

