-- ==== Sys2Proof/Machine/Validate.lean ====
section
/-!
DEFINITION. Commit validation (R177): the checks of each group in the order of the chapters (R3, R24, R51, R72, R99, R118, R162;
R121, R133, R138), each with the record that an INVALID answer names (notes/assumptions/12 for the failures that
several records share).
-/

namespace Sys2Proof.Machine

/-- A check: whether it holds, and the record named when it does not. -/
abbrev Check := Bool × ItemRef

/-- The record of the first check that fails. -/
def firstFailure (cs : List Check) : Option ItemRef := (cs.find? fun c => !c.1).map Prod.snd

/-- Whether a number lies in a range, both bounds included. -/
def within (lo hi n : Nat) : Bool := decide (lo ≤ n) && decide (n ≤ hi)

/-! ## Group B -/

/-- A halt entry as a record. -/
def haltRef (h : Halt) : ItemRef := ⟨0, 0, h.val⟩

/-- Two present halts stand more than the sum of their windows apart (R3). -/
def haltsApart (t : GroupB) (h k : Halt) : Bool :=
  !haltPresent t h || !haltPresent t k ||
    decide (platformWindow t h + platformWindow t k < ((stopPoint t h - stopPoint t k).natAbs : Int))

/-- The pairs of different halts, the lower index first. -/
def haltPairs : List (Halt × Halt) := allHalts.flatMap fun h => (allHalts.filter fun k => h < k).map fun k => (h, k)

/-- The last check of R3 on one present halt. -/
def haltFields (t : GroupB) (h : Halt) : Bool :=
  let e := t.halts.get h
  !haltPresent t h ||
    (within 50 1000 e.window.toNat && (haltMask t h != 0#4) && decide (e.stoppingPoint.toNat ≤ 8000000) &&
      (yes e.terminus == decide (h.val < 2)))

/-- The geometry checks (R3). -/
def geometryChecks (t : GroupB) : List Check :=
  [(haltPresent t 0, haltRef 0), (haltPresent t 1, haltRef 1), (decide (stopPoint t 0 < stopPoint t 1), haltRef 0)] ++
  ([(2 : Halt), 3, 4, 5].map fun h =>
    (!haltPresent t h || (decide (stopPoint t 0 < stopPoint t h) && decide (stopPoint t h < stopPoint t 1)), haltRef h)) ++
  (haltPairs.map fun p => (haltsApart t p.1 p.2, haltRef p.1)) ++
  (allHalts.map fun h => (haltFields t h, haltRef h)) ++
  [(within 1 16000000 t.pairSum.toNat &&
      decide ((((t.pairSum.toNat : Int) - (stopPoint t 0 + stopPoint t 1)).natAbs : Int) ≤
        min (platformWindow t 0) (platformWindow t 1)), ⟨0, 3, 0⟩),
    (t.markers.toList.any fun m => yes m.present, ⟨0, 1, 0⟩)] ++
  ((List.finRange 32).map fun i =>
    (!yes (t.markers.get i).present || decide ((t.markers.get i).position.toNat ≤ 8000000), ⟨0, 1, i.val⟩)) ++
  ((List.finRange 2).map fun i => (decide (1 ≤ (t.channels.get i).scale.toNat), ⟨0, 4, i.val⟩))

/-- Whether envelope entry `i` is present. -/
def segmentPresent (t : GroupB) (i : Nat) : Bool :=
  match t.envelope.toList[i]? with
  | some e => yes e.present
  | none => false

/-- The start of envelope entry `i`. -/
def segmentStart (t : GroupB) (i : Nat) : Nat :=
  match t.envelope.toList[i]? with
  | some e => e.start.toNat
  | none => 0

/-- The supervision parameters record. -/
def paramsRef : ItemRef := ⟨1, 0, 0⟩

/-- A range check on a parameter. -/
def paramCheck (lo hi n : Nat) : Check := (within lo hi n, paramsRef)

/-- The envelope and speed parameter checks (R24). -/
def envelopeChecks (t : GroupB) : List Check :=
  [(segmentPresent t 0 && decide (segmentStart t 0 = 0), ⟨0, 2, 0⟩)] ++
  ((List.range 31).map fun i => (!segmentPresent t (i + 1) || segmentPresent t i, ⟨0, 2, i + 1⟩)) ++
  ((List.range 31).map fun i =>
    (!segmentPresent t (i + 1) || decide (segmentStart t i < segmentStart t (i + 1)), ⟨0, 2, i + 1⟩)) ++
  ((List.finRange 32).map fun i =>
    (!yes (t.envelope.get i).present || decide ((t.envelope.get i).ceiling.toNat ≤ 20465), ⟨0, 2, i.val⟩)) ++
  [paramCheck 100 2000 t.params.serviceDecel.toNat, paramCheck 0 2000 t.params.stopMargin.toNat,
    paramCheck 50 1000 t.params.creepSpeed.toNat, paramCheck 1000 20000 t.params.designMax.toNat,
    paramCheck 50 1000 t.params.creepCap.toNat, paramCheck 0 2000 t.params.overrunAllowance.toNat]

/-- The drive, brake, trip and door parameter checks (R51, R72, R99, R118). -/
def parameterChecks (p : Params) : List Check :=
  [paramCheck 100 2000 p.accelMax.toNat, paramCheck 20 1000 p.demandTimeout.toNat,
    paramCheck 50 3000 p.warningMargin.toNat, paramCheck 50 3000 p.serviceMargin.toNat,
    paramCheck 50 3000 p.emergencyMargin.toNat,
    (decide (p.warningMargin.toNat < p.serviceMargin.toNat) && decide (p.serviceMargin.toNat < p.emergencyMargin.toNat),
      paramsRef),
    paramCheck 500 3000 p.emergencyDecel.toNat, paramCheck 10 1000 p.rollbackLimit.toNat,
    paramCheck 20 1000 p.brakeWindow.toNat,
    paramCheck 0 3000 p.callMargin.toNat, paramCheck 500 10000 p.torqueProofTime.toNat, paramCheck 10 600 p.readyTimeout.toNat,
    paramCheck 100 2000 p.doorWindow.toNat, paramCheck 2 60 p.doorCloseLimit.toNat]

/-- Whether a role may lie on a side (R162). -/
def roleSideOk (r : Role) (q : PortId) : Bool :=
  match r with
  | .CONSOLE => q == .C
  | .MAINT => q == .C
  | .FARE_SERVER => q == .C
  | .TRANSIT => true
  | _ => q == .F

/-- A node map entry as a record. -/
def nodeRef (i : Fin 48) : ItemRef := ⟨0, 5, i.val⟩

/-- Whether a present GATE entry has an index of its own (R162). -/
def gateIndexOk (t : GroupB) (i : Fin 48) : Bool :=
  let e := t.nodes.get i
  !yes e.present || (nodeRole e != .GATE) ||
    (decide (e.index.toNat ≤ 15) &&
      (List.finRange 48).all fun j =>
        decide (i = j) || !yes (t.nodes.get j).present || (nodeRole (t.nodes.get j) != .GATE) ||
          ((t.nodes.get j).index != e.index))

/-- The node map, own address and input filter checks (R162). -/
def nodeChecks (t : GroupB) (own : Byte) : List Check :=
  ((List.finRange 48).map fun i =>
    (!yes (t.nodes.get i).present || roleSideOk (nodeRole (t.nodes.get i)) (nodeSide (t.nodes.get i)), nodeRef i)) ++
  ((List.finRange 48).map fun i =>
    (!yes (t.nodes.get i).present || (nodeRole (t.nodes.get i) == .TRANSIT) || ((t.nodes.get i).mask == 0xFF#8), nodeRef i)) ++
  ((List.finRange 48).map fun i => (gateIndexOk t i, nodeRef i)) ++
  ([Role.CONSOLE, .FARE_SERVER, .DRIVE, .BRAKE, .SHEAVE_A, .SHEAVE_B, .CAR_1, .CAR_2].map fun r =>
    ((firstRole t r).isSome, nodeRef 0)) ++
  ((List.finRange 48).map fun i =>
    (!(nodeMatches own .C (t.nodes.get i) || nodeMatches own .F (t.nodes.get i)), nodeRef i)) ++
  ((List.finRange 8).map fun i => (decide ((t.filterTimes.get i).toNat ≤ 15), ⟨1, 1, i.val⟩))

/-- The parameter checks that R177 lists last. -/
def lastChecks (p : Params) : List Check :=
  [paramCheck 10 200 p.standstillSpeed.toNat, paramCheck 100 2000 p.standstillTime.toNat,
    paramCheck 50 2000 p.correctionLimit.toNat, paramCheck 100 5000 p.pairTolerance.toNat,
    paramCheck 20 200 p.sampleLossTime.toNat, paramCheck 200 5000 p.carReportTimeout.toNat]

/-- Whether a gate entry names a halt that is present in a halt table (R138, R177). -/
def gateHaltOk (t : GroupB) (e : GateEntry) : Bool :=
  match haltOfByte e.halt with
  | some h => haltPresent t h
  | none => false

/-- The cross-check of group B with group A (R177). -/
def crossChecks (t : GroupB) (a : GroupA) : List Check :=
  all16.map fun g => (!gatePresent a g || gateHaltOk t (a.gates.get g), ⟨3, 0, g.val⟩)

/-- The first failure of a group B against a group A (R177). -/
def invalidB (t : GroupB) (a : GroupA) (own : Byte) : Option ItemRef :=
  firstFailure
    (geometryChecks t ++ envelopeChecks t ++ parameterChecks t.params ++ nodeChecks t own ++ lastChecks t.params ++
      crossChecks t a)

/-! ## Group A -/

/-- Whether a set of states names defined states only, and at least one (R121). -/
def sourceOk (count : Nat) (m : Byte) : Bool := (m != 0#8) && decide (m.toNat < 2 ^ count)

/-- Whether a program is valid (R121). -/
def programOk (p : Program) : Bool :=
  let n := p.stateCount.toNat
  within 2 8 n && decide (p.initial.toNat < n) &&
    ((List.finRange 8).all fun i =>
      decide (n ≤ i.val) || ((p.timers.get i) == 0xFFFF#16) || within 1 36000 (p.timers.get i).toNat) &&
    ((List.finRange 24).all fun i =>
      let sl := p.slots.get i
      !yes sl.enabled ||
        (decide (i.val / 3 < n) && sourceOk n sl.source && decide (sl.condition.toNat ≤ 31))) &&
    (!yes p.reset.enabled || decide (p.reset.condition.toNat ≤ 31))

/-- Whether an entry of the pulse table is valid (R133). -/
def pulseOk (e : PulseEntry) : Bool :=
  !yes e.enabled ||
    (decide (e.start.toNat < e.stop.toNat) &&
      (match codeAt 7 e.refKind with
       | 2 => (pulseArgHalt e).isSome
       | 3 => (pulseArgHalt e).isSome
       | 6 => (pulseArgHalt e).isSome
       | 7 => (pulseArgHalt e).isSome
       | _ => true))

/-- Whether a present gate entry is valid (R138). -/
def gateOk (t : GroupB) (e : GateEntry) : Bool :=
  !yes e.present || (gateHaltOk t e && decide (e.role.toNat ≤ 1) && within 1 30 e.cycleLimit.toNat)

/-- The fare settings record. -/
def fareRef : ItemRef := ⟨3, 3, 0⟩

/-- The bank 3 checks (R138). -/
def bank3Checks (a : GroupA) (t : GroupB) : List Check :=
  (all16.map fun g => (gateOk t (a.gates.get g), ⟨3, 0, g.val⟩)) ++
  ((List.finRange 2).map fun i => (within 1 250 (a.capacity.get i).toNat, ⟨3, 1, i.val⟩)) ++
  [(within 40 150 a.fare.personMass.toNat, fareRef)] ++
  (all16.map fun c => (decide ((a.classPolicy.get c).toNat ≤ 1), ⟨3, 2, c.val⟩)) ++
  [(decide (a.fare.passback.toNat ≤ 3600), fareRef),
    (decide (a.fare.disabled0.toNat ≤ 32) && decide (a.fare.disabled1.toNat ≤ 32), fareRef)]

/-- The first failure of a group A against a group B (R177). -/
def invalidA (a : GroupA) (t : GroupB) : Option ItemRef :=
  firstFailure
    ((allHalts.map fun q => (programOk (a.programs.get q), ⟨2, 0, q.val⟩)) ++
      (all16.map fun i => (pulseOk (a.pulses.get i), ⟨2, 1, i.val⟩)) ++
      bank3Checks a t)

/-- The configuration validity of a generation (R177): group B against its group A, then group A against its group B. -/
def invalidTables (t : Tables) (own : Byte) : Option ItemRef :=
  match invalidB t.b t.a own with
  | some r => some r
  | none => invalidA t.a t.b

end Sys2Proof.Machine
end

