-- ==== Sys2Proof/Machine/Manage.lean ====
section
/-!
DEFINITION. The management agent and the configuration store (chapters 10 and 11): reads, writes, operations, commits, the
store, start-up and reload.
-/

namespace Sys2Proof.Machine

/-- Change the management agent. -/
def modMgmt (f : Management → Management) (s : State) : State := { s with mgmt := f s.mgmt }

/-- The kind code of MGMT_READ. -/
def kindRead : Byte := 0x10
/-- The kind code of MGMT_WRITE. -/
def kindWrite : Byte := 0x11
/-- The kind code of MGMT_CONTROL. -/
def kindControl : Byte := 0x12

/-- The 29 bytes of a detail, the unused ones 0 (R192). -/
def detail (b : List Byte) : List Byte := b.take 29 ++ List.replicate (29 - b.length) 0#8

/-- Whether a record is for the maintenance terminal only: the lock defaults and the node address (R173). -/
def maintOnlyItem (bank item : Nat) : Bool := decide (bank = 5) && (decide (item = 1) || decide (item = 4))

/-! ## MGMT_READ and MGMT_WRITE (R173, R175, R176) -/

/-- The bytes that a read names, whatever the locks (R175). -/
def readBytes (s : State) (bank item index : Nat) (staged : Bool) : Option (List Byte) :=
  if bank ≤ 3 then tableBytes (if staged then s.staged else s.active) bank item index
  else if bank = 4 then liveBytes s item index
  else if bank = 5 then bank5Bytes s.mgmt item index
  else none

/-- The answer to a MGMT_READ and its detail (R173, R175, R192). That the segment is tested before READ_LOCK acts, and that a
NO_ITEM answer carries a detail of zeros, are the model's choices (notes/assumptions/58, 67). -/
def readAnswer (console : Bool) (p : MgmtReadP) (s : State) : MgmtCode × List Byte :=
  if console && maintOnlyItem p.bank.toNat p.item.toNat then (.NO_ITEM, [])
  else
    match readBytes s p.bank.toNat p.item.toNat p.index.toNat p.staged with
    | none => (.NO_ITEM, [])
    | some b =>
      if p.segment.toNat < segmentCount b then
        (.OK, [p.bank, p.item, p.index, p.segment] ++ natBytes 1 (segmentCount b) ++
          (if s.mgmt.locks.read && decide (p.bank.toNat ≤ 3) then absentBytes 24 else segmentBytes b p.segment.toNat))
      else (.NO_ITEM, [])

/-- A MGMT_READ is taken (R175). -/
def takeRead (hdr : Header) (console : Bool) (p : MgmtReadP) (s : State) : State :=
  let a := readAnswer console p s
  answerMgmt hdr p.tag kindRead a.1 (detail a.2) s

/-- The record that a write names in its present bytes: a staged record of banks 0 to 3, or a writable item of bank 5 (R176). -/
def writableBytes (s : State) (bank item index : Nat) : Option (List Byte) :=
  if bank ≤ 3 then tableBytes s.staged bank item index
  else if maintOnlyItem bank item then bank5Bytes s.mgmt item index
  else none

/-- The record of a write is replaced (R176). -/
def writeRecord (bank item index : Nat) (b : List Byte) (s : State) : State :=
  if bank ≤ 3 then { s with staged := tableWrite s.staged bank item index b }
  else if item = 1 then modMgmt (fun m => { m with lockDefaults := locksOfBytes b }) s
  else modMgmt (fun m => { m with nodeAddress := byteAt b 0 }) s

/-- A MGMT_WRITE is taken (R173, R176). That the segment is tested before WRITE_LOCK and PENDING is the model's choice
(notes/assumptions/58). -/
def takeWrite (hdr : Header) (console : Bool) (p : MgmtWriteP) (s : State) : State :=
  let bank := p.bank.toNat
  let item := p.item.toNat
  let index := p.index.toNat
  let ans (c : MgmtCode) (s : State) : State := answerMgmt hdr p.tag kindWrite c (detail []) s
  if s.mgmt.locks.writeAll then ans .OK s
  else if console && maintOnlyItem bank item then ans .NO_ITEM s
  else
    match writableBytes s bank item index with
    | none => ans .NO_ITEM s
    | some b =>
      if segmentCount b ≤ p.segment.toNat then ans .NO_ITEM s
      else if decide (bank ≤ 3) && s.mgmt.locks.write then ans .OK s
      else if decide (bank ≤ 3) && bankInGroupA bank && s.mgmt.commitA.pending then ans .PENDING s
      else writeRecord bank item index (withSegment b p.segment.toNat p.data.toList) (ans .OK s)

/-! ## Operations (R173, R177 to R183) -/

/-- Answer a MGMT_CONTROL with nothing in its detail. -/
def answerControl (hdr : Header) (tag : Byte) (c : MgmtCode) (s : State) : State :=
  answerMgmt hdr tag kindControl c (detail []) s

/-- The checks 1 to 3 of R173 on an operation other than NEXT_NOTICE, then the operation itself. -/
def guarded (hdr : Header) (tag : Byte) (console maintOnly named : Bool) (f : State → State) (s : State) : State :=
  if s.mgmt.locks.writeAll then answerControl hdr tag .OK s
  else if (console && maintOnly) || !named then answerControl hdr tag .NO_ITEM s
  else f s

/-- The answer INVALID with the failing record (R177, R192). -/
def answerInvalid (hdr : Header) (tag : Byte) (r : ItemRef) (s : State) : State :=
  answerMgmt hdr tag kindControl .INVALID (detail (refBytes r)) s

/-- The application of the staged group B (R178). -/
def applyGroupB (s : State) : State :=
  let old := s.active.b
  let new := s.staged.b
  let s1 : State := { s with
    active := { s.active with b := new }
    mgmt := { s.mgmt with commitB := ⟨false, .OK⟩ } }
  let s2 := tripTakesGroupB (positionTakesGroupB old new (occur .COMMIT_APPLIED s1))
  announce (.doorEval .car2) (announce (.doorEval .car1) (announce (.recompute false) s2))

/-- COMMIT of group B (R177, R178). -/
def commitB (hdr : Header) (tag : Byte) (s : State) : State :=
  match invalidB s.staged.b s.active.a s.mgmt.ownAddress with
  | some r => answerInvalid hdr tag r (modMgmt (fun m => { m with commitB := ⟨false, .INVALID r⟩ }) s)
  | none =>
    if s.inService then
      answerControl hdr tag .WRONG_STATE (modMgmt (fun m => { m with commitB := ⟨false, .WRONG_STATE⟩ }) s)
    else applyGroupB (answerControl hdr tag .OK s)

/-- COMMIT of group A (R177, R178). -/
def commitA (hdr : Header) (tag : Byte) (s : State) : State :=
  if s.mgmt.commitA.pending then answerControl hdr tag .PENDING s
  else
    match invalidA s.staged.a s.active.b with
    | some r => answerInvalid hdr tag r (modMgmt (fun m => { m with commitA := ⟨false, .INVALID r⟩ }) s)
    | none =>
      if s.inService then
        answerControl hdr tag .PENDING (modMgmt (fun m => { m with commitA := { m.commitA with pending := true } }) s)
      else applyGroupA (answerControl hdr tag .OK s)

/-- COMMIT (R177, R178): argument 0 is group A, 1 group B. -/
def takeCommit (hdr : Header) (console : Bool) (tag arg : Byte) (s : State) : State :=
  guarded hdr tag console false (decide (arg.toNat ≤ 1))
    (fun s => if arg = 0#8 then commitA hdr tag s else commitB hdr tag s) s

/-- ABANDON (R179). -/
def takeAbandon (hdr : Header) (console : Bool) (tag arg : Byte) (s : State) : State :=
  guarded hdr tag console false (decide (arg.toNat ≤ 1))
    (fun s =>
      let s1 := answerControl hdr tag .OK s
      if arg = 0#8 then
        modMgmt (fun m => { m with commitA := { m.commitA with pending := false } })
          { s1 with staged := { s1.staged with a := s1.active.a } }
      else
        modMgmt (fun m => { m with commitB := { m.commitB with pending := false } })
          { s1 with staged := { s1.staged with b := s1.active.b } })
    s

/-- SET_LOCK (R180): argument 0 is READ_LOCK, 1 WRITE_LOCK, 2 WRITE_ALL_LOCK. A frame with another argument is refused before it is
taken (R190, `codesNamed`). -/
def takeSetLock (hdr : Header) (console : Bool) (tag arg : Byte) (s : State) : State :=
  guarded hdr tag console true true
    (fun s =>
      modMgmt
        (fun m =>
          let l := m.locks
          { m with locks :=
            if arg = 0#8 then { l with read := true }
            else if arg = 1#8 then { l with write := true }
            else { l with writeAll := true } })
        (answerControl hdr tag .OK s))
    s

/-- The place of the pending notice of highest priority (R182). -/
def firstPending (m : Management) : Option (Fin 24) := (List.finRange 24).find? fun i => (m.notices.get i).pending

/-- NEXT_NOTICE (R182). -/
def takeNextNotice (hdr : Header) (tag : Byte) (s : State) : State :=
  match firstPending s.mgmt with
  | none => answerControl hdr tag .OK s
  | some i =>
    let r := s.mgmt.notices.get i
    let s1 := modMgmt (fun m => { m with notices := vset m.notices i NoticeRecord.clear }) s
    answerMgmt hdr tag kindControl .OK
      (detail (natBytes 1 (i.val + 1) ++ natBytes 1 r.count ++ optBytes 4 r.first ++ optBytes 4 r.latest ++
        natBytes 1 (pendingNotices s1.mgmt)))
      s1

/-- A channel with its counters at 0. -/
def ChannelState.cleared (c : ChannelState) : ChannelState := { c with duplicates := 0, gaps := 0, rejections := 0 }

/-- A port with its counters at 0. -/
def Port.cleared (p : Port) : Port := { p with counters := PortCounters.zero }

/-- Every saturating counter is set to 0 (R183). -/
def clearCounters (s : State) : State :=
  { s with
    pos := { s.pos with chan := ⟨s.pos.chan.a.cleared, s.pos.chan.b.cleared⟩ }
    filter := { s.filter with clamps := 0, rewrites := 0, ignored := 0 }
    brake := { s.brake with stale := 0 }
    gates := { s.gates with
      refusals := Vector.replicate 8 0, unverified := Vector.replicate 6 0, exits := Vector.replicate 6 0 }
    ports := ⟨s.ports.c.cleared, s.ports.f.cleared⟩ }

/-- CLEAR_COUNTERS (R183). -/
def takeClearCounters (hdr : Header) (console : Bool) (tag : Byte) (s : State) : State :=
  guarded hdr tag console false true (fun s => clearCounters (answerControl hdr tag .OK s)) s

/-- INVALIDATE_CACHE (R145, R183). -/
def takeInvalidateCache (hdr : Header) (console : Bool) (tag : Byte) (s : State) : State :=
  guarded hdr tag console false true (fun s => modGates invalidateCache (answerControl hdr tag .OK s)) s

/-- CLEAR_GATE (R155, R183). -/
def takeClearGate (hdr : Header) (console : Bool) (tag arg : Byte) (s : State) : State :=
  guarded hdr tag console false (decide (arg.toNat ≤ 15))
    (fun s =>
      match indexOf 16 arg.toNat with
      | some g => clearGate g (answerControl hdr tag .OK s)
      | none => s)
    s

/-- RAIL_RESET (R71, R183). -/
def takeRailReset (hdr : Header) (console : Bool) (tag : Byte) (s : State) : State :=
  guarded hdr tag console true true
    (fun s =>
      if railResetAllowed s then railResetEffect (answerControl hdr tag .OK s) else answerControl hdr tag .WRONG_STATE s)
    s

/-- An operation that does not exist (R173). -/
def takeUnknownOperation (hdr : Header) (console : Bool) (tag : Byte) (s : State) : State :=
  guarded hdr tag console false false (fun s => s) s

/-! ## The store (R185, R187, R194) -/

/-- What a STORE writes (R187, step 1). -/
def storeContentsNow (s : State) : StoreContents := ⟨s.active, s.mgmt.lockDefaults, s.mgmt.nodeAddress⟩

/-- STORE (R187). -/
def takeStore (hdr : Header) (console : Bool) (tag : Byte) (s : State) : State :=
  guarded hdr tag console false true
    (fun s =>
      if s.mgmt.flight.isSome then answerControl hdr tag .BUSY s
      else modMgmt (fun m => { m with flight := some ⟨storeContentsNow s, tag, hdr.src, hdr.port⟩ }) s)
    s

/-- A store whose write did not come to its end, or does not read back (R187). -/
def brokenStore (c : StoreContents) : ConfigStore := ⟨c, ~~~storeCheck c⟩

/-- The write of a STORE ends, and its read-back agrees or not (R187). Nothing follows where no STORE is in flight
(notes/assumptions/45). -/
def storeCompletes (agrees : Bool) (s : State) : State :=
  match s.mgmt.flight with
  | none => s
  | some f =>
    let s1 := modMgmt (fun m => { m with
      store := if agrees then ⟨f.contents, storeCheck f.contents⟩ else brokenStore f.contents
      storeLast := if agrees then .OK else .FAILED
      flight := none }) s
    let hdr : Header := ⟨f.port, s.mgmt.ownAddress, f.src⟩
    if agrees then answerControl hdr f.tag .OK s1
    else answerMgmt hdr f.tag kindControl .INVALID (detail (absentBytes 3)) s1

/-- A STORE in flight is cut short (R187). -/
def cutStore (m : Management) : Management :=
  match m.flight with
  | none => m
  | some f => { m with store := brokenStore f.contents, flight := none }

/-- What start-up and RELOAD load: the stored contents, or the factory values, and from where (R185). -/
def loadStore (x : ConfigStore) : StoreContents × LoadedFrom :=
  let factory : StoreContents := ⟨Tables.factory, ⟨false, false, false⟩, 0xF0#8⟩
  if storeAgrees x then
    match invalidTables x.contents.tables x.contents.ownAddress with
    | none => (x.contents, .STORE)
    | some r => (factory, .INVALID r)
  else (factory, .CHECK_FAILED)

/-! ## Start-up and reload (R188, R189) -/

/-- The door order that the urgent queue of port F holds for car `k` (R119). -/
def heldDoorOrder (s : State) (k : CarId) : Option DoorOrder :=
  s.ports.f.urgent.findSome? fun f =>
    match f.content with
    | .doorOrder c o => if c = k then some o else none
    | _ => none

/-- The management agent after start-up or RELOAD (R184, R188, R189). -/
def startMgmt (reload : Bool) (m : Management) (ld : StoreContents × LoadedFrom) : Management where
  notices := Vector.replicate 24 NoticeRecord.clear
  locks := ld.1.lockDefaults
  lockDefaults := ld.1.lockDefaults
  ownAddress := ld.1.ownAddress
  nodeAddress := ld.1.ownAddress
  commitA := CommitStatus.start
  commitB := CommitStatus.start
  loadedFrom := ld.2
  storeLast := if reload then m.storeLast else .none
  flight := none
  store := m.store

/-- Steps 1 to 3 of start-up before START: every block has its start values (R188, R21, R38, R52, R73, R100, R119, R132,
R136, R157, R172, R184). A reload keeps what R189 keeps. That the input filters start with the filter times of the tables that step 2 loads
is the model's choice (notes/assumptions/66). -/
def startBlocks (reload : Bool) (s : State) : State :=
  let m := cutStore s.mgmt
  let ld := loadStore m.store
  let t := ld.1.tables
  let p := t.b.params
  let token (k : CarId) : Byte := if reload then (s.doors.get k).token else 0#8
  let held (k : CarId) : Option DoorOrder := if reload then heldDoorOrder s k else none
  { power := .RUNNING
    resetLow := s.resetLow
    localMs := if reload then s.localMs else 0
    pos := Position.start p.sampleLossTime.toNat
    speed := SpeedRecord.start p.designMax.toNat
    filter := FilterRecord.start
    brake := Supervisor.start (if reload then s.brake.counter else 0#8)
    trip := Trip.start p.designMax.toNat
    doors := ⟨CarDoors.start (token .car1) (held .car1), CarDoors.start (token .car2) (held .car2)⟩
    seqs := t.a.programs.map startSeq
    pulses := Vector.replicate 16 PulseRun.start
    sigDriven := true
    gates := GateUnit.start
    ports := if reload then ⟨s.ports.c.cleared, s.ports.f.cleared⟩ else ⟨Port.start, Port.start⟩
    dins := Vector.ofFn fun i : Fin 8 => ⟨(s.dins.get i).raw, none, some (t.b.filterTimes.get i).toNat⟩
    mgmt := startMgmt reload m ld
    active := t
    staged := t
    agenda := []
    pending := s.pending }

/-- CONFIG_INVALID occurs when the store was invalid (R184, R188). -/
def noticeInvalid (s : State) : State := if s.mgmt.loadedFrom = .STORE then s else occur .CONFIG_INVALID s

/-- The start-up pass of the sequencers (R132, R188 step 4): the line is out of service and no car is berthed. -/
def startPasses (s : State) : State := answerOutside tellNothing (Vector.replicate 6 0#32) allDue s

/-- Start-up, or a reload (R188, R189). That the LATCH_SET which START gives (R61) starts pulse entries as the USER_RISE events of the
first passes do is the model's choice (notes/assumptions/68). -/
def startUp (reload : Bool) (s : State) : State := startPasses (noticeInvalid (raiseStart (startBlocks reload s)))

/-- Whether RELOAD is answered OK (R183, R187). -/
def reloadAllowed (s : State) : Bool :=
  !s.inService && s.pos.standstill && (s.brake.commanded == .HOLD) && s.mgmt.flight.isNone

/-- RELOAD (R183, R189). A trip direction that it changes is announced to the demand filter, which turns a held DEMAND (R45,
notes/assumptions/46). -/
def takeReload (hdr : Header) (console : Bool) (tag : Byte) (s : State) : State :=
  guarded hdr tag console true true
    (fun s =>
      if reloadAllowed s then
        announceIf (s.trip.dir != .UP) (.demandTrip none) (startUp true (answerControl hdr tag .OK s))
      else answerControl hdr tag .WRONG_STATE s)
    s

/-- The RESET pin is driven low: the part is held (R188), a STORE in flight is cut short (R187). -/
def holdInReset (s : State) : State := { startBlocks false s with power := .HELD_IN_RESET, sigDriven := false }

/-- Power is lost (R187). -/
def losePower (s : State) : State := { s with power := .OFF, sigDriven := false, mgmt := cutStore s.mgmt }

end Sys2Proof.Machine
end

