-- ==== Sys2Proof/Machine/Payloads.lean ====
section
/-!
DEFINITION. Reading the payload of a received frame by its kind (R190, R191): none where the frame is refused as kind refused,
because its length is not that of its kind, an enumerated field names no value or a reserved byte is not 0.
-/

namespace Sys2Proof.Machine

/-- The field of width `w` in the `n` bytes at place `i` of a payload. -/
def fieldAt (w : Nat) (bs : List Byte) (i n : Nat) : BitVec w := BitVec.ofNat w (numAt bs i n)

/-- The value that an enumerated code names. -/
def named {α : Type} (values : List α) (b : Byte) : Option α := values[b.toNat]?

/-- A car code: 1 or 2 (R190). -/
def carNamed (b : Byte) : Option CarId := if b = 1#8 then some .car1 else if b = 2#8 then some .car2 else none

/-- A yes/no field (R190). That a byte above 1 is a code that names no value, so that its frame is refused, is the model's choice
(notes/assumptions/65). -/
def yesNoNamed (b : Byte) : Option Bool := named [false, true] b

/-- SAMPLE. -/
def readSample (b : List Byte) : Option SampleP := do
  let ch ← named [Channel.A, .B] (byteAt b 0)
  let st ← named [SampleStatus.NORMAL, .HEAD_FAULT] (byteAt b 7)
  return ⟨ch, fieldAt 32 b 1 4, fieldAt 16 b 5 2, st⟩

/-- CAR_REPORT. That the marker kind must name a value also where the report carries no marker is the model's choice
(notes/assumptions/60). -/
def readCarReport (b : List Byte) : Option CarReportP := do
  let car ← carNamed (byteAt b 0)
  let kind ← named [MarkerKind.PASSED, .STANDING] (byteAt b 4)
  let rail ← named [RailState.READY, .APPLIED, .NOT_READY] (byteAt b 7)
  return ⟨car, fieldAt 16 b 1 2, byteAt b 3, kind, fieldAt 16 b 5 2, rail⟩

/-- The four door reports at place `i` of a DOOR_STATE. -/
def readDoors (b : List Byte) (i : Nat) : Option (Vector DoorReport 4) := do
  let d (n : Nat) : Option DoorReport := named [DoorReport.LOCKED, .RELEASED, .OPEN, .FAULT] (byteAt b (i + n))
  return #v[← d 0, ← d 1, ← d 2, ← d 3]

/-- DOOR_STATE. -/
def readDoorState (b : List Byte) : Option DoorStateP := do
  let car ← carNamed (byteAt b 0)
  let mark ← named [AnswerMark.SPONTANEOUS, .ANSWER] (byteAt b 1)
  let left ← readDoors b 3
  let right ← readDoors b 7
  return ⟨car, mark, byteAt b 2, left, right⟩

/-- CALL. -/
def readCall (b : List Byte) : Option CallP := do
  let w ← named [Wanted.NONE, .UPHILL, .DOWNHILL] (byteAt b 2)
  return ⟨byteAt b 0, byteAt b 1, w⟩

/-- GATE_PASSAGE. -/
def readPassage (b : List Byte) : Option GatePassageP := do
  let o ← named [Passage.passed, .expired] (byteAt b 1)
  return ⟨byteAt b 0, o⟩

/-- FARE_ANSWER. -/
def readFareAnswer (b : List Byte) : Option FareAnswerP := do
  let v ← named [FareVerdict.ADMIT, .REFUSE] (byteAt b 11)
  return ⟨fieldAt 16 b 0 2, fieldAt 64 b 2 8, byteAt b 10, v, byteAt b 12, fieldAt 16 b 13 2, fieldAt 16 b 15 2⟩

/-- Whether the arguments of a LINE_REQUEST are 0 from place `n` on (R191). -/
def argsZeroFrom (b : List Byte) (n : Nat) : Bool := (b.drop (2 + n)).all fun x => x == 0#8

/-- The request of a LINE_REQUEST (R97, R191). That the arguments of an unknown kind are not looked at is the model's choice
(notes/assumptions/72). -/
def readRequest (b : List Byte) : Option LineReq :=
  let arg (i : Nat) : Byte := byteAt b (2 + i)
  let bare (r : LineReq) : Option LineReq := if argsZeroFrom b 0 then some r else none
  match (byteAt b 1).toNat with
  | 0 => bare .dispatch
  | 1 => if argsZeroFrom b 2 then (carNamed (arg 0)).map fun k => .call k (arg 1) else none
  | 2 => if argsZeroFrom b 2 then (carNamed (arg 0)).map fun k => .cancelCall k (arg 1) else none
  | 3 => bare .holdSoft
  | 4 => bare .holdHard
  | 5 => bare .resume
  | 6 => bare .brakeReset
  | 7 => if argsZeroFrom b 2 then some (.setCap (fieldAt 16 b 2 2)) else none
  | 8 => if argsZeroFrom b 1 then (named [Mode.NORMAL, .CREEP] (arg 0)).map .setMode else none
  | 9 => bare .enterService
  | 10 => bare .leaveService
  | 11 => if argsZeroFrom b 2 then (named [FlagValue.SET, .CLEAR] (arg 1)).map fun v => .setFlag (arg 0) v else none
  | _ => some (.unknown (byteAt b 1))

/-- DEMAND. -/
def readDemand (b : List Byte) : Option DemandP := do
  let d ← named [Dir.UP, .DOWN] (byteAt b 3)
  return ⟨fieldAt 16 b 0 2, byteAt b 2, d, byteAt b 4⟩

/-- DRIVE_STATE. -/
def readDriveState (b : List Byte) : Option DriveStateP := do
  let r ← yesNoNamed (byteAt b 0)
  let t ← yesNoNamed (byteAt b 1)
  return ⟨r, t⟩

/-- BRAKE_STATE. -/
def readBrakeState (b : List Byte) : Option BrakeStateP := do
  let st ← named [Stage.RELEASED, .HOLD, .SERVICE, .EMERGENCY, .RAIL] (byteAt b 1)
  return ⟨byteAt b 0, st⟩

/-- MGMT_READ. -/
def readMgmtRead (b : List Byte) : Option MgmtReadP := do
  let st ← yesNoNamed (byteAt b 5)
  return ⟨byteAt b 0, byteAt b 1, byteAt b 2, byteAt b 3, byteAt b 4, st⟩

/-- MGMT_WRITE. -/
def readMgmtWrite (b : List Byte) : MgmtWriteP :=
  ⟨byteAt b 0, byteAt b 1, byteAt b 2, byteAt b 3, byteAt b 4, Vector.ofFn fun i : Fin 24 => byteAt b (5 + i.val)⟩

/-- Whether every enumerated code of a payload names a value, of those that its type leaves open: the lock of a SET_LOCK (R190).
An operation that does not exist is exempt, and a group that does not exist is answered NO_ITEM (R173). -/
def codesNamed (pl : Payload) : Bool :=
  match pl with
  | .mgmtControl _ op arg => (op != 4#8) || decide (arg.toNat ≤ 2)
  | _ => true

/-- MGMT_CONTROL. -/
def readControl (b : List Byte) : Option Payload :=
  let pl : Payload := .mgmtControl (byteAt b 0) (byteAt b 1) (byteAt b 2)
  if codesNamed pl then some pl else none

/-- A payload of the length of its kind. -/
def ofLength {α : Type} (n : Nat) (b : List Byte) (x : Option α) : Option α := if b.length = n then x else none

/-- The payload of a frame by its kind; none where it is refused (R190, R191). -/
def readPayload (kind : Byte) (b : List Byte) : Option Payload :=
  match kind.toNat with
  | 0x01 => ofLength 8 b ((readSample b).map .sample)
  | 0x02 => ofLength 8 b ((readCarReport b).map .carReport)
  | 0x03 => ofLength 11 b ((readDoorState b).map .doorState)
  | 0x04 => ofLength 3 b ((readCall b).map .call)
  | 0x05 => ofLength 10 b (some (.gateRequest ⟨byteAt b 0, byteAt b 1, fieldAt 64 b 2 8⟩))
  | 0x06 => ofLength 2 b ((readPassage b).map .gatePassage)
  | 0x07 => ofLength 17 b ((readFareAnswer b).map .fareAnswer)
  | 0x08 => ofLength 6 b ((readRequest b).map (.lineRequest (byteAt b 0)))
  | 0x09 => ofLength 5 b ((readDemand b).map .demand)
  | 0x0A => ofLength 2 b ((readDriveState b).map .driveState)
  | 0x0B => ofLength 2 b ((readBrakeState b).map .brakeState)
  | 0x10 => ofLength 6 b ((readMgmtRead b).map .mgmtRead)
  | 0x11 => ofLength 29 b (some (.mgmtWrite (readMgmtWrite b)))
  | 0x12 => ofLength 3 b (readControl b)
  | n => if 0x80 ≤ n then some (.transit kind b) else none

/-- The kind code of a payload (R191). -/
def payloadKind : Payload → Byte
  | .sample _ => 0x01
  | .carReport _ => 0x02
  | .doorState _ => 0x03
  | .call _ => 0x04
  | .gateRequest _ => 0x05
  | .gatePassage _ => 0x06
  | .fareAnswer _ => 0x07
  | .lineRequest _ _ => 0x08
  | .demand _ => 0x09
  | .driveState _ => 0x0A
  | .brakeState _ => 0x0B
  | .mgmtRead _ => 0x10
  | .mgmtWrite _ => 0x11
  | .mgmtControl _ _ _ => 0x12
  | .transit kind _ => kind

end Sys2Proof.Machine
end

