-- ==== Sys2Proof/Machine/Switch.lean ====
section
/-!
DEFINITION. The frame switch (chapter 9): links, acceptance, handling by kind, transmission, and the discrete inputs.
-/

namespace Sys2Proof.Machine

/-! ## Links (R158 to R160) -/

/-- A port after a valid reception (R159). -/
def linkHears (p : Port) : Port :=
  match p.link with
  | .DOWN => { p with link := .SYNCING, silence := some 20, syncCount := 1, syncWindow := some 30 }
  | .UP => { p with silence := some 20 }
  | .SYNCING =>
    if p.syncWindow.isNone then { p with silence := some 20, syncCount := 1, syncWindow := some 30 }
    else if 3 ≤ p.syncCount + 1 then { p with link := .UP, silence := some 20, syncCount := 0, syncWindow := none }
    else { p with silence := some 20, syncCount := p.syncCount + 1 }

/-- A valid idle mark is received (R158, R159). -/
def takeIdleMark (q : PortId) (s : State) : State := modPort q linkHears s

/-- Change the counters of a port. -/
def modCounters (q : PortId) (f : PortCounters → PortCounters) (s : State) : State :=
  modPort q (fun p => { p with counters := f p.counters }) s

/-- An invalid reception: an invalid frame on an UP port is counted, as check failed alone (R158, R159, R163,
notes/assumptions/55). -/
def takeInvalid (q : PortId) (what : ReceptionKind) (s : State) : State :=
  if (s.ports.get q).link = .UP ∧ what = .frame then
    modCounters q (fun c => { c with checkFailed := satInc c.checkFailed }) s
  else s

/-- The silence timer of a port expires (R159, R160). -/
def silenceExpires (q : PortId) (s : State) : State :=
  if (s.ports.get q).silence.isNone then s
  else
    let s1 := modPort q (fun p => { p with link := .DOWN, silence := none, syncCount := 0, syncWindow := none }) s
    if (s.ports.get q).link = .DOWN then s1 else occur .PORT_DOWN s1

/-- The sync window timer of a port expires (R159). -/
def syncWindowExpires (q : PortId) (s : State) : State :=
  if (s.ports.get q).syncWindow.isNone then s else modPort q (fun p => { p with syncCount := 0, syncWindow := none }) s

/-! ## Transmission (R158, R169) -/

/-- The frame that an UP port would begin: the head of the urgent queue, else of the normal queue (R169). -/
def nextFrame (p : Port) : Option OutFrame :=
  match p.urgent with
  | f :: _ => some f
  | [] => p.normal.head?

/-- Whether a port has a frame to begin (R158, R169). -/
def canBegin (p : Port) : Bool := (p.link == .UP) && p.sending.isNone && (nextFrame p).isSome

/-- A port with its next frame in transmission (R169). -/
def withBegun (f : OutFrame) (p : Port) : Port :=
  match p.urgent with
  | _ :: rest => { p with urgent := rest, sending := some f, idleTimer := none }
  | [] => { p with normal := p.normal.drop 1, sending := some f, idleTimer := none }

/-- The beginning of a frame is announced to the block that built it (R169). -/
def announceBegun (f : OutFrame) (s : State) : State :=
  match f.content with
  | .brakeOrder n _ => if f.role = some .BRAKE then brakeOrderBegun n s else s
  | .doorOrder k o => doorOrderBegun k o.token s
  | _ => s

/-- A port begins a frame (R169); it goes out as `lineBytes` gives. -/
def beginFrame (q : PortId) (s : State) : State :=
  match canBegin (s.ports.get q), nextFrame (s.ports.get q) with
  | true, some f => announceBegun f (modPort q (withBegun f) s)
  | _, _ => s

/-- A transmission ends; the idle mark time starts (R158). Without a transmission nothing ends: the model's choice
(notes/assumptions/59). -/
def endTransmission (q : PortId) (s : State) : State :=
  if (s.ports.get q).sending.isSome then modPort q (fun p => { p with sending := none, idleTimer := some 5 }) s else s

/-- An idle mark is sent when the idle time has passed and no frame can begin (R158); its end restarts the time. -/
def sendIdleMark (q : PortId) (s : State) : State :=
  let p := s.ports.get q
  if p.sending.isNone && p.idleTimer.isSome && !canBegin p then modPort q (fun p => { p with idleTimer := some 5 }) s else s

/-! ## Acceptance (R163 to R165) -/

/-- Whether a role may send a payload (R164). -/
def roleAllows (r : Role) (pl : Payload) : Bool :=
  match pl with
  | .sample p => match p.channel with
    | .A => r == .SHEAVE_A
    | .B => r == .SHEAVE_B
  | .carReport p => r == carRole p.car
  | .doorState p => r == carRole p.car
  | .call p => ((r == .GATE) && (p.wanted != .NONE)) || (((r == .CAR_1) || (r == .CAR_2)) && (p.wanted == .NONE))
  | .gateRequest _ => r == .GATE
  | .gatePassage _ => r == .GATE
  | .fareAnswer _ => r == .FARE_SERVER
  | .lineRequest _ _ => r == .CONSOLE
  | .demand _ => r == .CONSOLE
  | .driveState _ => r == .DRIVE
  | .brakeState _ => r == .BRAKE
  | .mgmtRead _ => (r == .CONSOLE) || (r == .MAINT)
  | .mgmtWrite _ => (r == .CONSOLE) || (r == .MAINT)
  | .mgmtControl _ _ _ => (r == .CONSOLE) || (r == .MAINT)
  | .transit _ _ => false

/-- Step 3 of acceptance (R163): whether a payload's codes name values (R190) and it is permitted from an entry (R164), a transit
kind by the entry's transit allowed field, the others by its role. -/
def entryAllows (e : NodeEntry) (pl : Payload) : Bool :=
  match pl with
  | .transit _ _ => yes e.transit
  | _ => codesNamed pl && roleAllows (nodeRole e) pl

/-- Whether a destination suits a payload (R165). -/
def destinationOk (s : State) (hdr : Header) (pl : Payload) : Bool :=
  match pl with
  | .demand _ =>
    match firstRole s.active.b .DRIVE with
    | some e => e.address == hdr.dst
    | none => false
  | .transit _ _ => (hdr.dst != s.mgmt.ownAddress) && (nodeLookup s.active.b hdr.dst (otherPort hdr.port)).isSome
  | _ => hdr.dst == s.mgmt.ownAddress

/-- Whether a kind is a management kind. -/
def isMgmtKind (k : Byte) : Bool := (k == kindRead) || (k == kindWrite) || (k == kindControl)

/-- The entry a management frame counts as coming from while the node map holds no MAINT entry (R163). -/
def maintEntry : NodeEntry := ⟨1, 0, 0, 1, 0, 0, 0⟩

/-- The entry that a frame's source is taken as (R163, step 2). -/
def sourceEntry (s : State) (hdr : Header) (kind : Byte) : Option NodeEntry :=
  match nodeLookup s.active.b hdr.src hdr.port with
  | some e => some e
  | none =>
    if isMgmtKind kind && (hdr.port == .C) && (hdr.dst == s.mgmt.ownAddress) && (firstRole s.active.b .MAINT).isNone then
      some maintEntry
    else none

/-! ## Handling by kind (R165, R166, R167) -/

/-- A request is answered, and takes effect unless it is refused (R97). -/
def request (hdr : Header) (number kind : Byte) (ans : State → LineAnswer) (eff : State → State) (s : State) : State :=
  let a := ans s
  let s1 := answerLine hdr number kind a s
  match a with
  | .ACCEPTED => eff s1
  | .DEFERRED => eff s1
  | _ => s1

/-- A LINE_REQUEST is taken (R97). -/
def takeRequest (hdr : Header) (n : Byte) (r : LineReq) (s : State) : State :=
  match r with
  | .dispatch => request hdr n 0 dispatchAnswer dispatchEffect s
  | .call k h =>
    let o := callOutcome s k (haltOfByte h) .CONSOLE
    request hdr n 1 (fun _ => o.1) (callEffect o) s
  | .cancelCall k h => request hdr n 2 (fun s => cancelAnswer s k (haltOfByte h)) (cancelEffect k (haltOfByte h)) s
  | .holdSoft => request hdr n 3 holdAnswer holdSoftEffect s
  | .holdHard => request hdr n 4 holdAnswer holdHardEffect s
  | .resume => request hdr n 5 resumeAnswer resumeEffect s
  | .brakeReset => request hdr n 6 brakeResetAnswer brakeResetEffect s
  | .setCap cap => request hdr n 7 (setCapAnswer cap.toNat) (setCapEffect cap.toNat) s
  | .setMode m => request hdr n 8 (setModeAnswer m) (setModeEffect m) s
  | .enterService =>
    request hdr n 9 (fun s => enterServiceAnswer (invalidTables s.active s.mgmt.ownAddress).isSome s) enterServiceEffect s
  | .leaveService => request hdr n 10 leaveServiceAnswer leaveServiceEffect s
  | .setFlag i v => request hdr n 11 (fun _ => setFlagAnswer i) (setFlagEffect i v) s
  | .unknown kind => request hdr n kind (fun _ => .REFUSED .UNKNOWN_REQUEST) (fun s => s) s

/-- A CALL of a car relay or of the gate node of gate `g` is taken (R80, R81). -/
def takeCall (hdr : Header) (e : NodeEntry) (p : CallP) (s : State) : State :=
  let answer (o : LineAnswer × Option (List Stop)) : State := request hdr p.number 1 (fun _ => o.1) (callEffect o) s
  match nodeRole e with
  | .CAR_1 => answer (callOutcome s .car1 (haltOfByte p.halt) .CAR)
  | .CAR_2 => answer (callOutcome s .car2 (haltOfByte p.halt) .CAR)
  | _ =>
    let h := gateHalt s.active.a (nodeGate e)
    let named := if p.halt.toNat = h.val then some h else none
    answer (callOutcome s (platformCar s.trip.dir p.wanted) named .PLATFORM)

/-- A frame of the node of gate `g`: discarded when the gate table entry is absent; else the gate is heard first (R137, R166). -/
def fromGate (e : NodeEntry) (f : GateId → State → State) (s : State) : State :=
  if gatePresent s.active.a (nodeGate e) then f (nodeGate e) (hearGate (nodeGate e) s) else s

/-- The copy of a frame for the console (R166). -/
def copyToConsole (src : Byte) (c : Content) (s : State) : State :=
  match firstRole s.active.b .CONSOLE with
  | some e => placeNormal .C ⟨e.address, src, none, c⟩ s
  | none => s

/-- A MGMT_CONTROL is taken (R173, chapter 12.3). -/
def takeControl (hdr : Header) (console : Bool) (tag op arg : Byte) (s : State) : State :=
  match op.toNat with
  | 0 => react (takeCommit hdr console tag arg) s
  | 1 => react (takeAbandon hdr console tag arg) s
  | 2 => react (takeStore hdr console tag) s
  | 3 => takeReload hdr console tag s
  | 4 => react (takeSetLock hdr console tag arg) s
  | 5 => react (takeNextNotice hdr tag) s
  | 6 => react (takeClearCounters hdr console tag) s
  | 7 => react (takeInvalidateCache hdr console tag) s
  | 8 => react (takeRailReset hdr console tag) s
  | 9 => react (takeClearGate hdr console tag arg) s
  | _ => react (takeUnknownOperation hdr console tag) s

/-- An accepted frame is handled by its kind (R165). A RELOAD makes the sequencers' start-up pass itself (R189). -/
def handlePayload (hdr : Header) (e : NodeEntry) (pl : Payload) (s : State) : State :=
  let console := nodeRole e == .CONSOLE
  match pl with
  | .sample p => react (takeSample p) s
  | .carReport p => react (takeCarReport p) s
  | .doorState p => react (takeDoorState p.car p) s
  | .call p =>
    if nodeRole e = .GATE then react (fromGate e fun _ => takeCall hdr e p) s else react (takeCall hdr e p) s
  | .gateRequest p => react (fromGate e fun g => takeGateRequest g p) s
  | .gatePassage p => react (fromGate e fun g => takeGatePassage g p) s
  | .fareAnswer p => react (takeFareAnswer p) s
  | .lineRequest n r => react (takeRequest hdr n r) s
  | .demand p => react (takeDemand hdr.dst hdr.src p) s
  | .driveState p => react (fun s => copyToConsole hdr.src (.driveState p) (takeDriveState p s)) s
  | .brakeState p => react (fun s => copyToConsole hdr.src (.brakeState p) (takeBrakeState p s)) s
  | .mgmtRead p => react (takeRead hdr console p) s
  | .mgmtWrite p => react (takeWrite hdr console p) s
  | .mgmtControl tag op arg => takeControl hdr console tag op arg s
  | .transit kind bytes => placeNormal (otherPort hdr.port) ⟨hdr.dst, hdr.src, none, .transit kind bytes⟩ s

/-- Steps 2 to 4 of acceptance, and the handling (R163). -/
def acceptFrame (hdr : Header) (kind : Byte) (pl : Option Payload) (s : State) : State :=
  match sourceEntry s hdr kind with
  | none => modCounters hdr.port (fun c => { c with unknownSource := satInc c.unknownSource }) s
  | some e =>
    match pl with
    | none => modCounters hdr.port (fun c => { c with kindRefused := satInc c.kindRefused }) s
    | some p =>
      if !entryAllows e p then modCounters hdr.port (fun c => { c with kindRefused := satInc c.kindRefused }) s
      else if !destinationOk s hdr p then modCounters hdr.port (fun c => { c with misaddressed := satInc c.misaddressed }) s
      else handlePayload hdr e p s

/-- A valid frame is received: it serves the link state, and is accepted on a port that is then UP (R158, R159, R163). -/
def receive (hdr : Header) (kind : Byte) (pl : Option Payload) (s : State) : State :=
  let s1 := modPort hdr.port linkHears s
  if (s1.ports.get hdr.port).link = .UP then
    acceptFrame hdr kind pl (modCounters hdr.port (fun c => { c with received := satInc c.received }) s1)
  else s1

/-- A frame of one of the part's own kinds, or of a transit kind, with its payload read. -/
def receivePayload (hdr : Header) (pl : Payload) (s : State) : State := receive hdr (payloadKind pl) (some pl) s

/-- A frame received byte for byte (R158, R190). -/
def receiveRaw (q : PortId) (f : RawFrame) (s : State) : State :=
  if rawValid f then receive ⟨q, f.dst, f.src⟩ f.kind (readPayload f.kind f.payload) s else takeInvalid q .frame s

/-! ## Discrete inputs (R170) -/

/-- The filter accepts a level (R170). -/
def acceptLevel (i : Fin 8) (l : Level) (s : State) : State :=
  let before := dinLevel s i
  let s1 : State := { s with dins := vmod s.dins i fun d => { d with filtered := some l, timer := none } }
  if dinLevel s1 i = before then s1
  else if i = 0 then evalEstop s1
  else if i = 1 then announce .tripAuto s1
  else s1

/-- The raw level of an input becomes `l` (R170). -/
def rawChange (i : Fin 8) (l : Level) (s : State) : State :=
  let d := s.dins.get i
  let s1 : State := { s with dins := vmod s.dins i fun d => { d with raw := l } }
  if d.raw = l then s
  else if d.filtered = some l then { s1 with dins := vmod s1.dins i fun d => { d with timer := none } }
  else if (s.active.b.filterTimes.get i).toNat = 0 then acceptLevel i l s1
  else
    { s1 with dins := vmod s1.dins i fun d => { d with timer := some (s.active.b.filterTimes.get i).toNat } }

/-- The filter timer of an input expires (R170). -/
def filterExpires (i : Fin 8) (s : State) : State :=
  if ((s.dins.get i).timer).isNone then s else acceptLevel i (s.dins.get i).raw s

end Sys2Proof.Machine
end

