-- ==== Sys2Proof/Machine/CmdPower.lean ====
section
/-!
DEFINITION. How a command acts (R188): a part that is off or held in reset takes none, but power, the RESET pin and the raw
level of an input. Then the commands of power, of the ports and of the discrete inputs.
-/

namespace Sys2Proof.Machine

/-- The outcome of a command: always a next state. -/
abbrev Result := Host.Outcome State Fault Refusal

/-- A command that a running part takes, with all its announcements carried through. -/
def running (f : State → State) (s : State) : Result := .next (if s.power = .RUNNING then settle (f s) else s)

/-- A command that a running part takes and that announces nothing. -/
def plainly (f : State → State) (s : State) : Result := .next (if s.power = .RUNNING then f s else s)

/-- A timer or an event of a block: carried out, announced, carried through. -/
def event (f : State → State) (s : State) : Result := running (react f) s

/-- POWER_ON (R188): it starts the part up, unless the RESET pin is low and holds it. -/
def execPowerOn (s : State) : Result := .next (if s.resetLow then holdInReset s else settle (startUp false s))

/-- RESET_PIN (R188): the pin has its new level; driven low it holds a powered part, released it starts up a held one. -/
def execResetPin (edge : ResetEdge) (s : State) : Result :=
  match edge with
  | .drivenLow =>
    let s1 : State := { s with resetLow := true }
    .next (if s.power = .OFF then s1 else holdInReset s1)
  | .released =>
    let s1 : State := { s with resetLow := false }
    .next (if s.power = .HELD_IN_RESET then settle (startUp false s1) else s1)

/-- POWER_LOSS (R187). -/
def execPowerLoss (s : State) : Result := .next (losePower s)

/-- IDLE_MARK (R159). -/
def execIdleMark (q : PortId) (s : State) : Result := plainly (takeIdleMark q) s

/-- INVALID_RECEPTION (R158, R159). -/
def execInvalidReception (q : PortId) (what : ReceptionKind) (s : State) : Result := plainly (takeInvalid q what) s

/-- FRAME_WHILE_SYNCING (R159): the frame that brings the port UP is accepted. -/
def execFrameWhileSyncing (q : PortId) (f : RawFrame) (s : State) : Result := running (receiveRaw q f) s

/-- SILENCE_TIMER_EXPIRY (R159, R160). -/
def execSilenceTimerExpiry (q : PortId) (s : State) : Result := plainly (silenceExpires q) s

/-- SYNC_WINDOW_EXPIRY (R159). -/
def execSyncWindowExpiry (q : PortId) (s : State) : Result := plainly (syncWindowExpires q) s

/-- IDLE_MARK_SEND (R158). -/
def execIdleMarkSend (q : PortId) (s : State) : Result := plainly (sendIdleMark q) s

/-- FRAME_BEGIN (R169). -/
def execFrameBegin (q : PortId) (s : State) : Result := plainly (beginFrame q) s

/-- TRANSMISSION_COMPLETE (R158). -/
def execTransmissionComplete (q : PortId) (s : State) : Result := plainly (endTransmission q) s

/-- UNACCEPTED_FRAME (R163). -/
def execUnacceptedFrame (q : PortId) (f : RawFrame) (s : State) : Result := running (receiveRaw q f) s

/-- TRANSIT_FRAME (R167). -/
def execTransitFrame (q : PortId) (f : RawFrame) (s : State) : Result := running (receiveRaw q f) s

/-- RAW_LEVEL_CHANGE (R170): the pin of a part that does not run changes all the same. -/
def execRawLevelChange (i : Fin 8) (l : Level) (s : State) : Result :=
  if s.power = .RUNNING then event (rawChange i l) s
  else .next { s with dins := vmod s.dins i fun d => { d with raw := l } }

/-- INPUT_FILTER_EXPIRY (R170). -/
def execInputFilterExpiry (i : Fin 8) (s : State) : Result := event (filterExpires i) s

end Sys2Proof.Machine
end

