-- ==== Sys2Proof/Machine/CmdHaul.lean ====
section
/-!
DEFINITION. The commands of the haul: samples, car reports, the drive demand, the brake and their timers.
-/

namespace Sys2Proof.Machine

/-- SAMPLE (R5). -/
def execSample (hdr : Header) (p : SampleP) (s : State) : Result := running (receivePayload hdr (.sample p)) s

/-- CHANNEL_SILENCE_EXPIRY (R6). -/
def execChannelSilenceExpiry (ch : Channel) (s : State) : Result := event (channelSilenceExpires ch) s

/-- STANDSTILL_TIMER_EXPIRY (R10). -/
def execStandstillTimerExpiry (s : State) : Result := event standstillTimerExpires s

/-- SAMPLE_LOSS (R18). -/
def execSampleLoss (s : State) : Result := event sampleLossBegins s

/-- CHANNEL_DISCREPANCY (R19). -/
def execChannelDiscrepancy (s : State) : Result := event discrepancyBegins s

/-- SLIP (R20). -/
def execSlip (k : CarId) (s : State) : Result := event (slipBegins k) s

/-- CAR_REPORT (R13). -/
def execCarReport (hdr : Header) (p : CarReportP) (s : State) : Result := running (receivePayload hdr (.carReport p)) s

/-- CAR_REPORT_TIMEOUT (R14). -/
def execCarReportTimeout (k : CarId) (s : State) : Result := event (reportTimerExpires k) s

/-- LOAD_EXPIRY (R13). -/
def execLoadExpiry (k : CarId) (s : State) : Result := plainly (loadExpires k) s

/-- DEMAND (R41). -/
def execDemand (hdr : Header) (p : DemandP) (s : State) : Result := running (receivePayload hdr (.demand p)) s

/-- DEMAND_TIMER_EXPIRY (R47). -/
def execDemandTimerExpiry (s : State) : Result := event demandTimerExpires s

/-- BRAKE_STATE (R65). -/
def execBrakeState (hdr : Header) (p : BrakeStateP) (s : State) : Result := running (receivePayload hdr (.brakeState p)) s

/-- BRAKE_ANSWER_WINDOW_EXPIRY (R66). -/
def execBrakeAnswerWindowExpiry (s : State) : Result := event brakeWindowExpires s

/-- DECELERATION_CHECK_EXPIRY (R67). -/
def execDecelerationCheckExpiry (s : State) : Result := event decelCheckEnds s

/-- BRAKE_RESET (R70). -/
def execBrakeReset (hdr : Header) (number : Byte) (s : State) : Result :=
  running (receivePayload hdr (.lineRequest number .brakeReset)) s

/-- RAIL_RESET (R71). -/
def execRailReset (hdr : Header) (tag arg : Byte) (s : State) : Result := running (receivePayload hdr (.mgmtControl tag 8 arg)) s

end Sys2Proof.Machine
end

