-- ==== Sys2Proof/Machine/CmdManage.lean ====
section
/-!
DEFINITION. The commands of the management agent and the configuration store.
-/

namespace Sys2Proof.Machine

/-- MGMT_READ (R175). -/
def execMgmtRead (hdr : Header) (p : MgmtReadP) (s : State) : Result := running (receivePayload hdr (.mgmtRead p)) s

/-- MGMT_WRITE (R176). -/
def execMgmtWrite (hdr : Header) (p : MgmtWriteP) (s : State) : Result := running (receivePayload hdr (.mgmtWrite p)) s

/-- COMMIT (R177, R178). -/
def execCommit (hdr : Header) (tag arg : Byte) (s : State) : Result := running (receivePayload hdr (.mgmtControl tag 0 arg)) s

/-- ABANDON (R179). -/
def execAbandon (hdr : Header) (tag arg : Byte) (s : State) : Result := running (receivePayload hdr (.mgmtControl tag 1 arg)) s

/-- STORE (R187). -/
def execStore (hdr : Header) (tag arg : Byte) (s : State) : Result := running (receivePayload hdr (.mgmtControl tag 2 arg)) s

/-- RELOAD (R189). -/
def execReload (hdr : Header) (tag arg : Byte) (s : State) : Result := running (receivePayload hdr (.mgmtControl tag 3 arg)) s

/-- SET_LOCK (R180). -/
def execSetLock (hdr : Header) (tag arg : Byte) (s : State) : Result := running (receivePayload hdr (.mgmtControl tag 4 arg)) s

/-- NEXT_NOTICE (R182). -/
def execNextNotice (hdr : Header) (tag arg : Byte) (s : State) : Result := running (receivePayload hdr (.mgmtControl tag 5 arg)) s

/-- CLEAR_COUNTERS (R183). -/
def execClearCounters (hdr : Header) (tag arg : Byte) (s : State) : Result :=
  running (receivePayload hdr (.mgmtControl tag 6 arg)) s

/-- INVALIDATE_CACHE (R145). -/
def execInvalidateCache (hdr : Header) (tag arg : Byte) (s : State) : Result :=
  running (receivePayload hdr (.mgmtControl tag 7 arg)) s

/-- CLEAR_GATE (R155). -/
def execClearGate (hdr : Header) (tag arg : Byte) (s : State) : Result := running (receivePayload hdr (.mgmtControl tag 9 arg)) s

/-- STORE_COMPLETE (R187). -/
def execStoreComplete (agrees : Bool) (s : State) : Result := plainly (storeCompletes agrees) s

/-- UNKNOWN_MGMT_OPERATION (R173). -/
def execUnknownMgmtOperation (hdr : Header) (tag op arg : Byte) (s : State) : Result :=
  running (receivePayload hdr (.mgmtControl tag op arg)) s

end Sys2Proof.Machine
end

