-- ==== Sys2Proof/Machine/CmdStation.lean ====
section
/-!
DEFINITION. The commands of the stations: doors, sequencer timers, pulses, gates and the fare server.
-/

namespace Sys2Proof.Machine

/-- DOOR_STATE (R102). -/
def execDoorState (hdr : Header) (p : DoorStateP) (s : State) : Result := running (receivePayload hdr (.doorState p)) s

/-- DOOR_ANSWER_WINDOW_EXPIRY (R111). -/
def execDoorAnswerWindowExpiry (k : CarId) (sd : Side) (s : State) : Result := event (doorWindowExpires k sd) s

/-- CLOSE_TIMER_EXPIRY (R112). -/
def execCloseTimerExpiry (k : CarId) (c : Fin 4) (sd : Side) (s : State) : Result := event (closeTimerExpires k sd c) s

/-- STATE_TIMER_EXPIRY (R127). -/
def execStateTimerExpiry (q : Fin 6) (s : State) : Result := event (stateTimerExpires q) s

/-- PULSE_START_OFFSET (R134). -/
def execPulseStartOffset (i : Fin 16) (s : State) : Result := plainly (pulseStarts i) s

/-- PULSE_END_OFFSET (R134). -/
def execPulseEndOffset (i : Fin 16) (s : State) : Result := plainly (pulseEnds i) s

/-- GATE_REQUEST (R147). -/
def execGateRequest (hdr : Header) (p : GateRequestP) (s : State) : Result := running (receivePayload hdr (.gateRequest p)) s

/-- FARE_ANSWER (R152). -/
def execFareAnswer (hdr : Header) (p : FareAnswerP) (s : State) : Result := running (receivePayload hdr (.fareAnswer p)) s

/-- FARE_DEADLINE_EXPIRY (R153). -/
def execFareDeadlineExpiry (i : SlotId) (s : State) : Result := event (fareDeadlineExpires i) s

/-- GATE_PASSAGE (R154). -/
def execGatePassage (hdr : Header) (p : GatePassageP) (s : State) : Result := running (receivePayload hdr (.gatePassage p)) s

/-- WAIT_PASS_DEADLINE_EXPIRY (R154). -/
def execWaitPassDeadlineExpiry (i : SlotId) (s : State) : Result := event (passDeadlineExpires i) s

end Sys2Proof.Machine
end

