-- ==== Sys2Proof/Machine/CmdTrip.lean ====
section
/-!
DEFINITION. The commands of the trip sequencer: calls, line requests, the drive state and its timers.
-/

namespace Sys2Proof.Machine

/-- CALL (R80). -/
def execCall (hdr : Header) (p : CallP) (s : State) : Result := running (receivePayload hdr (.call p)) s

/-- CONSOLE_CALL (R80). -/
def execConsoleCall (hdr : Header) (number : Byte) (car : CarId) (halt : Byte) (s : State) : Result :=
  running (receivePayload hdr (.lineRequest number (.call car halt))) s

/-- CANCEL_CALL (R82). -/
def execCancelCall (hdr : Header) (number : Byte) (car : CarId) (halt : Byte) (s : State) : Result :=
  running (receivePayload hdr (.lineRequest number (.cancelCall car halt))) s

/-- HOLD_SOFT (R83). -/
def execHoldSoft (hdr : Header) (number : Byte) (s : State) : Result :=
  running (receivePayload hdr (.lineRequest number .holdSoft)) s

/-- HOLD_HARD (R84). -/
def execHoldHard (hdr : Header) (number : Byte) (s : State) : Result :=
  running (receivePayload hdr (.lineRequest number .holdHard)) s

/-- DISPATCH (R85). -/
def execDispatch (hdr : Header) (number : Byte) (s : State) : Result :=
  running (receivePayload hdr (.lineRequest number .dispatch)) s

/-- RESUME (R85). -/
def execResume (hdr : Header) (number : Byte) (s : State) : Result :=
  running (receivePayload hdr (.lineRequest number .resume)) s

/-- SET_CAP (R50). -/
def execSetCap (hdr : Header) (number : Byte) (cap : BitVec 16) (s : State) : Result :=
  running (receivePayload hdr (.lineRequest number (.setCap cap))) s

/-- SET_MODE (R96). -/
def execSetMode (hdr : Header) (number : Byte) (mode : Mode) (s : State) : Result :=
  running (receivePayload hdr (.lineRequest number (.setMode mode))) s

/-- SET_FLAG (R96). -/
def execSetFlag (hdr : Header) (number : Byte) (flag : Byte) (value : FlagValue) (s : State) : Result :=
  running (receivePayload hdr (.lineRequest number (.setFlag flag value))) s

/-- ENTER_SERVICE (R94). -/
def execEnterService (hdr : Header) (number : Byte) (s : State) : Result :=
  running (receivePayload hdr (.lineRequest number .enterService)) s

/-- LEAVE_SERVICE (R95). -/
def execLeaveService (hdr : Header) (number : Byte) (s : State) : Result :=
  running (receivePayload hdr (.lineRequest number .leaveService)) s

/-- UNKNOWN_REQUEST (R97). -/
def execUnknownRequest (hdr : Header) (number : Byte) (kind : Byte) (s : State) : Result :=
  running (receivePayload hdr (.lineRequest number (.unknown kind))) s

/-- DRIVE_STATE (R74, R88). -/
def execDriveState (hdr : Header) (p : DriveStateP) (s : State) : Result := running (receivePayload hdr (.driveState p)) s

/-- READY_TIMER_EXPIRY (R86). -/
def execReadyTimerExpiry (s : State) : Result := event readyTimerExpires s

/-- TORQUE_PROOF_TIMER_EXPIRY (R89). -/
def execTorqueProofTimerExpiry (s : State) : Result := event torqueTimerExpires s

/-- STATUS_TIMER_EXPIRY (R98). -/
def execStatusTimerExpiry (s : State) : Result := plainly statusTimerExpires s

end Sys2Proof.Machine
end

