-- ==== Sys2Proof/Machine/Dispatch.lean ====
section
/-!
DEFINITION. The meaning of every command: one arm per constructor of Instr, in the order of the opcode table.
-/

namespace Sys2Proof.Machine

open Sys2Proof

def exec (i : Instr) (s : State) : Host.Outcome State Fault Refusal :=
  match i with
  | .powerOn => Sys2Proof.Machine.execPowerOn s
  | .resetPin edge => Sys2Proof.Machine.execResetPin edge s
  | .idleMark port => Sys2Proof.Machine.execIdleMark port s
  | .invalidReception port what => Sys2Proof.Machine.execInvalidReception port what s
  | .frameWhileSyncing port frame => Sys2Proof.Machine.execFrameWhileSyncing port frame s
  | .silenceTimerExpiry port => Sys2Proof.Machine.execSilenceTimerExpiry port s
  | .syncWindowExpiry port => Sys2Proof.Machine.execSyncWindowExpiry port s
  | .idleMarkSend port => Sys2Proof.Machine.execIdleMarkSend port s
  | .frameBegin port => Sys2Proof.Machine.execFrameBegin port s
  | .transmissionComplete port => Sys2Proof.Machine.execTransmissionComplete port s
  | .unacceptedFrame port frame => Sys2Proof.Machine.execUnacceptedFrame port frame s
  | .transitFrame port frame => Sys2Proof.Machine.execTransitFrame port frame s
  | .rawLevelChange din level => Sys2Proof.Machine.execRawLevelChange din level s
  | .inputFilterExpiry din => Sys2Proof.Machine.execInputFilterExpiry din s
  | .sample hdr p => Sys2Proof.Machine.execSample hdr p s
  | .channelSilenceExpiry ch => Sys2Proof.Machine.execChannelSilenceExpiry ch s
  | .standstillTimerExpiry => Sys2Proof.Machine.execStandstillTimerExpiry s
  | .sampleLoss => Sys2Proof.Machine.execSampleLoss s
  | .channelDiscrepancy => Sys2Proof.Machine.execChannelDiscrepancy s
  | .slip car => Sys2Proof.Machine.execSlip car s
  | .carReport hdr p => Sys2Proof.Machine.execCarReport hdr p s
  | .carReportTimeout car => Sys2Proof.Machine.execCarReportTimeout car s
  | .loadExpiry car => Sys2Proof.Machine.execLoadExpiry car s
  | .demand hdr p => Sys2Proof.Machine.execDemand hdr p s
  | .demandTimerExpiry => Sys2Proof.Machine.execDemandTimerExpiry s
  | .brakeState hdr p => Sys2Proof.Machine.execBrakeState hdr p s
  | .brakeAnswerWindowExpiry => Sys2Proof.Machine.execBrakeAnswerWindowExpiry s
  | .decelerationCheckExpiry => Sys2Proof.Machine.execDecelerationCheckExpiry s
  | .brakeReset hdr number => Sys2Proof.Machine.execBrakeReset hdr number s
  | .railReset hdr tag arg => Sys2Proof.Machine.execRailReset hdr tag arg s
  | .call hdr p => Sys2Proof.Machine.execCall hdr p s
  | .consoleCall hdr number car halt => Sys2Proof.Machine.execConsoleCall hdr number car halt s
  | .cancelCall hdr number car halt => Sys2Proof.Machine.execCancelCall hdr number car halt s
  | .holdSoft hdr number => Sys2Proof.Machine.execHoldSoft hdr number s
  | .holdHard hdr number => Sys2Proof.Machine.execHoldHard hdr number s
  | .dispatch hdr number => Sys2Proof.Machine.execDispatch hdr number s
  | .resume hdr number => Sys2Proof.Machine.execResume hdr number s
  | .setCap hdr number cap => Sys2Proof.Machine.execSetCap hdr number cap s
  | .setMode hdr number mode => Sys2Proof.Machine.execSetMode hdr number mode s
  | .setFlag hdr number flag value => Sys2Proof.Machine.execSetFlag hdr number flag value s
  | .enterService hdr number => Sys2Proof.Machine.execEnterService hdr number s
  | .leaveService hdr number => Sys2Proof.Machine.execLeaveService hdr number s
  | .unknownRequest hdr number kind => Sys2Proof.Machine.execUnknownRequest hdr number kind s
  | .driveState hdr p => Sys2Proof.Machine.execDriveState hdr p s
  | .readyTimerExpiry => Sys2Proof.Machine.execReadyTimerExpiry s
  | .torqueProofTimerExpiry => Sys2Proof.Machine.execTorqueProofTimerExpiry s
  | .statusTimerExpiry => Sys2Proof.Machine.execStatusTimerExpiry s
  | .doorState hdr p => Sys2Proof.Machine.execDoorState hdr p s
  | .doorAnswerWindowExpiry car side => Sys2Proof.Machine.execDoorAnswerWindowExpiry car side s
  | .closeTimerExpiry car compartment side => Sys2Proof.Machine.execCloseTimerExpiry car compartment side s
  | .stateTimerExpiry seq => Sys2Proof.Machine.execStateTimerExpiry seq s
  | .pulseStartOffset entry => Sys2Proof.Machine.execPulseStartOffset entry s
  | .pulseEndOffset entry => Sys2Proof.Machine.execPulseEndOffset entry s
  | .gateRequest hdr p => Sys2Proof.Machine.execGateRequest hdr p s
  | .fareAnswer hdr p => Sys2Proof.Machine.execFareAnswer hdr p s
  | .fareDeadlineExpiry slot => Sys2Proof.Machine.execFareDeadlineExpiry slot s
  | .gatePassage hdr p => Sys2Proof.Machine.execGatePassage hdr p s
  | .waitPassDeadlineExpiry slot => Sys2Proof.Machine.execWaitPassDeadlineExpiry slot s
  | .mgmtRead hdr p => Sys2Proof.Machine.execMgmtRead hdr p s
  | .mgmtWrite hdr p => Sys2Proof.Machine.execMgmtWrite hdr p s
  | .commit hdr tag arg => Sys2Proof.Machine.execCommit hdr tag arg s
  | .abandon hdr tag arg => Sys2Proof.Machine.execAbandon hdr tag arg s
  | .setLock hdr tag arg => Sys2Proof.Machine.execSetLock hdr tag arg s
  | .nextNotice hdr tag arg => Sys2Proof.Machine.execNextNotice hdr tag arg s
  | .clearCounters hdr tag arg => Sys2Proof.Machine.execClearCounters hdr tag arg s
  | .invalidateCache hdr tag arg => Sys2Proof.Machine.execInvalidateCache hdr tag arg s
  | .clearGate hdr tag arg => Sys2Proof.Machine.execClearGate hdr tag arg s
  | .store hdr tag arg => Sys2Proof.Machine.execStore hdr tag arg s
  | .storeComplete agrees => Sys2Proof.Machine.execStoreComplete agrees s
  | .reload hdr tag arg => Sys2Proof.Machine.execReload hdr tag arg s
  | .powerLoss => Sys2Proof.Machine.execPowerLoss s
  | .unknownMgmtOperation hdr tag op arg => Sys2Proof.Machine.execUnknownMgmtOperation hdr tag op arg s

end Sys2Proof.Machine
end

