-- ==== Sys2Proof/Machine/Time.lean ====
section
/-!
DEFINITION. The passing of time (notes/assumptions/5): one millisecond of a running part. Local time, the age of a car speed and the
time since a pulse's event go up; every running timer goes down and stays at 0 until its expiry, which is a command of its own.
-/

namespace Sys2Proof.Machine

/-- A timer one millisecond later: a stopped one stays stopped. -/
def Timer.less (t : Timer) : Timer := t.map fun n => n - 1

/-- A channel one millisecond later. -/
def ChannelState.later (c : ChannelState) : ChannelState := { c with silence := Timer.less c.silence }

/-- A car record one millisecond later (R13, R14, R20). -/
def CarRecord.later (c : CarRecord) : CarRecord :=
  { c with
    speedAge := if c.speed.isSome then c.speedAge + 1 else c.speedAge
    loadTimer := Timer.less c.loadTimer
    reportTimer := Timer.less c.reportTimer
    slipTimer := Timer.less c.slipTimer }

/-- The position unit one millisecond later. -/
def Position.later (p : Position) : Position :=
  { p with
    chan := ⟨p.chan.a.later, p.chan.b.later⟩
    standstillTimer := Timer.less p.standstillTimer
    lineSampleTimer := Timer.less p.lineSampleTimer
    discrepancyTimer := Timer.less p.discrepancyTimer
    cars := ⟨p.cars.one.later, p.cars.two.later⟩ }

/-- The brake supervisor one millisecond later: its answer window and its deceleration check. -/
def Supervisor.later (b : Supervisor) : Supervisor :=
  { b with
    outstanding := b.outstanding.map fun o => { o with window := Timer.less o.window }
    decel := b.decel.map fun d => { d with remaining := d.remaining - 1 } }

/-- The trip record one millisecond later. -/
def Trip.later (t : Trip) : Trip :=
  { t with
    readyTimer := Timer.less t.readyTimer
    torqueTimer := Timer.less t.torqueTimer
    statusTimer := Timer.less t.statusTimer }

/-- A side of a car's doors one millisecond later: close timers and answer window. -/
def SideDoors.later (d : SideDoors) : SideDoors :=
  { d with
    doors := d.doors.map fun r => { r with closeTimer := Timer.less r.closeTimer }
    outstanding := d.outstanding.map fun o => { o with window := Timer.less o.window } }

/-- The doors of a car one millisecond later. -/
def CarDoors.later (d : CarDoors) : CarDoors := { d with sides := ⟨d.sides.left.later, d.sides.right.later⟩ }

/-- A sequencer record one millisecond later. -/
def SeqRecord.later (r : SeqRecord) : SeqRecord := { r with timer := Timer.less r.timer }

/-- A pulse one millisecond later. -/
def PulseRun.later (r : PulseRun) : PulseRun := { r with since := r.since.map fun n => n + 1 }

/-- The gate unit one millisecond later: the deadlines of its entries. -/
def GateUnit.later (g : GateUnit) : GateUnit :=
  { g with queue := g.queue.map fun v => { v with deadline := Timer.less v.deadline } }

/-- A port one millisecond later. -/
def Port.later (p : Port) : Port :=
  { p with silence := Timer.less p.silence, syncWindow := Timer.less p.syncWindow, idleTimer := Timer.less p.idleTimer }

/-- A discrete input one millisecond later. -/
def DinRecord.later (d : DinRecord) : DinRecord := { d with timer := Timer.less d.timer }

/-- One millisecond passes. A part that is off or held in reset keeps no time. -/
def tick (s : State) : State :=
  if s.power = .RUNNING then
    { s with
      localMs := s.localMs + 1
      pos := s.pos.later
      filter := { s.filter with timer := Timer.less s.filter.timer }
      brake := s.brake.later
      trip := s.trip.later
      doors := ⟨s.doors.one.later, s.doors.two.later⟩
      seqs := s.seqs.map SeqRecord.later
      pulses := s.pulses.map PulseRun.later
      gates := s.gates.later
      ports := ⟨s.ports.c.later, s.ports.f.later⟩
      dins := s.dins.map DinRecord.later }
  else s

end Sys2Proof.Machine
end

