-- ==== Sys2Proof/Machine/Step.lean ====
section
/-!
DEFINITION. One step: the command at the front of the queue, or, on an empty queue, the passing of one millisecond. The passing of
time itself stands in Machine/Time.lean.
-/

namespace Sys2Proof.Machine

/-- One step: the command that waits longest is carried out with the rest of the queue behind it; a part with no command waiting
lets one millisecond pass (notes/assumptions/5). -/
def step (s : State) : Host.Outcome State Fault Refusal :=
  match s.pending with
  | [] => .next (tick s)
  | c :: rest => exec c { s with pending := rest }

/-- The state with the command that a table word spells at the front of its queue; unchanged where the word spells none
(notes/assumptions/1). -/
def State.withFetchWord (s : State) (nbits w : Nat) : State :=
  match decodeTableWord nbits w with
  | some c => { s with pending := c :: s.pending }
  | none => s

end Sys2Proof.Machine
end

