-- ==== Sys2Proof/Safety.lean ====
section
/-!
DEFINITION. What counts as a safe run, in the terms the statements use: the invariants that the manual states of the part, what
carrying announcements through leaves as it was, and when a frame is accepted.
-/

namespace Sys2Proof.Machine

/-! ## Invariants -/

/-- R62: the commanded stage is the highest that an active cause, a set latch or the trip request demands. -/
def stageInForce (s : State) : Bool := s.brake.commanded == demandedStage s.brake

/-- The six keys of R168. -/
def urgentKeyOk (f : OutFrame) : Bool :=
  ((contentKind f.content == 0x20#8) && ((f.role == some .BRAKE) || (f.role == some .CAR_1) || (f.role == some .CAR_2))) ||
    ((contentKind f.content == 0x09#8) && (f.role == some .DRIVE)) ||
    ((contentKind f.content == 0x21#8) && ((f.role == some .CAR_1) || (f.role == some .CAR_2)))

/-- Whether no two frames of a list have one urgent key. -/
def keysDistinct : List OutFrame → Bool
  | [] => true
  | f :: fs => !fs.any (sameKey f) && keysDistinct fs

/-- R168: the urgent queue of port C is empty, that of port F holds frames of the six keys, each key once. -/
def urgentQueuesOk (s : State) : Bool :=
  s.ports.c.urgent.isEmpty && s.ports.f.urgent.all urgentKeyOk && keysDistinct s.ports.f.urgent

/-- R168: no normal queue holds more than 32 frames. -/
def normalQueuesOk (s : State) : Bool := decide (s.ports.c.normal.length ≤ 32) && decide (s.ports.f.normal.length ≤ 32)

/-- The (car, halt) pairs of a plan, in order. -/
def planPairs (plan : List Stop) : List (CarId × Halt) := (plan.flatMap stopPairs).map fun p => (p.car, p.halt)

/-- R77: at most 9 stops, and no (car, halt) pair twice. -/
def planOk (s : State) : Bool := decide (s.trip.plan.length ≤ 9) && decide (planPairs s.trip.plan).Nodup

/-- R146: no place of the validation queue holds two entries. -/
def slotsDistinct (s : State) : Bool := decide (s.gates.queue.map VEntry.slot).Nodup

/-- R151: no gate has more than one entry in WAIT_PASS. -/
def onePassPerGate (s : State) : Bool :=
  decide ((s.gates.queue.filter fun v => v.state == .WAIT_PASS).map VEntry.gate).Nodup

/-- R143: at every halt the admitted and the reserved count stay within the capacity snapshot less the base snapshot. -/
def windowsWithinRoom (s : State) : Bool :=
  s.gates.windows.toList.all fun w =>
    match w with
    | some w => decide (w.admitted + w.reserved ≤ w.capacity - w.base)
    | none => true

/-- R181: every occurrence count stops at 255. -/
def noticeCountsOk (s : State) : Bool := s.mgmt.notices.toList.all fun r => decide (r.count ≤ 255)

/-! ## What carrying announcements through never changes -/

/-- The parts of a port that its output queues and the two queue counters leave out. -/
structure PortRest where
  link          : LinkState
  silence       : Timer
  syncCount     : Nat
  syncWindow    : Timer
  sending       : Option OutFrame
  idleTimer     : Timer
  received      : Nat
  checkFailed   : Nat
  unknownSource : Nat
  kindRefused   : Nat
  misaddressed  : Nat
  deriving DecidableEq, Repr

/-- A port less its output queues and their counters. -/
def Port.rest (p : Port) : PortRest :=
  ⟨p.link, p.silence, p.syncCount, p.syncWindow, p.sending, p.idleTimer, p.counters.received, p.counters.checkFailed,
    p.counters.unknownSource, p.counters.kindRefused, p.counters.misaddressed⟩

/-- What no announcement changes: inputs, positions, time, links, group B, the staged generations, locks and store, and of the
other blocks the fields that only a command of their own writes. -/
structure Rest where
  power        : Power
  resetLow     : Bool
  localMs      : Nat
  pos          : Position
  sigDriven    : Bool
  dins         : Vector DinRecord 8
  activeB      : GroupB
  staged       : Tables
  pending      : List Instr
  locks        : Locks
  lockDefaults : Locks
  ownAddress   : Byte
  nodeAddress  : Byte
  commitB      : CommitStatus
  loadedFrom   : LoadedFrom
  storeLast    : StoreResult
  flight       : Option StoreFlight
  store        : ConfigStore
  portC        : PortRest
  portF        : PortRest
  mode         : Mode
  hold         : HoldRequest
  flags        : Vector Bool 4
  lastDrive    : Option DriveStateP
  statusTimer  : Timer
  lossInForce  : PerCar Bool
  stale        : Nat
  applied      : Option Stage
  clamps       : Nat
  rewrites     : Nat
  ignored      : Nat
  heard        : PerCar Bool
  linkFault    : PerCar Bool
  serverLost   : Bool
  timeouts     : Nat
  queryCounter : BitVec 16
  unverified   : Vector Nat 6
  exits        : Vector Nat 6
  deriving DecidableEq, Repr

/-- The part of a state that carrying announcements through never changes. -/
def State.rest (s : State) : Rest where
  power := s.power
  resetLow := s.resetLow
  localMs := s.localMs
  pos := s.pos
  sigDriven := s.sigDriven
  dins := s.dins
  activeB := s.active.b
  staged := s.staged
  pending := s.pending
  locks := s.mgmt.locks
  lockDefaults := s.mgmt.lockDefaults
  ownAddress := s.mgmt.ownAddress
  nodeAddress := s.mgmt.nodeAddress
  commitB := s.mgmt.commitB
  loadedFrom := s.mgmt.loadedFrom
  storeLast := s.mgmt.storeLast
  flight := s.mgmt.flight
  store := s.mgmt.store
  portC := s.ports.c.rest
  portF := s.ports.f.rest
  mode := s.trip.mode
  hold := s.trip.hold
  flags := s.trip.flags
  lastDrive := s.trip.lastDrive
  statusTimer := s.trip.statusTimer
  lossInForce := s.brake.lossInForce
  stale := s.brake.stale
  applied := s.brake.applied
  clamps := s.filter.clamps
  rewrites := s.filter.rewrites
  ignored := s.filter.ignored
  heard := ⟨s.doors.one.heard, s.doors.two.heard⟩
  linkFault := ⟨s.doors.one.linkFault, s.doors.two.linkFault⟩
  serverLost := s.gates.serverLost
  timeouts := s.gates.timeouts
  queryCounter := s.gates.queryCounter
  unverified := s.gates.unverified
  exits := s.gates.exits

/-! ## Quiet states and accepted frames -/

/-- A state less the announcements that are still to be carried through. -/
def State.bare (s : State) : State := { s with agenda := [] }

/-- A state in which nothing waits to be carried through: no announcement, and no departure whose conditions hold. -/
def quiet (s : State) : Bool := s.agenda.isEmpty && !((s.trip.state == .READY) && departureReady s)

/-- A valid frame is received on a port that is UP then: the link record and the received counter (R159, R163). -/
def heardOn (q : PortId) (s : State) : State :=
  modCounters q (fun c => { c with received := satInc c.received }) (modPort q linkHears s)

/-- Whether a frame with a payload passes the steps of acceptance, with the entry that its source is taken as (R163). -/
def acceptedFrom (s : State) (hdr : Header) (pl : Payload) (e : NodeEntry) : Prop :=
  s.power = .RUNNING ∧ (linkHears (s.ports.get hdr.port)).link = .UP ∧ sourceEntry s hdr (payloadKind pl) = some e ∧
    entryAllows e pl = true ∧ destinationOk s hdr pl = true

/-! ## What samples and reports lead to (R9, R10, R19, R20), and when a departure may go (R86)

Relations between two states and conditions of one, in the words of their rules, which several statements share. -/

/-- R9: the speed that a window of channel `ch` gives, from its oldest and its newest entry. -/
def windowSpeed (b : GroupB) (ch : Channel) (w : List SampleEntry) : Int :=
  match w.head?, w.getLast? with
  | some o, some n =>
    let raw := (n.count - o.count).toInt
    let counts : Int := if channelInverted b ch then -raw else raw
    let speed : Int := (counts.natAbs * (channelScale b ch).toNat * 10 / (n.stamp - o.stamp).toNat : Nat)
    if counts < 0 then -speed else speed
  | _, _ => 0

/-- R9, R10: the measured speed of `t` is the one that its windows give, and standstill and its timer follow from it and from those of
`s`. The sign is open where the driving channel reads 0 (notes/assumptions/9). -/
def measuredFollows (s t : State) : Prop :=
  let w (ch : Channel) : List SampleEntry := (t.pos.chan.get ch).window
  let valid (ch : Channel) : Prop := 2 ≤ (w ch).length
  let v (ch : Channel) : Int := if valid ch then windowSpeed s.active.b ch (w ch) else 0
  let mag := max (v .A).natAbs (v .B).natAbs
  let driving : Int := if valid .A then v .A else v .B
  let stopped : Prop := t.pos.standstill = false ∧ t.pos.standstillTimer = none
  (¬ valid .A → ¬ valid .B → t.pos.measured = s.pos.measured ∧ stopped) ∧
  (valid .A ∨ valid .B →
    t.pos.measured.natAbs = mag ∧ (0 < driving → 0 ≤ t.pos.measured) ∧ (driving < 0 → t.pos.measured ≤ 0) ∧
    (s.params.standstillSpeed.toNat < mag → stopped) ∧
    (mag ≤ s.params.standstillSpeed.toNat → t.pos.standstill = s.pos.standstill ∧
      t.pos.standstillTimer = if s.pos.standstill = false ∧ s.pos.standstillTimer = none then
        some s.params.standstillTime.toNat else s.pos.standstillTimer))

/-- R19: the discrepancy test of `t`, reached from `s` by a sample that leaves both channels valid. -/
def discrepancyFollows (s t : State) : Prop :=
  let w (ch : Channel) : List SampleEntry := (t.pos.chan.get ch).window
  let difference := (windowSpeed s.active.b .A (w .A) - windowSpeed s.active.b .B (w .B)).natAbs
  let tolerance := 100 + t.pos.measured.natAbs / 50
  2 ≤ (w .A).length → 2 ≤ (w .B).length →
    (tolerance < difference → t.pos.discrepancy = s.pos.discrepancy ∧
      t.pos.discrepancyTimer = if s.pos.discrepancyTimer = none ∧ s.pos.discrepancy = false then some 100
        else s.pos.discrepancyTimer) ∧
    (difference ≤ tolerance → t.pos.discrepancy = false ∧ t.pos.discrepancyTimer = none)

/-- R20: the slip test of car `k` in `t`, reached from `s`, with the speed of its latest report and the measured speed. -/
def slipFollows (k : CarId) (s t : State) : Prop :=
  let old := s.pos.cars.get k
  let new := t.pos.cars.get k
  let ended : Prop := new.slip = false ∧ new.slipTimer = none
  (new.linkUp = false → new.slip = old.slip ∧ new.slipTimer = old.slipTimer) ∧
  (new.linkUp = true → new.speed = none ∨ drivingChannel t.pos = none → ended) ∧
  (new.linkUp = true → drivingChannel t.pos ≠ none → ∀ x, new.speed = some x →
    let up : Int := if k = .car1 then x else -x
    (300 < (up - t.pos.measured).natAbs → new.slip = old.slip ∧
      new.slipTimer = if old.slipTimer = none ∧ old.slip = false then some 200 else old.slipTimer) ∧
    ((up - t.pos.measured).natAbs ≤ 300 → ended))

/-- R86: the conditions on which READY passes to DEPARTING, with `plan` as the plan. -/
def departureAble (s : State) (plan : List Stop) : Prop :=
  (∀ k sd c, (((s.doors.get k).sides.get sd).doors.get c).state = .LOCKED) ∧
  (∀ v ∈ s.gates.queue, v.state ≠ .WAIT_PASS) ∧
  (∀ k h, s.trip.berth.get k = some h → (s.seqs.get h).published.getLsbD 0 = false) ∧
  s.brake.latchS = none ∧ s.brake.latchE = none ∧ s.brake.latchR = none ∧
  ((∀ k, (s.pos.cars.get k).referenced = true) ∨ s.trip.mode = .CREEP) ∧
  plan ≠ [] ∧ (s.dins.get 0).filtered = some .CLOSED ∧ (∃ d, s.trip.lastDrive = some d ∧ d.ready = true)

/-- R85 to R87: `t` is `s` with a departure from `o` toward `plan` in READY, or, where the conditions of R86 hold, in DEPARTING with the
torque proof timer running and DEPARTURE_ACCEPTED given; the hold request is NONE. -/
def departs (o : Origin) (plan : List Stop) (s t : State) : Prop :=
  let ready : Trip := { s.trip with
    state := .READY
    plan := plan
    hold := .NONE
    origin := some o
    virtualStop := none
    readyTimer := some (s.params.readyTimeout.toNat * 1000)
    torqueTimer := none }
  (¬ departureAble s plan → t.trip = ready ∧ t.pulses = s.pulses) ∧
  (departureAble s plan → t.pulses = (giveEvent .departureAccepted s).pulses ∧
    t.trip = { ready with
      state := .DEPARTING, readyTimer := none, torqueTimer := some s.params.torqueProofTime.toNat })

end Sys2Proof.Machine
end

