-- ==== Sys2Proof/Certificates/Slice0/Obligations.lean ====
section
/-!
DEFINITION. The statements for the provers. Where a command announces what it did, `u` is the state after the command itself, with
its announcements in the agenda, and the next state is `settle u`; what carrying them through leaves as it was stands in
`State.rest` (Sys2Proof/Safety.lean), and each such statement says what that part of the next state is.
-/

open Sys2Proof Sys2Proof.Machine

/-! ## Steps -/

/-- A step runs the command at the front of the queue with the rest of the queue behind it. -/
def Obligations.StepRunsTheFrontCommand : Prop :=
  ∀ (c : Instr) (rest : List Instr) (s : State),
    step { s with pending := c :: rest } = exec c { s with pending := rest }

/-- The model's choice (notes/assumptions/5): a step on an empty queue lets 1 ms pass in a running part. Local time, the age of a present
car speed and the time since a pulse's event go up by 1, every running timer goes down by 1 and stays at 0, and nothing else changes; a
part that does not run keeps no time. -/
def Obligations.EmptyQueueLetsOneMillisecondPass : Prop :=
  ∀ s : State, s.pending = [] →
    let less (x : Timer) : Timer := x.map fun n => n - 1
    (s.power ≠ .RUNNING → step s = .next s) ∧
    (s.power = .RUNNING → ∃ t, step s = .next t ∧
      t.localMs = s.localMs + 1 ∧
      (∀ ch, t.pos.chan.get ch = { s.pos.chan.get ch with silence := less (s.pos.chan.get ch).silence }) ∧
      (∀ k, let c := s.pos.cars.get k
        t.pos.cars.get k = { c with
          speedAge := if c.speed = none then c.speedAge else c.speedAge + 1
          loadTimer := less c.loadTimer
          reportTimer := less c.reportTimer
          slipTimer := less c.slipTimer }) ∧
      t.pos = { s.pos with
        chan := t.pos.chan
        cars := t.pos.cars
        standstillTimer := less s.pos.standstillTimer
        lineSampleTimer := less s.pos.lineSampleTimer
        discrepancyTimer := less s.pos.discrepancyTimer } ∧
      t.filter = { s.filter with timer := less s.filter.timer } ∧
      t.brake = { s.brake with
        outstanding := s.brake.outstanding.map fun o => { o with window := less o.window }
        decel := s.brake.decel.map fun d => { d with remaining := d.remaining - 1 } } ∧
      t.trip = { s.trip with
        readyTimer := less s.trip.readyTimer
        torqueTimer := less s.trip.torqueTimer
        statusTimer := less s.trip.statusTimer } ∧
      (∀ k, t.doors.get k = { s.doors.get k with sides := (t.doors.get k).sides }) ∧
      (∀ k sd, let d := (s.doors.get k).sides.get sd
        (t.doors.get k).sides.get sd = { d with
          doors := ((t.doors.get k).sides.get sd).doors
          outstanding := d.outstanding.map fun o => { o with window := less o.window } } ∧
        ∀ c, ((t.doors.get k).sides.get sd).doors.get c =
          { d.doors.get c with closeTimer := less (d.doors.get c).closeTimer }) ∧
      (∀ q, t.seqs.get q = { s.seqs.get q with timer := less (s.seqs.get q).timer }) ∧
      (∀ i, t.pulses.get i = { s.pulses.get i with since := (s.pulses.get i).since.map fun n => n + 1 }) ∧
      t.gates = { s.gates with queue := s.gates.queue.map fun v => { v with deadline := less v.deadline } } ∧
      (∀ q, t.ports.get q = { s.ports.get q with
        silence := less (s.ports.get q).silence
        syncWindow := less (s.ports.get q).syncWindow
        idleTimer := less (s.ports.get q).idleTimer }) ∧
      (∀ i, t.dins.get i = { s.dins.get i with timer := less (s.dins.get i).timer }) ∧
      t = { s with
        localMs := t.localMs, pos := t.pos, filter := t.filter, brake := t.brake, trip := t.trip, doors := t.doors, seqs := t.seqs,
        pulses := t.pulses, gates := t.gates, ports := t.ports, dins := t.dins })

/-! ## Ports and links -/

/-- IDLE_MARK serves the link record of its port and changes nothing else; INVALID_RECEPTION: an invalid frame on an UP port adds 1 to check
failed, every other invalid reception changes nothing; SILENCE_TIMER_EXPIRY takes the port DOWN, with PORT_DOWN when it was SYNCING or
UP, and SYNC_WINDOW_EXPIRY sets the count to 0 (R158, R159, R160).
That a broken idle mark is counted nowhere, and a failed frame as check failed alone, is read from the rules (notes/assumptions/24, 55);
that an expiry without its timer has no effect is the model's choice (notes/assumptions/6). -/
def Obligations.ReceptionsAndTimersServeTheLink : Prop :=
  (∀ (q : PortId) (s : State), s.power = .RUNNING →
     let p := s.ports.get q
     let next (p' : Port) : Prop := exec (.idleMark q) s = .next { s with ports := s.ports.set q p' }
     (p.link = .DOWN → next { p with link := .SYNCING, silence := some 20, syncCount := 1, syncWindow := some 30 }) ∧
     (p.link = .UP → next { p with silence := some 20 }) ∧
     (p.link = .SYNCING → p.syncWindow = none → next { p with silence := some 20, syncCount := 1, syncWindow := some 30 }) ∧
     (p.link = .SYNCING → p.syncWindow ≠ none → p.syncCount = 2 →
       next { p with link := .UP, silence := some 20, syncCount := 0, syncWindow := none }) ∧
     (p.link = .SYNCING → p.syncWindow ≠ none → p.syncCount < 2 →
       next { p with silence := some 20, syncCount := p.syncCount + 1 })) ∧
  (∀ (q : PortId) (what : ReceptionKind) (s : State), s.power = .RUNNING →
     let p := s.ports.get q
     let counted : PortCounters := { p.counters with checkFailed := satInc p.counters.checkFailed }
     exec (.invalidReception q what) s = .next
       (if p.link = .UP ∧ what = .frame then { s with ports := s.ports.set q { p with counters := counted } } else s)) ∧
  (∀ (q : PortId) (s : State), s.power = .RUNNING →
     let p := s.ports.get q
     let down : State := { s with ports := s.ports.set q { p with link := .DOWN, silence := none, syncCount := 0, syncWindow := none } }
     (p.silence ≠ none → p.link ≠ .DOWN → exec (.silenceTimerExpiry q) s = .next (occur .PORT_DOWN down)) ∧
     (p.silence ≠ none → p.link = .DOWN → exec (.silenceTimerExpiry q) s = .next down) ∧
     (p.silence = none → exec (.silenceTimerExpiry q) s = .next s) ∧
     (p.syncWindow ≠ none →
       exec (.syncWindowExpiry q) s = .next { s with ports := s.ports.set q { p with syncCount := 0, syncWindow := none } }) ∧
     (p.syncWindow = none → exec (.syncWindowExpiry q) s = .next s))

/-- FRAME_WHILE_SYNCING: a valid frame on a port that is DOWN or SYNCING serves the count and is discarded; the third within the window
brings the port UP and is passed to acceptance: here as a frame of an unknown source, and as a DRIVE_STATE (R159, R163). -/
def Obligations.FrameWhileSyncingServesTheLink : Prop :=
  ∀ (q : PortId) (f : RawFrame) (s : State), s.power = .RUNNING → rawValid f = true →
    let p := s.ports.get q
    let next (p' : Port) : Prop := exec (.frameWhileSyncing q f) s = .next { s with ports := s.ports.set q p' }
    (s.agenda = [] →
      (p.link = .DOWN → next { p with link := .SYNCING, silence := some 20, syncCount := 1, syncWindow := some 30 }) ∧
      (p.link = .SYNCING → p.syncWindow = none → next { p with silence := some 20, syncCount := 1, syncWindow := some 30 }) ∧
      (p.link = .SYNCING → p.syncWindow ≠ none → p.syncCount < 2 →
        next { p with silence := some 20, syncCount := p.syncCount + 1 }) ∧
      (p.link = .SYNCING → p.syncWindow ≠ none → p.syncCount = 2 → sourceEntry s ⟨q, f.dst, f.src⟩ f.kind = none →
        next { p with
          link := .UP
          silence := some 20
          syncCount := 0
          syncWindow := none
          counters := { p.counters with
            received := satInc p.counters.received
            unknownSource := satInc p.counters.unknownSource } })) ∧
    (∀ d, readPayload f.kind f.payload = some (.driveState d) →
      exec (.frameWhileSyncing q f) s = exec (.driveState ⟨q, f.dst, f.src⟩ d) s)

/-- UNACCEPTED_FRAME: a valid frame on an UP port is received, and the first step of acceptance that fails discards it and
adds 1 to its counter; nothing else changes (R163, R164, R165). -/
def Obligations.FirstFailedStepCountsTheFrame : Prop :=
  ∀ (q : PortId) (f : RawFrame) (s : State), s.power = .RUNNING → s.agenda = [] → rawValid f = true →
    (s.ports.get q).link = .UP →
    let p := s.ports.get q
    let hdr : Header := ⟨q, f.dst, f.src⟩
    let heard (c : PortCounters) : Port :=
      { p with silence := some 20, counters := { c with received := satInc p.counters.received } }
    let next (c : PortCounters) : Prop :=
      exec (.unacceptedFrame q f) s = .next { s with ports := s.ports.set q (heard c) }
    (sourceEntry s hdr f.kind = none → next { p.counters with unknownSource := satInc p.counters.unknownSource }) ∧
    (∀ e, sourceEntry s hdr f.kind = some e →
      (readPayload f.kind f.payload = none → next { p.counters with kindRefused := satInc p.counters.kindRefused }) ∧
      (∀ pl, readPayload f.kind f.payload = some pl →
        (entryAllows e pl = false → next { p.counters with kindRefused := satInc p.counters.kindRefused }) ∧
        (entryAllows e pl = true → destinationOk s hdr pl = false →
          next { p.counters with misaddressed := satInc p.counters.misaddressed })))

/-- TRANSIT_FRAME: an accepted frame of a transit kind enters the normal queue of the other port with every field as it
was, its length and its check with it, and nothing else changes but the arrival port's link record and received counter (R164, R167). -/
def Obligations.TransitFrameIsForwardedUnchanged : Prop :=
  ∀ (q : PortId) (f : RawFrame) (s : State) (e d : NodeEntry), s.power = .RUNNING → s.agenda = [] → rawValid f = true →
    0x80 ≤ f.kind.toNat → (s.ports.get q).link = .UP → nodeLookup s.active.b f.src q = some e → yes e.transit = true →
    f.dst ≠ s.mgmt.ownAddress → nodeLookup s.active.b f.dst (otherPort q) = some d →
    let x : OutFrame := ⟨f.dst, f.src, none, .transit f.kind f.payload⟩
    exec (.transitFrame q f) s = .next (placeNormal (otherPort q) x (heardOn q s)) ∧ sentFrame x = f

/-- FRAME_BEGIN: an UP port that is not transmitting begins the head of its urgent queue, or, when that is empty, of its normal queue; the
frame leaves its queue and its beginning is announced (R169, R64, R107). The beginning of a BRAKE_ORDER for the brake controller starts
the answer window of the outstanding order with its number; that of a DOOR_ORDER makes the car's queued order with its token absent and
starts the windows of the outstanding releases that hold its token (R64, R107, R169). IDLE_MARK_SEND and TRANSMISSION_COMPLETE: a mark
goes out when the idle time runs and no frame can begin, and restarts that time, as the end of a frame does (R158).
That a mark takes no time to send, that nothing follows without the timer, and that TRANSMISSION_COMPLETE without a transmission has no
effect, are the model's choices (notes/assumptions/19, 6, 59). -/
def Obligations.TransmissionsTakeUrgentFirst : Prop :=
  (∀ (q : PortId) (s : State), s.power = .RUNNING →
     let p := s.ports.get q
     let begun (p' : Port) : State := { s with ports := s.ports.set q p' }
     (p.link ≠ .UP ∨ p.sending ≠ none ∨ (p.urgent = [] ∧ p.normal = []) → exec (.frameBegin q) s = .next s) ∧
     (p.link = .UP → p.sending = none → ∀ f rest,
       (p.urgent = f :: rest →
         exec (.frameBegin q) s =
           .next (announceBegun f (begun { p with urgent := rest, sending := some f, idleTimer := none }))) ∧
       (p.urgent = [] → p.normal = f :: rest →
         exec (.frameBegin q) s =
           .next (announceBegun f (begun { p with normal := rest, sending := some f, idleTimer := none }))))) ∧
  (∀ (f : OutFrame) (n : Byte) (st : Stage) (o : BrakeOrder) (s : State), f.content = .brakeOrder n st →
    s.brake.outstanding = some o →
    announceBegun f s =
      (if f.role = some .BRAKE ∧ o.number = n then
        { s with brake := { s.brake with outstanding := some { o with window := some s.params.brakeWindow.toNat } } }
      else s)) ∧
  (∀ (f : OutFrame) (k : CarId) (o : DoorOrder) (s : State), f.content = .doorOrder k o →
    let t := announceBegun f s
    ((s.doors.get k).queued.map DoorOrder.token = some o.token → (t.doors.get k).queued = none) ∧
    ((s.doors.get k).queued.map DoorOrder.token ≠ some o.token → (t.doors.get k).queued = (s.doors.get k).queued) ∧
    (∀ sd,
      (((t.doors.get k).sides.get sd).doors = ((s.doors.get k).sides.get sd).doors) ∧
      (((t.doors.get k).sides.get sd).released = ((s.doors.get k).sides.get sd).released) ∧
      (∀ r, ((s.doors.get k).sides.get sd).outstanding = some r →
        ((t.doors.get k).sides.get sd).outstanding =
          some (if r.token = o.token then { r with window := some s.params.doorWindow.toNat } else r))) ∧
    { t with doors := s.doors } = s) ∧
  (∀ (q : PortId) (s : State), s.power = .RUNNING →
     let p := s.ports.get q
     let next (p' : Port) : State := { s with ports := s.ports.set q p' }
     (p.sending = none → p.idleTimer ≠ none → p.link ≠ .UP ∨ (p.urgent = [] ∧ p.normal = []) →
       exec (.idleMarkSend q) s = .next (next { p with idleTimer := some 5 })) ∧
     (p.sending ≠ none ∨ p.idleTimer = none ∨ (p.link = .UP ∧ p.sending = none ∧ (p.urgent ≠ [] ∨ p.normal ≠ [])) →
       exec (.idleMarkSend q) s = .next s) ∧
     (p.sending ≠ none → exec (.transmissionComplete q) s = .next (next { p with sending := none, idleTimer := some 5 })) ∧
     (p.sending = none → exec (.transmissionComplete q) s = .next s))

/-- RAW_LEVEL_CHANGE and INPUT_FILTER_EXPIRY: the filter record of the input, and nothing else of what announcements never
change; an accepted level of DIN0 that is a change begins or ends ESTOP, and its beginning sets latch E; one of DIN1 has the
departure without request tested; no other change touches the brake record before its announcements (R59, R85, R170).
That an expiry without its timer has no effect is the model's choice (notes/assumptions/6). -/
def Obligations.InputFilterFollowsTheRawLevel : Prop :=
  ∀ (i : Fin 8) (l : Level) (s : State), s.power = .RUNNING →
    let d := s.dins.get i
    let ms := (s.active.b.filterTimes.get i).toNat
    let level (x : DinRecord) : Level := if x.filtered = some .CLOSED then .CLOSED else .OPEN
    let next (c : Instr) (d' : DinRecord) : Prop :=
      ∃ u, exec c s = .next (settle u) ∧ (settle u).rest = { s.rest with dins := vset s.dins i d' } ∧
        (i ≠ 0 ∨ level d' = level d → u.brake = s.brake) ∧
        (i = 0 → level d' ≠ level d → (.ESTOP ∈ u.brake.active ↔ level d' = .OPEN) ∧
          (level d' = .OPEN → .ESTOP ∉ s.brake.active → u.brake.latchE ≠ none) ∧
          (level d' = .CLOSED → u.brake.latchE = s.brake.latchE)) ∧
        (i = 1 → level d' ≠ level d → .tripAuto ∈ u.agenda)
    (d.raw = l → next (.rawLevelChange i l) d) ∧
    (d.raw ≠ l → d.filtered = some l → next (.rawLevelChange i l) { d with raw := l, timer := none }) ∧
    (d.raw ≠ l → d.filtered ≠ some l → ms = 0 → next (.rawLevelChange i l) ⟨l, some l, none⟩) ∧
    (d.raw ≠ l → d.filtered ≠ some l → ms ≠ 0 → next (.rawLevelChange i l) { d with raw := l, timer := some ms }) ∧
    (d.timer ≠ none → next (.inputFilterExpiry i) { d with filtered := some d.raw, timer := none }) ∧
    (d.timer = none → next (.inputFilterExpiry i) d)

/-! ## Position -/

/-- SAMPLE that is discarded: a duplicate is counted; a head fault empties the window, counts a rejection and sets the
consecutive-rejection count to 0; an implausible speed counts a rejection, and the third in a row empties the window. None moves the
rope or a car, or changes the other channel. Where the window of a valid channel is emptied, the measured speed is that of what is
left and CHANNEL_DISCREPANCY ends; else neither changes (R5, R8, R9, R10, R19). -/
def Obligations.DiscardedSampleMovesNothing : Prop :=
  ∀ (hdr : Header) (p : SampleP) (e : NodeEntry) (s : State), acceptedFrom s hdr (.sample p) e →
    let c := s.pos.chan.get p.channel
    let scale := (channelScale s.active.b p.channel).toNat
    let kept (t : State) : Prop :=
      t.pos.ropeTravel = s.pos.ropeTravel ∧
        (∀ k, (t.pos.cars.get k).accumulator = (s.pos.cars.get k).accumulator ∧
          (t.pos.cars.get k).referenced = (s.pos.cars.get k).referenced) ∧
        (∀ ch, ch ≠ p.channel → t.pos.chan.get ch = s.pos.chan.get ch)
    let unmoved (t : State) : Prop :=
      t.pos.measured = s.pos.measured ∧ t.pos.standstill = s.pos.standstill ∧ t.pos.standstillTimer = s.pos.standstillTimer ∧
        t.pos.discrepancy = s.pos.discrepancy ∧ t.pos.discrepancyTimer = s.pos.discrepancyTimer
    let emptied (t : State) : Prop :=
      (c.window.length < 2 → unmoved t) ∧
      (2 ≤ c.window.length → measuredFollows s t ∧ t.pos.discrepancy = false ∧ t.pos.discrepancyTimer = none)
    (∀ n, p.status = .NORMAL → newest c.window = some n → p.stamp = n.stamp →
      ∃ t, exec (.sample hdr p) s = .next t ∧
        t.pos.chan.get p.channel = { c with duplicates := satInc c.duplicates } ∧ kept t ∧ unmoved t) ∧
    (p.status = .HEAD_FAULT →
      ∃ t, exec (.sample hdr p) s = .next t ∧
        t.pos.chan.get p.channel = { c with window := [], rejections := satInc c.rejections, rejects := 0 } ∧ kept t ∧ emptied t) ∧
    (∀ n, p.status = .NORMAL → newest c.window = some n →
      let dt := (p.stamp - n.stamp).toNat
      dt ≠ 0 → dt ≤ 2000 → 25000 < (p.count - n.count).toInt.natAbs * scale * 10 / dt →
      ∃ t, exec (.sample hdr p) s = .next t ∧
        (c.rejects < 2 →
          t.pos.chan.get p.channel = { c with rejections := satInc c.rejections, rejects := c.rejects + 1 } ∧ unmoved t) ∧
        (2 ≤ c.rejects →
          t.pos.chan.get p.channel = { c with window := [], rejections := satInc c.rejections, rejects := 0 } ∧ emptied t) ∧
        kept t)

/-- SAMPLE on the driving channel: an accepted sample enters the window, restarts the silence timer and the line sample timer, ends
SAMPLE_LOSS, and moves the rope and both cars by its travel, car 2 the other way; the measured speed has the largest magnitude of the
valid channels and the sign of the driving one, and standstill, discrepancy and both slip timers follow it (R5, R6, R8, R9, R10, R18, R19,
R20).
SAMPLE that is accepted without travel: on an empty window, after a gap, and on a channel that does not drive: the window takes it, the
silence timer of the channel restarts, a valid channel restarts the line sample timer and ends SAMPLE_LOSS, and neither rope nor cars
move; the measured speed, standstill and discrepancy follow what is valid (R5, R6, R8, R9, R10, R18, R19).
The sign of the measured speed where the driving channel stands is a free value and is left open here (notes/assumptions/9). That a gap
which empties the last valid channel leaves slip and slip timer as they stand is the model's choice (notes/assumptions/41). -/
def Obligations.DrivingSampleMovesTheRope : Prop :=
  (∀ (hdr : Header) (p : SampleP) (e : NodeEntry) (n : SampleEntry) (s : State), acceptedFrom s hdr (.sample p) e →
     let ch := p.channel
     let c := s.pos.chan.get ch
     let dt := (p.stamp - n.stamp).toNat
     let raw := (p.count - n.count).toInt
     let counts : Int := if channelInverted s.active.b ch then -raw else raw
     let scale := (channelScale s.active.b ch).toNat
     let travel : Travel := BitVec.ofInt 48 (counts * scale)
     p.status = .NORMAL → newest c.window = some n → drivingChannel s.pos = some ch → dt ≠ 0 → dt ≤ 2000 →
     counts.natAbs * scale * 10 / dt ≤ 25000 →
     ∃ t, exec (.sample hdr p) s = .next t ∧
       t.pos.ropeTravel = s.pos.ropeTravel + travel ∧
       t.pos.cars.one.accumulator = s.pos.cars.one.accumulator + travel ∧
       t.pos.cars.two.accumulator = s.pos.cars.two.accumulator - travel ∧
       (∀ k, (t.pos.cars.get k).referenced = (s.pos.cars.get k).referenced) ∧
       t.pos.chan.get ch = { c with
         window := (if c.window.length < 4 then c.window else c.window.drop 1) ++ [⟨p.count, p.stamp⟩]
         rejects := 0
         silence := some s.params.sampleLossTime.toNat } ∧
       (∀ x, x ≠ ch → t.pos.chan.get x = s.pos.chan.get x) ∧
       t.pos.sampleLoss = false ∧ t.pos.lineSampleTimer = some s.params.sampleLossTime.toNat ∧
       measuredFollows s t ∧ discrepancyFollows s t ∧ ∀ k, slipFollows k s t) ∧
  (∀ (hdr : Header) (p : SampleP) (e : NodeEntry) (s : State), acceptedFrom s hdr (.sample p) e →
     let ch := p.channel
     let c := s.pos.chan.get ch
     let scale := (channelScale s.active.b ch).toNat
     let loss := s.params.sampleLossTime.toNat
     let kept (t : State) : Prop :=
       t.pos.ropeTravel = s.pos.ropeTravel ∧
         (∀ k, (t.pos.cars.get k).accumulator = (s.pos.cars.get k).accumulator ∧
           (t.pos.cars.get k).referenced = (s.pos.cars.get k).referenced ∧
           (t.pos.cars.get k).slip = (s.pos.cars.get k).slip ∧ (t.pos.cars.get k).slipTimer = (s.pos.cars.get k).slipTimer) ∧
         (∀ x, x ≠ ch → t.pos.chan.get x = s.pos.chan.get x) ∧ measuredFollows s t ∧ discrepancyFollows s t
     (newest c.window = none → p.status = .NORMAL → ∃ t, exec (.sample hdr p) s = .next t ∧
       t.pos.chan.get ch = { c with window := [⟨p.count, p.stamp⟩], silence := some loss } ∧ kept t ∧
       t.pos.lineSampleTimer = s.pos.lineSampleTimer ∧ t.pos.sampleLoss = s.pos.sampleLoss) ∧
     (∀ n, p.status = .NORMAL → newest c.window = some n → 2000 < (p.stamp - n.stamp).toNat →
       ∃ t, exec (.sample hdr p) s = .next t ∧
         t.pos.chan.get ch = { c with
           window := [⟨p.count, p.stamp⟩], gaps := satInc c.gaps, rejects := 0, silence := some loss } ∧ kept t ∧
         (2 ≤ c.window.length → t.pos.discrepancy = false ∧ t.pos.discrepancyTimer = none) ∧
         t.pos.lineSampleTimer = s.pos.lineSampleTimer ∧ t.pos.sampleLoss = s.pos.sampleLoss) ∧
     (∀ n, p.status = .NORMAL → newest c.window = some n → drivingChannel s.pos ≠ some ch →
       let dt := (p.stamp - n.stamp).toNat
       dt ≠ 0 → dt ≤ 2000 → (p.count - n.count).toInt.natAbs * scale * 10 / dt ≤ 25000 →
       ∃ t, exec (.sample hdr p) s = .next t ∧
         t.pos.chan.get ch = { c with
           window := (if c.window.length < 4 then c.window else c.window.drop 1) ++ [⟨p.count, p.stamp⟩]
           rejects := 0
           silence := some loss } ∧ kept t ∧
         t.pos.lineSampleTimer = some loss ∧ t.pos.sampleLoss = false))

/-- CHANNEL_SILENCE_EXPIRY and STANDSTILL_TIMER_EXPIRY: the silent channel loses its window; where that makes it invalid, the measured speed
follows the other one or keeps its value, standstill does not hold while none is valid, and the discrepancy ends; the standstill timer
makes standstill hold and changes nothing else of the rest of the state (R6, R9, R10, R19). -/
def Obligations.SilenceAndStandstillTimers : Prop :=
  (∀ (ch : Channel) (s : State), s.power = .RUNNING → (s.pos.chan.get ch).silence ≠ none →
    ∃ t, exec (.channelSilenceExpiry ch) s = .next t ∧
      t.pos.chan.get ch = { s.pos.chan.get ch with window := [], silence := none } ∧
      (∀ x, x ≠ ch → t.pos.chan.get x = s.pos.chan.get x) ∧
      t.pos.ropeTravel = s.pos.ropeTravel ∧
      (∀ k, (t.pos.cars.get k).accumulator = (s.pos.cars.get k).accumulator) ∧
      (2 ≤ (s.pos.chan.get ch).window.length → measuredFollows s t ∧ t.pos.discrepancy = false ∧ t.pos.discrepancyTimer = none) ∧
      ((s.pos.chan.get ch).window.length < 2 → t.pos.measured = s.pos.measured ∧ t.pos.standstill = s.pos.standstill ∧
        t.pos.standstillTimer = s.pos.standstillTimer)) ∧
  (∀ s : State, s.power = .RUNNING → s.pos.standstillTimer ≠ none →
    ∃ t, exec .standstillTimerExpiry s = .next t ∧
      t.rest = { s.rest with pos := { s.pos with standstill := true, standstillTimer := none } })

/-- SAMPLE_LOSS, CHANNEL_DISCREPANCY and SLIP: the timer stops, the state begins, its notice occurs, and its cause becomes active and
sets the latch of its stage; SAMPLE_LOSS raises a cause in service only (R18, R19, R20, R61). -/
def Obligations.FaultTimersRaiseTheirCauses : Prop :=
  ∀ s : State, s.power = .RUNNING →
    (s.pos.lineSampleTimer ≠ none →
      ∃ u, exec .sampleLoss s = .next (settle u) ∧
        (settle u).rest = { s.rest with pos := { s.pos with lineSampleTimer := none, sampleLoss := true } } ∧
        (u.mgmt.notices.get (noticeIndex .SAMPLE_LOSS)).pending = true ∧
        (s.inService = true → .SAMPLE_LOSS ∈ u.brake.active ∧ (.SAMPLE_LOSS ∉ s.brake.active → u.brake.latchE ≠ none)) ∧
        (s.inService = false → u.brake = s.brake)) ∧
    (s.pos.discrepancyTimer ≠ none →
      ∃ u, exec .channelDiscrepancy s = .next (settle u) ∧
        (settle u).rest = { s.rest with pos := { s.pos with discrepancyTimer := none, discrepancy := true } } ∧
        (u.mgmt.notices.get (noticeIndex .CHANNEL_DISCREPANCY)).pending = true ∧
        .CHANNEL_DISCREPANCY ∈ u.brake.active ∧ (.CHANNEL_DISCREPANCY ∉ s.brake.active → u.brake.latchS ≠ none)) ∧
    (∀ k, (s.pos.cars.get k).slipTimer ≠ none →
      ∃ u, exec (.slip k) s = .next (settle u) ∧
        (settle u).rest = { s.rest with
          pos := { s.pos with cars := s.pos.cars.set k { s.pos.cars.get k with slipTimer := none, slip := true } } } ∧
        (u.mgmt.notices.get (noticeIndex .SLIP)).pending = true ∧
        .SLIP ∈ u.brake.active ∧ (.SLIP ∉ s.brake.active → u.brake.latchR ≠ none))

/-- CAR_REPORT: steps 1 to 4 set the car's record, the slip test is made, the link loss is no longer in force, and the door unit has
heard the car; without a marker of the table its position and the other car's record stay (R13, R15, R20, R60, R113, R166).
With a present marker while neither car is referenced: the reporting car takes the marker's position, the other the
rest of the pair sum, and both are referenced (R15, R16).
With a present marker while a car is referenced: a passing seen before is ignored; an error within the limit corrects that car alone,
one beyond it is its POSITION fault with notice and latch E; an unreferenced car is referenced; a failed pair check is the fault of both
(R15, R16, R17).
That a value outside its range is read at the nearer bound is read from R190 (notes/assumptions/37); that the age of the speed is 0 also
where the report carries none, and that a report is carried through in the position unit before its recomputations, are the model's
choices (notes/assumptions/36, 49). -/
def Obligations.CarReportsSetRecordAndPosition : Prop :=
  (∀ (hdr : Header) (p : CarReportP) (e : NodeEntry) (s : State), acceptedFrom s hdr (.carReport p) e →
     let c := s.pos.cars.get p.car
     ∃ t d, exec (.carReport hdr p) s = .next t ∧ t.pos.cars.get p.car = d ∧
       d.linkUp = true ∧ d.reportTimer = some s.params.carReportTimeout.toNat ∧
       (p.speed = 0x8000#16 → d.speed = none) ∧
       (p.speed ≠ 0x8000#16 → d.speed = some (max (-20465) (min 20465 p.speed.toInt))) ∧
       d.speedAge = 0 ∧
       (p.load = 0xFFFF#16 → d.load = c.load ∧ d.loadTimer = c.loadTimer) ∧
       (p.load ≠ 0xFFFF#16 → d.load = some (min 30000 p.load.toNat) ∧ d.loadTimer = some 30000) ∧
       d.rail = some p.rail ∧
       (markerPos s.active.b p.markerId.toNat = none →
         d.accumulator = c.accumulator ∧ d.referenced = c.referenced ∧ d.lastMarker = c.lastMarker ∧
         t.pos.cars.get (otherCar p.car) = s.pos.cars.get (otherCar p.car)) ∧
       t.pos.ropeTravel = s.pos.ropeTravel ∧ t.pos.measured = s.pos.measured ∧ slipFollows p.car s t ∧
       t.brake.lossInForce.get p.car = false ∧
       (t.doors.get p.car).heard = true) ∧
  (∀ (hdr : Header) (p : CarReportP) (e : NodeEntry) (mm : Int) (s : State), acceptedFrom s hdr (.carReport p) e →
     markerPos s.active.b p.markerId.toNat = some mm → (∀ k, (s.pos.cars.get k).referenced = false) →
     ∃ t, exec (.carReport hdr p) s = .next t ∧
       (t.pos.cars.get p.car).accumulator = BitVec.ofInt 48 (mm * 1000) ∧
       (t.pos.cars.get p.car).lastMarker = some (p.markerId.toNat, p.markerKind) ∧
       (t.pos.cars.get (otherCar p.car)).accumulator =
         BitVec.ofInt 48 ((s.active.b.pairSum.toNat : Int) * 1000) - BitVec.ofInt 48 (mm * 1000) ∧
       (t.pos.cars.get (otherCar p.car)).lastMarker = (s.pos.cars.get (otherCar p.car)).lastMarker ∧
       (∀ k, (t.pos.cars.get k).referenced = true) ∧
       t.pos.ropeTravel = s.pos.ropeTravel) ∧
  (∀ (hdr : Header) (p : CarReportP) (e : NodeEntry) (mm : Int) (s : State), acceptedFrom s hdr (.carReport p) e →
     markerPos s.active.b p.markerId.toNat = some mm →
     let c := s.pos.cars.get p.car
     let o := s.pos.cars.get (otherCar p.car)
     let error := (mm * 1000 - c.accumulator.toInt).natAbs
     let limit := s.params.correctionLimit.toNat * 1000
     let seen : Option (Nat × MarkerKind) := some (p.markerId.toNat, p.markerKind)
     let again : Prop := p.markerKind = .PASSED ∧ c.lastMarker = seen
     let unpaired : Prop := o.referenced = true ∧ s.params.pairTolerance.toNat * 1000 <
       (mm * 1000 + o.accumulator.toInt - (s.active.b.pairSum.toNat : Int) * 1000).natAbs
     let kept (x y : CarRecord) : Prop :=
       x.accumulator = y.accumulator ∧ x.referenced = y.referenced ∧ x.lastMarker = y.lastMarker
     ∃ u, exec (.carReport hdr p) s = .next (settle u) ∧
       let x := u.pos.cars.get p.car
       let y := u.pos.cars.get (otherCar p.car)
       let fault : Prop := (u.mgmt.notices.get (noticeIndex .POSITION_FAULT)).pending = true ∧ u.brake.latchE ≠ none ∧
         (.POSITION ∈ u.brake.active ↔ .POSITION ∈ s.brake.active) ∧ .recompute false ∈ u.agenda
       let applied : Prop :=
         x.accumulator = BitVec.ofInt 48 (mm * 1000) ∧ y.accumulator = o.accumulator ∧
         .recompute false ∈ u.agenda ∧ .tripArrival ∈ u.agenda ∧
         (unpaired → x.referenced = false ∧ y.referenced = false ∧ x.lastMarker = none ∧ y.lastMarker = none ∧ fault) ∧
         (¬ unpaired → x.referenced = true ∧ x.lastMarker = seen ∧ y.referenced = o.referenced ∧ y.lastMarker = o.lastMarker)
       u.pos.ropeTravel = s.pos.ropeTravel ∧
       (c.referenced = true →
         (again → kept x c ∧ kept y o) ∧
         (¬ again → limit < error →
           x.accumulator = c.accumulator ∧ x.referenced = false ∧ x.lastMarker = none ∧ kept y o ∧ fault) ∧
         (¬ again → error ≤ limit → applied)) ∧
       (c.referenced = false → o.referenced = true → applied))

/-- CAR_REPORT_TIMEOUT: the link is LOST, speed and rail state are absent, the slip timer stops and SLIP ends, the loss comes into force,
the car's door records become UNKNOWN and the car unheard; LOAD_EXPIRY: the load of the car becomes absent and nothing else changes
(R13, R14, R60, R114).
That the age of an absent speed becomes 0, and that an expiry without its timer has no effect, are the model's choices
(notes/assumptions/36, 6). -/
def Obligations.CarTimersForgetReports : Prop :=
  (∀ (k : CarId) (s : State), s.power = .RUNNING → (s.pos.cars.get k).reportTimer ≠ none →
     let lost : CarRecord := { s.pos.cars.get k with
       linkUp := false
       reportTimer := none
       speed := none
       speedAge := 0
       rail := none
       slipTimer := none
       slip := false }
     ∃ u, exec (.carReportTimeout k) s = .next (settle u) ∧
       (settle u).rest = { s.rest with
         pos := { s.pos with cars := s.pos.cars.set k lost }
         lossInForce := s.brake.lossInForce.set k true
         heard := s.rest.heard.set k false } ∧
       (u.mgmt.notices.get (noticeIndex .CAR_LINK_LOST)).pending = true ∧
       (s.pos.standstill = false → .CAR_LINK_LOST ∈ u.brake.active ∧ (.CAR_LINK_LOST ∉ s.brake.active → u.brake.latchS ≠ none)) ∧
       (∀ sd c, ((((u.doors.get k).sides.get sd).doors.get c).state = .UNKNOWN)) ∧
       (∀ sd, ((u.doors.get k).sides.get sd).released = 0#4 ∧ ((u.doors.get k).sides.get sd).outstanding = none)) ∧
  (∀ (k : CarId) (s : State), s.power = .RUNNING →
     let forgotten : CarRecord := { s.pos.cars.get k with load := none, loadTimer := none }
     ((s.pos.cars.get k).loadTimer ≠ none →
       exec (.loadExpiry k) s = .next { s with pos := { s.pos with cars := s.pos.cars.set k forgotten } }) ∧
     ((s.pos.cars.get k).loadTimer = none → exec (.loadExpiry k) s = .next s))

/-! ## Drive demand -/

/-- DEMAND with substitution OFF: the forwarded code and the clamp flag by direction, state and code, the other fields of the frame, the
two counters, the demand timer, the place of the frame and last forwarded; nothing else changes (R41 to R44, R46). With
substitution ON the frame is counted as ignored and discarded (R49).
That a code above 0xFFF is read as 0xFFF is read from R190 (notes/assumptions/37). -/
def Obligations.ConsoleDemandIsClamped : Prop :=
  (∀ (hdr : Header) (p : DemandP) (e : NodeEntry) (s : State) (code : Nat) (clamp : Bool),
     acceptedFrom s hdr (.demand p) e → quiet s = true → s.filter.substitution = false →
     let req := min 0xFFF p.code.toNat
     let v := min 0xFFE (1 + s.speed.vPerm / 5)
     let free := s.trip.state = .RUNNING ∨ (s.trip.state = .STOPPING ∧ s.brake.latchS = none)
     let last := s.filter.lastForwarded
     let underWay := s.trip.state = .DEPARTING ∨ s.trip.state = .RUNNING ∨ s.trip.state = .STOPPING
     (((p.dir ≠ s.trip.dir ∨ ¬ free) ∧ code = 1 ∧ clamp = decide (1 < req)) ∨
       (p.dir = s.trip.dir ∧ free ∧
         ((req = 0 ∧ last = none ∧ code = 1 ∧ clamp = false) ∨
           (∃ l, req = 0 ∧ last = some l ∧ code = min l v ∧ clamp = decide (v < l)) ∨
           (req = 0xFFF ∧ code = 1 ∧ clamp = true) ∨
           (req ≠ 0 ∧ req ≠ 0xFFF ∧ code = min req v ∧ clamp = decide (v < req))))) →
     let q : DemandP :=
       { code := BitVec.ofNat 16 code
         accel := BitVec.ofNat 8 (clampNat 1 (s.params.accelMax.toNat / 10) p.accel.toNat)
         dir := s.trip.dir
         flags := (p.flags &&& 0xFC#8) ||| (if underWay then p.flags &&& 0x01#8 else 0#8) ||| (if clamp then 0x02#8 else 0#8) }
     exec (.demand hdr p) s =
       .next { placeUrgent ⟨hdr.dst, hdr.src, some .DRIVE, .demand q⟩ (heardOn hdr.port s) with
         filter := { s.filter with
           lastForwarded := some code
           timer := if underWay then some s.params.demandTimeout.toNat else s.filter.timer
           clamps := if clamp then satInc s.filter.clamps else s.filter.clamps
           rewrites := if p.dir ≠ s.trip.dir then satInc s.filter.rewrites else s.filter.rewrites } }) ∧
  (∀ (hdr : Header) (p : DemandP) (e : NodeEntry) (s : State),
     acceptedFrom s hdr (.demand p) e → quiet s = true → s.filter.substitution = true →
     exec (.demand hdr p) s =
       .next { heardOn hdr.port s with filter := { s.filter with ignored := satInc s.filter.ignored } })

/-- DEMAND_TIMER_EXPIRY: the timer stops; in RUNNING and STOPPING substitution is ON and DEMAND_SUBSTITUTED occurs; in DEPARTING and RUNNING
demand lost is announced to the trip sequencer; in every other state nothing follows and nothing is announced (R46, R47). -/
def Obligations.LostDemandIsSubstituted : Prop :=
  ∀ s : State, s.power = .RUNNING → s.filter.timer ≠ none → s.agenda = [] →
    let stopped : State := { s with filter := { s.filter with timer := none } }
    let on : State := occur .DEMAND_SUBSTITUTED { s with filter := { s.filter with timer := none, substitution := true } }
    ∃ u, exec .demandTimerExpiry s = .next (settle u) ∧
      (s.trip.state = .DEPARTING → u.bare = stopped.bare ∧ u.agenda.head? = some .tripDemandLost) ∧
      (s.trip.state = .RUNNING → u.bare = on.bare ∧ u.agenda.head? = some .tripDemandLost) ∧
      (s.trip.state = .STOPPING → u.bare = on.bare ∧ .tripDemandLost ∉ u.agenda) ∧
      (s.trip.state ≠ .DEPARTING → s.trip.state ≠ .RUNNING → s.trip.state ≠ .STOPPING →
        u.bare = stopped.bare ∧ .tripDemandLost ∉ u.agenda)

/-- What the trip sequencer does when demand is lost, and at a rise to SERVICE: from RUNNING the trip enters STOPPING with a virtual stop at
the service stopping distance, or HELD where standstill holds; a departure returns to its origin; else it stays. A rise to EMERGENCY or
RAIL takes every state in service to TRIPPED; a fall above HOLD changes nothing (R32, R47, R69, R89, R92, R93). -/
def Obligations.DemandLostAndRisesStopTheTrip : Prop :=
  (∀ s : State,
    let t := takeDemandLost s
    let v := s.pos.measured.natAbs
    let ahead : Int := ((v * v / (2 * s.params.serviceDecel.toNat) + s.params.stopMargin.toNat) * 1000 : Nat)
    (s.trip.state = .RUNNING → s.pos.standstill = true → t.trip.state = .HELD ∧ t.trip.virtualStop = none) ∧
    (s.trip.state = .RUNNING → s.pos.standstill = false →
      t.trip.state = .STOPPING ∧
        t.trip.virtualStop = some (s.pos.ropeTravel + BitVec.ofInt 48 (match s.trip.dir with
          | .UP => ahead
          | .DOWN => -ahead))) ∧
    (s.trip.state = .DEPARTING →
      t.trip.state = (match s.trip.origin with
        | some .PARKED => .PARKED
        | some .AT_STOP => .AT_STOP
        | _ => .HELD) ∧
      t.trip.origin = none ∧ t.trip.torqueTimer = none ∧ .brakeTrip t.trip.state ∈ t.agenda) ∧
    (s.trip.state ≠ .RUNNING → s.trip.state ≠ .DEPARTING → t = s) ∧
    t.trip.plan = s.trip.plan ∧ t.trip.hold = s.trip.hold ∧ t.trip.berth = s.trip.berth ∧ t.trip.number = s.trip.number) ∧
  (∀ (old new : Stage) (s : State),
    let t := takeStage old new s
    (stageRank old < stageRank new →
      (new = .SERVICE → t = takeDemandLost s) ∧
      (new = .HOLD → t = s) ∧
      (new = .EMERGENCY ∨ new = .RAIL →
        (s.trip.state = .IDLE ∨ s.trip.state = .TRIPPED → t = s) ∧
        (s.trip.state ≠ .IDLE → s.trip.state ≠ .TRIPPED →
          t.trip = { s.trip with
            state := .TRIPPED, origin := none, virtualStop := none, readyTimer := none, torqueTimer := none } ∧
          .brakeTrip .TRIPPED ∈ t.agenda ∧ .recompute false ∈ t.agenda ∧ .demandTrip (some .TRIPPED) ∈ t.agenda))) ∧
    (stageRank new ≤ stageRank old → new ≠ .HOLD ∨ s.trip.state ≠ .TRIPPED → t = s))

/-! ## Brake -/

/-- BRAKE_STATE that answers no outstanding order is stale, counted and copied to the console; one that conforms to the outstanding order
ends it and sets the applied stage, and to a RELEASED order BRAKE_RELEASED is given and brake released announced; one that does not
conform is handled as an order unanswered (R65, R66, R166). -/
def Obligations.BrakeAnswersAreTakenOrStale : Prop :=
  (∀ (hdr : Header) (p : BrakeStateP) (e : NodeEntry) (s : State), acceptedFrom s hdr (.brakeState p) e → quiet s = true →
     (∀ o, s.brake.outstanding = some o → o.number ≠ p.number) →
     exec (.brakeState hdr p) s =
       .next (copyToConsole hdr.src (.brakeState p)
         { heardOn hdr.port s with brake := { s.brake with stale := satInc s.brake.stale } })) ∧
  (∀ (hdr : Header) (p : BrakeStateP) (e : NodeEntry) (o : BrakeOrder) (s : State), acceptedFrom s hdr (.brakeState p) e →
     s.agenda = [] → s.brake.outstanding = some o → o.number = p.number →
     (p.stage = o.stage ∨ (1 ≤ stageRank o.stage ∧ stageRank o.stage < stageRank p.stage)) →
     let h := heardOn hdr.port s
     let taken : State := { h with brake := { s.brake with outstanding := none, applied := some p.stage } }
     let given : State := if o.stage = .RELEASED then giveEvent .brakeReleased taken else taken
     ∃ u, exec (.brakeState hdr p) s = .next (settle u) ∧
       u.bare = (copyToConsole hdr.src (.brakeState p) given).bare ∧
       (o.stage = .RELEASED → u.agenda.head? = some .tripReleased) ∧
       (o.stage ≠ .RELEASED → .tripReleased ∉ u.agenda) ∧
       (settle u).brake.applied = some p.stage) ∧
  (∀ (hdr : Header) (p : BrakeStateP) (e : NodeEntry) (o : BrakeOrder) (s : State), acceptedFrom s hdr (.brakeState p) e →
     s.brake.outstanding = some o → o.number = p.number →
     ¬ (p.stage = o.stage ∨ (1 ≤ stageRank o.stage ∧ stageRank o.stage < stageRank p.stage)) →
     ∃ u, exec (.brakeState hdr p) s = .next (settle u) ∧ (settle u).rest = (heardOn hdr.port s).rest ∧
       (u.mgmt.notices.get (noticeIndex .BRAKE_NO_ANSWER)).pending = true ∧ u.trip = s.trip ∧
       (o.stage = .RELEASED → u.brake.wantsRelease = false ∧ .tripReleaseLost ∈ u.agenda) ∧
       (o.stage = .HOLD ∨ o.stage = .SERVICE → u.brake.latchE ≠ none ∧ 3 ≤ stageRank u.brake.commanded) ∧
       (o.stage = .EMERGENCY → u.brake.latchR ≠ none ∧ u.brake.commanded = .RAIL))

/-- BRAKE_ANSWER_WINDOW_EXPIRY: an unanswered order is no longer outstanding, BRAKE_NO_ANSWER occurs, and the supervisor climbs: a RELEASED
order back to HOLD with release failed announced, HOLD and SERVICE to latch E, EMERGENCY to latch R, RAIL no further (R66). The
deceleration check starts with a rise to EMERGENCY, and with an EMERGENCY cause under EMERGENCY while it is OFF, with the measured speed
and the minimum deceleration in force then; a rise to RAIL or a fall below EMERGENCY stops it (R67, R72). DECELERATION_CHECK_EXPIRY: the
check is OFF; a rope that is not at standstill, above the threshold and above v0 less half the emergency deceleration of the check's
start sets latch R and the stage becomes RAIL, else nothing else changes (R67). -/
def Obligations.UnansweredOrdersAndChecksRaiseTheStage : Prop :=
  (∀ (o : BrakeOrder) (s : State), s.power = .RUNNING → s.brake.outstanding = some o → o.window ≠ none →
     ∃ u, exec .brakeAnswerWindowExpiry s = .next (settle u) ∧
       (settle u).rest = s.rest ∧
       (u.mgmt.notices.get (noticeIndex .BRAKE_NO_ANSWER)).pending = true ∧
       u.brake.active = s.brake.active ∧ u.trip = s.trip ∧
       (u.brake.outstanding = none ∨ u.brake.outstanding = some ⟨s.brake.counter + 1#8, u.brake.commanded, none⟩) ∧
       (o.stage = .RELEASED → u.brake.wantsRelease = false ∧ .tripReleaseLost ∈ u.agenda ∧ 1 ≤ stageRank u.brake.commanded) ∧
       (o.stage = .HOLD ∨ o.stage = .SERVICE → u.brake.latchE ≠ none ∧ 3 ≤ stageRank u.brake.commanded) ∧
       (o.stage = .EMERGENCY → u.brake.latchR ≠ none ∧ u.brake.commanded = .RAIL) ∧
       (o.stage = .RAIL →
         u.bare = (occur .BRAKE_NO_ANSWER { s with brake := { s.brake with outstanding := none } }).bare)) ∧
  (∀ s : State, stageRank s.brake.commanded < 3 → demandedStage s.brake = .EMERGENCY →
     (stageRule s).brake.decel = some ⟨s.pos.measured.natAbs, s.params.emergencyDecel.toNat, 500⟩) ∧
  (∀ (c : Cause) (s : State), stageInForce s = true → s.brake.commanded = .EMERGENCY →
     let started : DecelCheck := s.brake.decel.getD ⟨s.pos.measured.natAbs, s.params.emergencyDecel.toNat, 500⟩
     (raiseEvent c .EMERGENCY s).brake.decel = some started ∧
     (causeStage c = .EMERGENCY → c ∉ s.brake.active → (levelCause c true s).brake.decel = some started)) ∧
  (∀ s : State, demandedStage s.brake ≠ s.brake.commanded → demandedStage s.brake ≠ .EMERGENCY →
     (stageRule s).brake.decel = none) ∧
  (∀ (d : DecelCheck) (s : State), s.power = .RUNNING → s.brake.decel = some d →
     let v : Int := s.pos.measured.natAbs
     let failed := s.pos.standstill = false ∧ (s.params.standstillSpeed.toNat : Int) < v ∧
       (d.v0 : Int) - ((d.minimum / 2 : Nat) : Int) < v
     (failed → ∃ u, exec .decelerationCheckExpiry s = .next (settle u) ∧ (settle u).rest = s.rest ∧
       u.brake.latchR ≠ none ∧ u.brake.commanded = .RAIL ∧ u.brake.decel = none ∧ u.trip = s.trip) ∧
     (¬ failed → quiet s = true →
       exec .decelerationCheckExpiry s = .next { s with brake := { s.brake with decel := none } }))

/-- BRAKE_RESET: refused without standstill, refused with an active cause of SERVICE or EMERGENCY, else accepted: latches S and E
cleared, latch R untouched, the trip request HOLD, and the stage HOLD or, under latch R, RAIL; ACCEPTED is placed before what
the change of the stage reports (R70).
That the answer is placed before what its effect places is read from the rules (notes/assumptions/14). -/
def Obligations.BrakeResetClearsTheLatches : Prop :=
  ∀ (hdr : Header) (n : Byte) (e : NodeEntry) (s : State), acceptedFrom s hdr (.lineRequest n .brakeReset) e →
    let h := heardOn hdr.port s
    let barred := ∃ c ∈ s.brake.active, causeStage c = .SERVICE ∨ causeStage c = .EMERGENCY
    (s.pos.standstill = false → quiet s = true →
      exec (.brakeReset hdr n) s = .next (answerLine hdr n 6 (.REFUSED .NOT_AT_STANDSTILL) h)) ∧
    (s.pos.standstill = true → barred → quiet s = true →
      exec (.brakeReset hdr n) s = .next (answerLine hdr n 6 (.REFUSED .CAUSE_ACTIVE) h)) ∧
    (s.pos.standstill = true → ¬ barred →
      ∃ u, exec (.brakeReset hdr n) s = .next (settle u) ∧ (settle u).rest = h.rest ∧
        u.brake.latchS = none ∧ u.brake.latchE = none ∧ u.brake.latchR = s.brake.latchR ∧
        u.brake.wantsRelease = false ∧ u.brake.active = s.brake.active ∧ u.trip = s.trip ∧ u.doors = s.doors ∧
        (s.brake.latchR = none → s.brake.active = [] → u.brake.commanded = .HOLD) ∧
        (s.brake.latchR ≠ none → u.brake.commanded = .RAIL) ∧
        ∃ behind, (u.ports.get hdr.port).normal = ((answerLine hdr n 6 .ACCEPTED h).ports.get hdr.port).normal ++ behind ∧
          (u.brake.commanded = .HOLD ∨ stageRank u.brake.commanded ≤ stageRank s.brake.commanded → behind = []))

/-- RAIL_RESET: from MAINT, with standstill, no active cause of RAIL and both cars linked and READY, latch R is cleared and the trip request
is HOLD, with OK placed before what follows; otherwise WRONG_STATE and no change; from the console NO_ITEM; under WRITE_ALL_LOCK OK and
no change (R71, R173).
That the argument byte is ignored by an operation that uses none, and that OK is placed before what the effect places, is read from the
rules (notes/assumptions/25, 14). -/
def Obligations.RailResetClearsLatchR : Prop :=
  ∀ (hdr : Header) (tag arg : Byte) (e : NodeEntry) (s : State), acceptedFrom s hdr (.mgmtControl tag 8 arg) e →
    let h := heardOn hdr.port s
    let allowed := s.pos.standstill = true ∧ (∀ c ∈ s.brake.active, causeStage c ≠ .RAIL) ∧
      (∀ k, (s.pos.cars.get k).linkUp = true ∧ (s.pos.cars.get k).rail = some .READY)
    let answered (c : MgmtCode) : State := answerMgmt hdr tag 0x12 c (List.replicate 29 0#8) h
    (s.mgmt.locks.writeAll = true → quiet s = true → exec (.railReset hdr tag arg) s = .next (answered .OK)) ∧
    (s.mgmt.locks.writeAll = false → nodeRole e = .CONSOLE → quiet s = true →
      exec (.railReset hdr tag arg) s = .next (answered .NO_ITEM)) ∧
    (s.mgmt.locks.writeAll = false → nodeRole e = .MAINT → ¬ allowed → quiet s = true →
      exec (.railReset hdr tag arg) s = .next (answered .WRONG_STATE)) ∧
    (s.mgmt.locks.writeAll = false → nodeRole e = .MAINT → allowed →
      ∃ u, exec (.railReset hdr tag arg) s = .next (settle u) ∧ (settle u).rest = h.rest ∧
        u.brake.latchR = none ∧ u.brake.latchS = s.brake.latchS ∧ u.brake.latchE = s.brake.latchE ∧
        u.brake.wantsRelease = false ∧ u.brake.active = s.brake.active ∧ u.trip = s.trip ∧ u.doors = s.doors ∧
        (s.brake.latchE ≠ none → u.brake.commanded = .EMERGENCY) ∧
        (s.brake.latchE = none → s.brake.latchS = none → s.brake.active = [] → u.brake.commanded = .HOLD) ∧
        ∃ behind, (u.ports.get hdr.port).normal = ((answered .OK).ports.get hdr.port).normal ++ behind ∧
          (u.brake.commanded = .HOLD ∨ stageRank u.brake.commanded ≤ stageRank s.brake.commanded → behind = []))

/-! ## Speed code -/

/-- The code of the speed record (R36): code(v_perm) = 1 + floor(v_perm / 5), capped at 0xFFE; never 0x000 or 0xFFF; and below the cap
the speed it stands for is never above v_perm and at most 4 mm/s below it.
A recomputation (R27 to R35): v_perm is 0 outside RUNNING and STOPPING; in CREEP mode with a car unreferenced it is the lower of the CREEP
mode cap and the line cap; else it is the lowest of both cars' envelope terms, the curve term, the line cap and, in CREEP mode, the mode
cap. The ceiling of a position is that of the last segment that starts at or before it, and of the first segment before all (R23, R25).
The limiting term is the first that has the result (R22). A pair of the head stop past its window and the allowance, with overrun raised
no, raises it, the cause OVERRUN with latch E, and the notice; otherwise brake and notices stay (R37); a change of the head stop and an
entry to RUNNING set the field to no. The result is handed whole to the brake supervisor and the demand filter (R29).
What the record shows in STOPPING without a virtual stop, and how a start above 8 000 000 mm is used, are the model's choices
(notes/assumptions/42); that a head stop that is joined by a pair stays the same stop is read from R37 (notes/assumptions/71). -/
def Obligations.PermittedCodeStandsForThePermittedSpeed : Prop :=
  (∀ s : State,
     let code := permittedCode s
     let v := s.speed.vPerm
     (1 + v / 5 ≤ 0xFFE → code = 1 + v / 5 ∧ (code - 1) * 5 ≤ v ∧ v ≤ (code - 1) * 5 + 4) ∧
     (0xFFE < 1 + v / 5 → code = 0xFFE) ∧
     code ≠ 0x000 ∧ code ≠ 0xFFF ∧
     (v = 0 → code = 0x001) ∧ (v = 20000 → code = 0xFA1) ∧ (v = 8003 → code = 1601)) ∧
  (∀ (driving : Bool) (s : State),
     let t := recompute driving s
     let p := s.params
     let st := s.trip.state
     let referenced (k : CarId) : Prop := (s.pos.cars.get k).referenced = true
     let place (k : CarId) : Int := (s.pos.cars.get k).accumulator.toInt / 1000
     let ceiling (k : CarId) : Nat := if referenced k then ceilingAt s.active.b (place k) else lowestCeiling s.active.b
     let capped (v : Nat) : Nat := if s.trip.mode = .CREEP then min v p.creepCap.toNat else v
     let curve (d : Int) : Nat := isqrt (2 * p.serviceDecel.toNat * min 8000000 (max 0 (d - p.stopMargin.toNat)).toNat)
     let uphill : CarId := if s.trip.dir = .UP then .car1 else .car2
     let ahead (x : StopPair) : Int :=
       if x.car = uphill then stopPoint s.active.b x.halt - place x.car else place x.car - stopPoint s.active.b x.halt
     let distances : List Int := ((s.trip.plan.head?.map stopPairs).getD [] |>.filter fun x => decide (referenced x.car)).map ahead
     let gives (c : Nat) : Prop :=
       t.speed.vPerm = capped (min (min (ceiling .car1) (ceiling .car2)) (min c s.trip.lineCap)) ∧ t.speed.curve = some c ∧
         t.speed.limiting = (if ceiling .car1 = t.speed.vPerm then .ENVELOPE_1
           else if ceiling .car2 = t.speed.vPerm then .ENVELOPE_2
           else if c = t.speed.vPerm then .CURVE
           else if s.trip.lineCap = t.speed.vPerm then .LINE_CAP else .MODE_CAP)
     let overrun : Prop := (st = .RUNNING ∨ st = .STOPPING) ∧ ∃ x ∈ (s.trip.plan.head?.map stopPairs).getD [],
       referenced x.car ∧ ahead x < -(platformWindow s.active.b x.halt + (p.overrunAllowance.toNat : Int))
     let raised := s.speed.overrunRaised = true
     let known := s.trip.mode = .NORMAL ∨ (referenced .car1 ∧ referenced .car2)
     (st ≠ .RUNNING → st ≠ .STOPPING → t.speed.vPerm = 0 ∧ t.speed.limiting = .STATE) ∧
     (st = .RUNNING ∨ st = .STOPPING → ¬ known → t.speed.vPerm = min p.creepCap.toNat s.trip.lineCap ∧
       t.speed.limiting = if s.trip.lineCap ≤ p.creepCap.toNat then .LINE_CAP else .MODE_CAP) ∧
     (overrun → ¬ raised → t.speed.overrunRaised = true ∧ t.brake.latchE ≠ none ∧ t.brake.active = s.brake.active ∧
       3 ≤ stageRank t.brake.commanded ∧ (t.mgmt.notices.get (noticeIndex .OVERRUN)).pending = true) ∧
     (¬ overrun ∨ raised → t.speed.overrunRaised = s.speed.overrunRaised ∧ t.brake = s.brake ∧ t.mgmt = s.mgmt) ∧
     (st = .RUNNING → known → distances = [] → gives p.creepSpeed.toNat) ∧
     (st = .RUNNING → known → ∀ d ∈ distances, (∀ x ∈ distances, d ≤ x) → gives (max p.creepSpeed.toNat (curve d))) ∧
     (st = .STOPPING → known → s.trip.virtualStop = none → gives 0) ∧
     (st = .STOPPING → known → ∀ v, s.trip.virtualStop = some v →
       gives (curve ((if s.trip.dir = .UP then (v - s.pos.ropeTravel).toInt else -(v - s.pos.ropeTravel).toInt) / 1000))) ∧
     .compare driving t.speed.vPerm ∈ t.agenda ∧ .demandCode driving t.speed.vPerm ∈ t.agenda) ∧
  (∀ (b : GroupB) (mm : Int) (e : EnvelopeEntry), e ∈ segments b → (segments b).Pairwise (fun x y => x.start.toNat < y.start.toNat) →
     ((e.start.toNat : Int) ≤ mm → (∀ x ∈ segments b, (x.start.toNat : Int) ≤ mm → x.start.toNat ≤ e.start.toNat) →
       ceilingAt b mm = e.ceiling.toNat) ∧
     ((∀ x ∈ segments b, mm < (x.start.toNat : Int)) → (segments b).head? = some e → ceilingAt b mm = e.ceiling.toNat) ∧
     lowestCeiling b ≤ e.ceiling.toNat) ∧
  (∀ a b : State,
     let head (x : State) : List (CarId × Halt) := ((x.trip.plan.head?.map stopPairs).getD []).map fun p => (p.car, p.halt)
     let another : Prop := (a.trip.plan = [] ↔ b.trip.plan ≠ []) ∨
       (a.trip.plan ≠ [] ∧ b.trip.plan ≠ [] ∧ ∀ x ∈ head a, x ∉ head b)
     let entered : Prop := a.trip.state ≠ .RUNNING ∧ b.trip.state = .RUNNING
     (another ∨ entered → (announceTrip a b).speed = { b.speed with overrunRaised := false }) ∧
     (¬ another → ¬ entered → (announceTrip a b).speed = b.speed))

/-- What follows the result of a recomputation. The supervisor compares the measured speed with the v_perm it was handed: the warning, with
its notice when it begins, and the three overspeed causes, each with its latch when it begins (R56, R61), and DOORS_NOT_LOCKED, which a
door report evaluates as well (R58). A driving sample moves the rollback base with an advance and raises ROLLBACK beyond the limit; the
monitor goes ON with the release and OFF with any other stage (R57). The demand filter lowers a held DEMAND to its code, and with
substitution ON sends one DEMAND of its own for a driving sample (R45, R48); a latch S in STOPPING sets the held DEMAND to 0x001, and a
turned trip direction does so as well and turns it (R45).
That a held DEMAND is lowered before a substitute takes its place, and that the comparison comes before the examination of the rollback
monitor, and that lowering sets last forwarded also where it is absent, are the model's choices (notes/assumptions/39, 61). -/
def Obligations.ResultsAreComparedAndSent : Prop :=
  (∀ (driving : Bool) (v : Nat) (s : State),
    let t := brakeCompare driving v s
    let n := s.pos.measured.natAbs
    let p := s.params
    let follows (c : Cause) (holds : Prop) (latch : Supervisor → Option Cause) : Prop :=
      (c ∈ t.brake.active ↔ holds) ∧ (holds → c ∉ s.brake.active → latch t.brake ≠ none)
    let unlocked : Prop := p.standstillSpeed.toNat < n ∧ ∃ k sd c, (((s.doors.get k).sides.get sd).doors.get c).state ≠ .LOCKED
    (t.brake.warning = true ↔ v + p.warningMargin.toNat < n) ∧
    (t.brake.warning = true → s.brake.warning = false → (t.mgmt.notices.get (noticeIndex .OVERSPEED_WARNING)).pending = true) ∧
    follows .OVERSPEED_SERVICE (v + p.serviceMargin.toNat < n) Supervisor.latchS ∧
    follows .OVERSPEED_EMERGENCY (v + p.emergencyMargin.toNat < n) Supervisor.latchE ∧
    follows .OVERSPEED_ABSOLUTE (p.designMax.toNat * 115 / 100 < n) Supervisor.latchE ∧
    follows .DOORS_NOT_LOCKED unlocked Supervisor.latchE ∧
    (stageInForce s = true → s.brake.commanded = .RELEASED → n ≤ v + p.serviceMargin.toNat → n ≤ v + p.emergencyMargin.toNat →
      n ≤ p.designMax.toNat * 115 / 100 → ¬ unlocked →
      (s.brake.rollback = none ∨ driving = false → t.brake.rollback = s.brake.rollback) ∧
      (driving = true → ∀ base, s.brake.rollback = some base →
        let advance : Int := if s.trip.dir = .UP then (s.pos.ropeTravel - base).toInt else -(s.pos.ropeTravel - base).toInt
        (0 < advance → t.brake.rollback = some s.pos.ropeTravel ∧ t.brake.latchE = none) ∧
        ((p.rollbackLimit.toNat : Int) * 1000 < -advance → t.brake.rollback = none ∧ t.brake.latchE = some .ROLLBACK ∧
          t.brake.commanded = .EMERGENCY ∧ (t.mgmt.notices.get (noticeIndex .ROLLBACK)).pending = true) ∧
        (advance ≤ 0 → -advance ≤ (p.rollbackLimit.toNat : Int) * 1000 →
          t.brake.rollback = some base ∧ t.brake.latchE = none))) ∧
    stageInForce t = true ∧
    t.trip = s.trip ∧ t.doors = s.doors ∧ t.gates = s.gates ∧ t.seqs = s.seqs ∧ t.filter = s.filter ∧ t.speed = s.speed) ∧
  (∀ s : State,
    (demandedStage s.brake ≠ s.brake.commanded → (stageRule s).brake.rollback =
      if demandedStage s.brake = .RELEASED then some s.pos.ropeTravel else none) ∧
    (.DOORS_NOT_LOCKED ∈ (brakeDoorsChanged s).brake.active ↔ s.params.standstillSpeed.toNat < s.pos.measured.natAbs ∧
      ∃ k sd c, (((s.doors.get k).sides.get sd).doors.get c).state ≠ .LOCKED)) ∧
  (∀ s : State,
    let held (t : State) (f : OutFrame) (q : DemandP) : Prop := queuedDemand t = some (f, q)
    let frame (f : OutFrame) (q : DemandP) : OutFrame := { f with content := .demand q }
    let lowered (t : State) (f : OutFrame) (q : DemandP) (code : Nat) (dir : Dir) : Prop :=
      let r : DemandP := { q with code := BitVec.ofNat 16 code, dir := dir, flags := q.flags ||| 0x02#8 }
      held t (frame f r) r ∧
        t = { placeUrgent (frame f r) s with filter := { s.filter with lastForwarded := some code } }
    (∀ (driving : Bool) (v : Nat),
      let t := demandTakesCode driving v s
      let code := min 0xFFE (1 + v / 5)
      let substitutes := driving = true ∧ s.filter.substitution = true
      (∀ f q, held t f q → q.code.toNat ≤ code) ∧
      (¬ substitutes → (queuedDemand s = none → t = s) ∧ ∀ f q, held s f q →
        (q.code.toNat ≤ code → t = s) ∧ (code < q.code.toNat → lowered t f q code q.dir)) ∧
      (substitutes → ∀ e, firstRole s.active.b .DRIVE = some e →
        let sent := if s.trip.state = .STOPPING ∧ s.brake.latchS ≠ none then 1 else code
        let r : DemandP := ⟨BitVec.ofNat 16 sent, BitVec.ofNat 8 (s.params.accelMax.toNat / 10), s.trip.dir, 0x01#8⟩
        held t ⟨e.address, s.mgmt.ownAddress, some .DRIVE, .demand r⟩ r ∧ t.filter = { s.filter with lastForwarded := some sent })) ∧
    (∀ f q, held s f q →
      (s.trip.state = .STOPPING → q.code.toNat ≠ 1 → lowered (lowerForLatchS s) f q 1 q.dir) ∧
      (s.trip.state ≠ .STOPPING ∨ q.code.toNat = 1 → lowerForLatchS s = s) ∧
      (q.dir ≠ s.trip.dir → lowered (demandTakesTrip none s) f q 1 s.trip.dir) ∧
      (q.dir = s.trip.dir → demandTakesTrip none s = s)) ∧
    (queuedDemand s = none → lowerForLatchS s = s ∧ demandTakesTrip none s = s))

/-! ## Calls and the stop plan -/

/-- The tests of R80 on a call, in the order of their table. -/
def Obligations.CallsAreTestedInOrder : Prop :=
  ∀ (s : State) (k : CarId) (src : Source),
    let st := s.trip.state
    let taken := st = .PARKED ∨ st = .READY ∨ st = .AT_STOP ∨ st = .RUNNING
    let out (x : Option Halt) := callOutcome s k x src
    (¬ taken → ∀ x, out x = (.REFUSED .WRONG_STATE, none)) ∧
    (taken → out none = (.REFUSED .HALT_ABSENT, none) ∧ ∀ x,
      let d := pairDistance s k x
      let margin := platformWindow s.active.b x
      let p := s.params
      let curve := isqrt (2 * p.serviceDecel.toNat * min 8000000 (max 0 (d - p.stopMargin.toNat)).toNat)
      let late := st = .RUNNING ∧ curve < s.pos.measured.natAbs + p.callMargin.toNat
      let closed := src = .PLATFORM ∧ outputSet s x bitCallsAccepted = false
      let referenced := (s.pos.cars.get k).referenced = true
      (haltPresent s.active.b x = false → out (some x) = (.REFUSED .HALT_ABSENT, none)) ∧
      (haltPresent s.active.b x = true →
        (s.trip.hold ≠ .NONE → out (some x) = (.REFUSED .HOLD_ACTIVE, none)) ∧
        (s.trip.hold = .NONE → closed → out (some x) = (.REFUSED .CALLS_CLOSED, none)) ∧
        (s.trip.hold = .NONE → ¬ closed → ¬ referenced → out (some x) = (.REFUSED .NOT_REFERENCED, none)) ∧
        (s.trip.hold = .NONE → ¬ closed → referenced →
          (d ≤ margin → out (some x) = (.REFUSED .HALT_NOT_AHEAD, none)) ∧
          (margin < d → (k, x) ∈ planPairs s.trip.plan → out (some x) = (.ACCEPTED, none)) ∧
          (margin < d → (k, x) ∉ planPairs s.trip.plan → late → out (some x) = (.TOO_LATE, none)) ∧
          (margin < d → (k, x) ∉ planPairs s.trip.plan → ¬ late →
            (planWith s ⟨k, x, src⟩ d = none → out (some x) = (.REFUSED .PLAN_FULL, none)) ∧
            (∀ plan, planWith s ⟨k, x, src⟩ d = some plan → out (some x) = (.ACCEPTED, some plan))))))

/-- A new pair joins the first stop that it may join, every other stop unchanged and in its place; else it is inserted as a stop of its own,
directly behind the last stop at or before its distance and in front of the termini stop, the old stops in their old order; a tenth stop
is refused (R77, R78).
The termini stop of a direction is placed as the last stop (R79): it keeps every other pair but those of a stop that a full plan gives
up; a plan that has one stays; no plan of at most 9 stops becomes longer than 9.
That a stop without distance is behind no place is the model's choice (notes/assumptions/43). -/
def Obligations.PlanTakesPairsAndTheTerminiStop : Prop :=
  (∀ (s : State) (p : StopPair) (d : Int),
     let plan := s.trip.plan
     let joins (x : Stop) : Prop := x.second = none ∧ x.first.car ≠ p.car ∧ ∃ y, stopDistance s x = some y ∧ (y - d).natAbs ≤ 50
     let behind (x : Stop) : Prop := ∃ y, stopDistance s x = some y ∧ y ≤ d
     (∀ front x back, plan = front ++ x :: back → (∀ y ∈ front, ¬ joins y) → joins x →
       planWith s p d = some (front ++ ⟨x.first, some p⟩ :: back)) ∧
     ((∀ x ∈ plan, ¬ joins x) →
       (9 ≤ plan.length → planWith s p d = none) ∧
       (plan.length < 9 → ∀ front back, plan.filter (fun x => !isTermini x) = front ++ back →
         (∀ x, front.getLast? = some x → behind x) → (∀ x ∈ back, ¬ behind x) →
         planWith s p d = some (front ++ ⟨p, none⟩ :: back ++ plan.filter isTermini)))) ∧
  (∀ (dir : Dir) (plan : List Stop),
     let pairs := planPairs [terminiStop dir]
     let placed := placeTermini dir plan
     let cleared := (plan.map fun st => (stopPairs st).filter fun p => (p.car, p.halt) ∉ pairs).filter fun ps => ps ≠ []
     pairs = (match dir with
       | .UP => [(.car1, 1), (.car2, 0)]
       | .DOWN => [(.car1, 0), (.car2, 1)]) ∧
     (plan.any isTermini = true → placed = plan) ∧
     (plan.any isTermini = false →
       placed.getLast? = some (terminiStop dir) ∧
       (cleared.length < 9 → placed.dropLast.map stopPairs = cleared) ∧
       (9 ≤ cleared.length → placed.dropLast.map stopPairs = cleared.take 8)) ∧
     (plan.length ≤ 9 → placed.length ≤ 9))

/-- CONSOLE_CALL and CALL: answered by the nine tests for the car named, the relay's own car, or, from a gate node, the car that travels
in the wanted direction in the present trip direction, the gate's own halt only (R81); an accepted new pair is in the plan, and
the rest of the trip record stays; a gate that the gate table leaves out is not heard (R137).
That a gate left out is not heard is read from the rules (notes/assumptions/23). -/
def Obligations.CallsAreAnsweredForTheirCar : Prop :=
  (∀ (hdr : Header) (n : Byte) (k : CarId) (b : Byte) (e : NodeEntry) (s : State),
    acceptedFrom s hdr (.lineRequest n (.call k b)) e →
    let o := callOutcome s k (haltOfByte b) .CONSOLE
    let h := answerLine hdr n 1 o.1 (heardOn hdr.port s)
    (o.2 = none → quiet s = true → exec (.consoleCall hdr n k b) s = .next h) ∧
    (∀ plan, o.2 = some plan → ∃ u, exec (.consoleCall hdr n k b) s = .next (settle u) ∧
      (settle u).rest = h.rest ∧ u.trip = { s.trip with plan := plan } ∧ u.ports = h.ports)) ∧
  (∀ (hdr : Header) (p : CallP) (e : NodeEntry) (s : State),
    acceptedFrom s hdr (.call p) e → nodeRole e ≠ .GATE →
    let k : CarId := if nodeRole e = .CAR_1 then .car1 else .car2
    let o := callOutcome s k (haltOfByte p.halt) .CAR
    let h := answerLine hdr p.number 1 o.1 (heardOn hdr.port s)
    (o.2 = none → quiet s = true → exec (.call hdr p) s = .next h) ∧
    (∀ plan, o.2 = some plan → ∃ u, exec (.call hdr p) s = .next (settle u) ∧
      (settle u).rest = h.rest ∧ u.trip = { s.trip with plan := plan } ∧ u.ports = h.ports)) ∧
  (∀ (hdr : Header) (p : CallP) (e : NodeEntry) (s : State),
     acceptedFrom s hdr (.call p) e → nodeRole e = .GATE →
     let g := nodeGate e
     let k : CarId := (match s.trip.dir, p.wanted with
       | .UP, .UPHILL => .car1
       | .DOWN, .UPHILL => .car2
       | .UP, _ => .car2
       | .DOWN, _ => .car1)
     let x := gateHalt s.active.a g
     let o := callOutcome s k (if p.halt.toNat = x.val then some x else none) .PLATFORM
     let h := answerLine hdr p.number 1 o.1 (hearGate g (heardOn hdr.port s))
     (gatePresent s.active.a g = false → quiet s = true → exec (.call hdr p) s = .next (heardOn hdr.port s)) ∧
     (gatePresent s.active.a g = true → o.2 = none → quiet s = true → exec (.call hdr p) s = .next h) ∧
     (gatePresent s.active.a g = true → ∀ plan, o.2 = some plan → ∃ u, exec (.call hdr p) s = .next (settle u) ∧
       (settle u).rest = (heardOn hdr.port s).rest ∧ u.trip = { s.trip with plan := plan } ∧ u.ports = h.ports))

/-- CANCEL_CALL: NOT_FOUND, NOT_CONSOLE, or accepted: the pair leaves its stop, a stop left without pairs goes, and a stop left with one
pair keeps its place (R82). -/
def Obligations.CancelCallTakesThePairOut : Prop :=
  ∀ (hdr : Header) (n : Byte) (k : CarId) (b : Byte) (e : NodeEntry) (s : State),
    acceptedFrom s hdr (.lineRequest n (.cancelCall k b)) e →
    let names (p : StopPair) : Bool := (p.car == k) && decide (p.halt.val = b.toNat)
    let found := (s.trip.plan.flatMap stopPairs).find? names
    let answered (a : LineAnswer) : State := answerLine hdr n 2 a (heardOn hdr.port s)
    (found = none → quiet s = true → exec (.cancelCall hdr n k b) s = .next (answered (.REFUSED .NOT_FOUND))) ∧
    (∀ p, found = some p → p.source ≠ .CONSOLE → quiet s = true →
      exec (.cancelCall hdr n k b) s = .next (answered (.REFUSED .NOT_CONSOLE))) ∧
    (∀ p, found = some p → p.source = .CONSOLE →
      ∃ u plan, exec (.cancelCall hdr n k b) s = .next (settle u) ∧
        (settle u).rest = (answered .ACCEPTED).rest ∧ u.ports = (answered .ACCEPTED).ports ∧
        u.trip = { s.trip with plan := plan } ∧
        plan.map stopPairs =
          ((s.trip.plan.map stopPairs).map fun ps => ps.filter fun p => !names p).filter fun ps => ps ≠ [])

/-! ## Holds and departures -/

/-- HOLD_SOFT: refused in IDLE; else the plan is cut behind its head stop and the hold request is SOFT, or stays HARD (R83).
HOLD_HARD: refused in IDLE; else the hold request is HARD, a departure returns to its origin, and a running trip enters STOPPING with its
virtual stop, or HELD where standstill holds (R84, R32, R92). -/
def Obligations.HoldsStopTheTrip : Prop :=
  (∀ (hdr : Header) (n : Byte) (e : NodeEntry) (s : State), acceptedFrom s hdr (.lineRequest n .holdSoft) e →
     let answered (a : LineAnswer) : State := answerLine hdr n 3 a (heardOn hdr.port s)
     let hold : HoldRequest := if s.trip.hold = .HARD then .HARD else .SOFT
     (s.trip.state = .IDLE → quiet s = true → exec (.holdSoft hdr n) s = .next (answered (.REFUSED .WRONG_STATE))) ∧
     (s.trip.state ≠ .IDLE → ∃ u, exec (.holdSoft hdr n) s = .next (settle u) ∧
       (settle u).rest = { (answered .ACCEPTED).rest with hold := hold } ∧ u.ports = (answered .ACCEPTED).ports ∧
       u.trip = { s.trip with plan := s.trip.plan.take 1, hold := hold })) ∧
  (∀ (hdr : Header) (n : Byte) (e : NodeEntry) (s : State), acceptedFrom s hdr (.lineRequest n .holdHard) e →
     let answered (a : LineAnswer) : State := answerLine hdr n 4 a (heardOn hdr.port s)
     let st := s.trip.state
     let origin : TripState := (match s.trip.origin with
       | some .PARKED => .PARKED
       | some .AT_STOP => .AT_STOP
       | _ => .HELD)
     (st = .IDLE → quiet s = true → exec (.holdHard hdr n) s = .next (answered (.REFUSED .WRONG_STATE))) ∧
     (st ≠ .IDLE → ∃ u, exec (.holdHard hdr n) s = .next (settle u) ∧
       (settle u).rest = { (answered .ACCEPTED).rest with hold := .HARD } ∧ u.ports = (answered .ACCEPTED).ports ∧
       u.trip.hold = .HARD ∧ u.trip.plan = s.trip.plan ∧ u.trip.berth = s.trip.berth ∧
       (st = .READY ∨ st = .DEPARTING → u.trip.state = origin ∧ u.trip.origin = none ∧ u.trip.readyTimer = none ∧
         u.trip.torqueTimer = none ∧ .brakeTrip origin ∈ u.agenda) ∧
       (st = .RUNNING → s.pos.standstill = true → u.trip.state = .HELD) ∧
       (st = .RUNNING → s.pos.standstill = false →
         u.trip.state = .STOPPING ∧ u.trip.virtualStop = some (virtualStopFor s)) ∧
       (st ≠ .READY → st ≠ .DEPARTING → st ≠ .RUNNING → u.trip = { s.trip with hold := .HARD })))

/-- DISPATCH and RESUME that are refused: the reasons in the order of R85, and nothing else but the answer. -/
def Obligations.DepartureRequestsAreRefusedInOrder : Prop :=
  ∀ (hdr : Header) (n : Byte) (e : NodeEntry) (s : State), quiet s = true →
    let st := s.trip.state
    let keyOpen := s.trip.mode = .CREEP ∧ dinLevel s 1 = .OPEN
    let refused (kind : Byte) (r : Reason) : Host.Outcome State Fault Refusal :=
      .next (answerLine hdr n kind (.REFUSED r) (heardOn hdr.port s))
    (acceptedFrom s hdr (.lineRequest n .dispatch) e →
      (st ≠ .PARKED → st ≠ .AT_STOP → exec (.dispatch hdr n) s = refused 0 .WRONG_STATE) ∧
      (st = .PARKED ∨ st = .AT_STOP → keyOpen → exec (.dispatch hdr n) s = refused 0 .KEY_OPEN) ∧
      (st = .PARKED ∨ st = .AT_STOP → ¬ keyOpen → s.trip.hold ≠ .NONE → exec (.dispatch hdr n) s = refused 0 .HOLD_ACTIVE) ∧
      (st = .AT_STOP → ¬ keyOpen → s.trip.hold = .NONE → s.trip.plan = [] → exec (.dispatch hdr n) s = refused 0 .PLAN_EMPTY)) ∧
    (acceptedFrom s hdr (.lineRequest n .resume) e →
      (st ≠ .PARKED → st ≠ .AT_STOP → st ≠ .HELD → exec (.resume hdr n) s = refused 5 .WRONG_STATE) ∧
      (st = .PARKED ∨ st = .AT_STOP ∨ st = .HELD → keyOpen → exec (.resume hdr n) s = refused 5 .KEY_OPEN))

/-- DISPATCH and RESUME that are accepted: the origin, the plan and the hold request of R85, the READY timer, and READY, or DEPARTING with
its torque proof timer and the event DEPARTURE_ACCEPTED where all doors are LOCKED, no entry is in WAIT_PASS, ENTRY_OPEN is low where a
car is berthed, no latch is set, both cars are referenced or the mode is CREEP, the plan is not empty, DIN0 is closed and the drive is
ready (R86, R87). A test for auto-dispatch departs the same way, with no answer, where every berthed halt has DEPART_REQUEST set and
DISPATCH would be accepted, and else does nothing; it is made at a change of DEPART_REQUEST of a berthed halt, of a berth or of the
plan, at the clearing of the hold request, and at an entry to PARKED or AT_STOP by arrival or from TRIPPED (R85). -/
def Obligations.DepartureRequestsLeadToReady : Prop :=
  (∀ (hdr : Header) (n : Byte) (e : NodeEntry) (s : State),
    ¬ (s.trip.mode = .CREEP ∧ dinLevel s 1 = .OPEN) →
    let st := s.trip.state
    let accepted (kind : Byte) : State := answerLine hdr n kind .ACCEPTED (heardOn hdr.port s)
    let goes (c : Instr) (kind : Byte) (o : Origin) (plan : List Stop) : Prop :=
      ∃ u, exec c s = .next (settle u) ∧ (settle u).rest = { (accepted kind).rest with hold := .NONE } ∧
        u.ports = (accepted kind).ports ∧ departs o plan s u
    (acceptedFrom s hdr (.lineRequest n .dispatch) e → s.trip.hold = .NONE →
      (st = .PARKED → goes (.dispatch hdr n) 0 .PARKED (placeTermini s.trip.dir s.trip.plan)) ∧
      (st = .AT_STOP → s.trip.plan ≠ [] → goes (.dispatch hdr n) 0 .AT_STOP s.trip.plan)) ∧
    (acceptedFrom s hdr (.lineRequest n .resume) e →
      (st = .PARKED → goes (.resume hdr n) 5 .PARKED (placeTermini s.trip.dir s.trip.plan)) ∧
      (st = .AT_STOP ∨ st = .HELD →
        goes (.resume hdr n) 5 (if st = .HELD then .HELD else .AT_STOP)
          (if s.trip.plan = [] then placeTermini s.trip.dir s.trip.plan else s.trip.plan)))) ∧
  (∀ s : State,
    let st := s.trip.state
    let t := testAuto s
    let all : Prop := ∀ k h, s.trip.berth.get k = some h → (s.seqs.get h).published.getLsbD 3 = true
    let barred : Prop := (s.trip.mode = .CREEP ∧ (s.dins.get 1).filtered ≠ some .CLOSED) ∨ s.trip.hold ≠ .NONE ∨ ¬ all
    (st = .PARKED → ¬ barred → departs .PARKED (placeTermini s.trip.dir s.trip.plan) s t ∧ t.ports = s.ports) ∧
    (st = .AT_STOP → s.trip.plan ≠ [] → ¬ barred → departs .AT_STOP s.trip.plan s t ∧ t.ports = s.ports) ∧
    (barred ∨ (st = .AT_STOP ∧ s.trip.plan = []) ∨ (st ≠ .PARKED ∧ st ≠ .AT_STOP) → t = s) ∧
    (∀ (q : Halt) (ch : Byte), ch.getLsbD 0 = false →
      (ch.getLsbD 3 = true ∧ (∃ k, s.trip.berth.get k = some q) → tellTrip q ch s = t) ∧
      (ch.getLsbD 3 = false ∨ (∀ k, s.trip.berth.get k ≠ some q) → tellTrip q ch s = s))) ∧
  (∀ a b : State,
    let moment : Prop := (∃ k, a.trip.berth.get k ≠ b.trip.berth.get k) ∨ a.trip.plan ≠ b.trip.plan ∨
      (a.trip.hold ≠ .NONE ∧ b.trip.hold = .NONE) ∨
      ((b.trip.state = .PARKED ∨ b.trip.state = .AT_STOP) ∧ (a.trip.state = .RUNNING ∨ a.trip.state = .TRIPPED))
    (.tripAuto ∈ (announceTrip a b).agenda ↔ .tripAuto ∈ b.agenda ∨ moment))

/-- SET_CAP: the value is clamped; below the cap in force without standstill it is DEFERRED as the pending cap, else it is the cap in force
and no cap is pending; when standstill begins, a pending cap comes into force (R50). SET_MODE: refused by the first of WRONG_STATE,
NOT_AT_STANDSTILL and KEY_OPEN that applies, else the mode is the new one; SET_FLAG: a flag 0 to 3 takes the value, another number is
refused with OUT_OF_RANGE (R96). -/
def Obligations.CapModeAndFlagsAreSetOnRequest : Prop :=
  (∀ (hdr : Header) (n : Byte) (cap : BitVec 16) (e : NodeEntry) (s : State),
    acceptedFrom s hdr (.lineRequest n (.setCap cap)) e →
    let c := clampNat s.params.creepSpeed.toNat s.params.designMax.toNat cap.toNat
    let answered (a : LineAnswer) : State := answerLine hdr n 7 a (heardOn hdr.port s)
    let deferred := c < s.trip.lineCap ∧ s.pos.standstill = false
    (deferred → quiet s = true → exec (.setCap hdr n cap) s =
      .next { answered .DEFERRED with trip := { s.trip with pendingCap := some c } }) ∧
    (¬ deferred → ∃ u, exec (.setCap hdr n cap) s = .next (settle u) ∧
      (settle u).rest = (answered .ACCEPTED).rest ∧ u.ports = (answered .ACCEPTED).ports ∧
      u.trip = { s.trip with lineCap := c, pendingCap := none } ∧
      (c ≠ s.trip.lineCap → .recompute false ∈ u.agenda))) ∧
  (∀ s : State,
    (takeStandstill s).trip.lineCap = s.trip.pendingCap.getD s.trip.lineCap ∧ (takeStandstill s).trip.pendingCap = none) ∧
  (∀ (hdr : Header) (n : Byte) (m : Mode) (e : NodeEntry) (s : State),
    acceptedFrom s hdr (.lineRequest n (.setMode m)) e →
    let st := s.trip.state
    let answered (a : LineAnswer) : State := answerLine hdr n 8 a (heardOn hdr.port s)
    let refused (r : Reason) : Prop := quiet s = true → exec (.setMode hdr n m) s = .next (answered (.REFUSED r))
    let moving := st ≠ .IDLE ∧ s.pos.standstill = false
    let open1 := m = .CREEP ∧ dinLevel s 1 = .OPEN
    (st ≠ .IDLE → st ≠ .PARKED → st ≠ .HELD → refused .WRONG_STATE) ∧
    (st = .IDLE ∨ st = .PARKED ∨ st = .HELD →
      (moving → refused .NOT_AT_STANDSTILL) ∧
      (¬ moving → open1 → refused .KEY_OPEN) ∧
      (¬ moving → ¬ open1 → ∃ u, exec (.setMode hdr n m) s = .next (settle u) ∧
        (settle u).rest = { (answered .ACCEPTED).rest with mode := m } ∧ u.ports = (answered .ACCEPTED).ports ∧
        u.trip = { s.trip with mode := m }))) ∧
  (∀ (hdr : Header) (n b : Byte) (v : FlagValue) (e : NodeEntry) (s : State),
    acceptedFrom s hdr (.lineRequest n (.setFlag b v)) e →
    let answered (a : LineAnswer) : State := answerLine hdr n 11 a (heardOn hdr.port s)
    (4 ≤ b.toNat → quiet s = true →
      exec (.setFlag hdr n b v) s = .next (answered (.REFUSED .OUT_OF_RANGE))) ∧
    (∀ i : Fin 4, b.toNat = i.val → ∃ u, exec (.setFlag hdr n b v) s = .next (settle u) ∧
      u.bare = ({ answered .ACCEPTED with
        trip := { s.trip with flags := vset s.trip.flags i (decide (v = .SET)) } } : State).bare ∧
      (settle u).trip.flags = vset s.trip.flags i (decide (v = .SET))))

/-- ENTER_SERVICE: refused by the first failing test of R94, else the line is in service with no hold and no plan, berths from the windows,
PARKED at the termini and HELD elsewhere; PARKED sets the next direction, UP with car 1 at halt 0 and DOWN with car 1 at halt 1. The
factory tables never pass the test of the tables (R91, R93, R94).
That no BERTHED is given is read from R134 (notes/assumptions/20). -/
def Obligations.EnterServiceParksOrHolds : Prop :=
  (∀ own : Byte, invalidTables Tables.factory own ≠ none) ∧
  (∀ (hdr : Header) (n : Byte) (e : NodeEntry) (s : State), acceptedFrom s hdr (.lineRequest n .enterService) e →
    let answered (a : LineAnswer) : State := answerLine hdr n 9 a (heardOn hdr.port s)
    let refused (r : Reason) : Prop := quiet s = true → exec (.enterService hdr n) s = .next (answered (.REFUSED r))
    let invalid := invalidTables s.active s.mgmt.ownAddress
    let referenced := ∀ k, (s.pos.cars.get k).referenced = true
    (s.trip.state ≠ .IDLE → refused .WRONG_STATE) ∧
    (s.trip.state = .IDLE →
      (invalid ≠ none → refused .CONFIG_INVALID) ∧
      (invalid = none → s.pos.standstill = false → refused .NOT_AT_STANDSTILL) ∧
      (invalid = none → s.pos.standstill = true → anyLatch s.brake = true → refused .LATCH_SET) ∧
      (invalid = none → s.pos.standstill = true → anyLatch s.brake = false → ¬ referenced → refused .NOT_REFERENCED) ∧
      (invalid = none → s.pos.standstill = true → anyLatch s.brake = false → referenced →
        ∃ u, exec (.enterService hdr n) s = .next (settle u) ∧
          (settle u).rest = { (answered .ACCEPTED).rest with hold := .NONE } ∧ u.ports = (answered .ACCEPTED).ports ∧
          u.trip.state = (if atTermini s then .PARKED else .HELD) ∧ u.trip.plan = [] ∧ u.trip.hold = .NONE ∧
          (∀ k, u.trip.berth.get k =
            allHalts.find? fun x => withinWindow s.active.b x (reportedPos (s.pos.cars.get k))) ∧
          (atTermini s = true → u.trip.berth.get .car1 = some 0 → u.trip.dir = .UP) ∧
          (atTermini s = true → u.trip.berth.get .car1 = some 1 → u.trip.dir = .DOWN) ∧
          (atTermini s = false → u.trip.dir = s.trip.dir) ∧ u.pulses = s.pulses ∧
          u.trip.mode = s.trip.mode ∧ u.trip.number = s.trip.number ∧ u.trip.lineCap = s.trip.lineCap ∧
          u.trip.flags = s.trip.flags)))

/-- LEAVE_SERVICE: accepted in PARKED and HELD: IDLE, no plan, hold, origin or berth, and a pending group A commit is applied; mode,
direction, trip number, cap and flags stay; refused in every other state (R95). -/
def Obligations.LeaveServiceGoesIdle : Prop :=
  ∀ (hdr : Header) (n : Byte) (e : NodeEntry) (s : State), acceptedFrom s hdr (.lineRequest n .leaveService) e →
    let answered (a : LineAnswer) : State := answerLine hdr n 10 a (heardOn hdr.port s)
    (s.trip.state ≠ .PARKED → s.trip.state ≠ .HELD → quiet s = true →
      exec (.leaveService hdr n) s = .next (answered (.REFUSED .WRONG_STATE))) ∧
    (s.trip.state = .PARKED ∨ s.trip.state = .HELD →
      ∃ u, exec (.leaveService hdr n) s = .next (settle u) ∧
        (settle u).rest = { (answered .ACCEPTED).rest with hold := .NONE } ∧
        u.trip = { s.trip with
          state := .IDLE
          plan := []
          hold := .NONE
          origin := none
          berth := ⟨none, none⟩
          virtualStop := none
          readyTimer := none
          torqueTimer := none } ∧
        (s.mgmt.commitA.pending = true → u.active.a = s.staged.a ∧ u.mgmt.commitA = ⟨false, .OK⟩ ∧
          (u.mgmt.notices.get (noticeIndex .COMMIT_APPLIED)).pending = true) ∧
        (s.mgmt.commitA.pending = false →
          u.active = s.active ∧ u.mgmt.commitA = s.mgmt.commitA ∧ u.ports = (answered .ACCEPTED).ports))

/-- UNKNOWN_REQUEST is refused as such under its own kind, and STATUS_TIMER_EXPIRY restarts the status timer and places a LINE_STATUS of 32
bytes for the first console of the node map; neither changes anything else. Its fields: trip state; line state, mode, direction, what is
referenced and the hold request; trip number; positions, at the nearer bound of 3 bytes; berths; the head stop's halts; the number of
stops; measured and permitted speed; stage and latches; the door summaries; and each halt's window and budget (R97, R98, R190, R191).
That an expiry without its timer has no effect is the model's choice (notes/assumptions/6). -/
def Obligations.UnknownRequestsAndStatusAreAnswered : Prop :=
  (∀ (hdr : Header) (n kind : Byte) (e : NodeEntry) (s : State),
    acceptedFrom s hdr (.lineRequest n (.unknown kind)) e → quiet s = true →
    exec (.unknownRequest hdr n kind) s =
      .next (answerLine hdr n kind (.REFUSED .UNKNOWN_REQUEST) (heardOn hdr.port s))) ∧
  (∀ s : State, s.power = .RUNNING →
    let t : State := { s with trip := { s.trip with statusTimer := some 100 } }
    let bytes := statusBytes s
    let byte (i : Nat) : Byte := bytes.getD i 0
    let at_ (i : Nat) : Nat := (byte i).toNat
    let two (i : Nat) : Nat := at_ i * 256 + at_ (i + 1)
    let place (k : CarId) : Int := (s.pos.cars.get k).accumulator.toInt / 1000
    let position (i : Nat) : Int := (BitVec.ofNat 24 (at_ i * 65536 + two (i + 1))).toInt
    let halted (b : Option Halt) : Nat := (match b with
      | some x => x.val
      | none => 0xFF)
    let headed (k : CarId) : Nat := (match ((s.trip.plan.head?.map stopPairs).getD []).find? (fun p => decide (p.car = k)) with
      | some p => p.halt.val
      | none => 0xF)
    let has (k : CarId) (x : DoorState) : Prop := ∃ sd c, (((s.doors.get k).sides.get sd).doors.get c).state = x
    let doors (k : CarId) (n : Nat) : Prop :=
      (has k .FAULT → n = 3) ∧ (¬ has k .FAULT → has k .UNKNOWN → n = 2) ∧
      (¬ has k .FAULT → ¬ has k .UNKNOWN → has k .RELEASED ∨ has k .OPEN ∨ has k .CLOSING → n = 1) ∧
      ((∀ sd c, (((s.doors.get k).sides.get sd).doors.get c).state = .LOCKED) → n = 0)
    bytes.length = 32 ∧
    [TripState.IDLE, .PARKED, .READY, .DEPARTING, .RUNNING, .AT_STOP, .STOPPING, .HELD, .TRIPPED][at_ 0]? = some s.trip.state ∧
    ((byte 1).getLsbD 0 = true ↔ s.trip.state ≠ .IDLE) ∧ ((byte 1).getLsbD 1 = true ↔ s.trip.mode = .CREEP) ∧
    ((byte 1).getLsbD 2 = true ↔ s.trip.dir = .DOWN) ∧ ((byte 1).getLsbD 3 = (s.pos.cars.get .car1).referenced) ∧
    ((byte 1).getLsbD 4 = (s.pos.cars.get .car2).referenced) ∧
    [HoldRequest.NONE, .SOFT, .HARD][at_ 1 / 32]? = some s.trip.hold ∧
    two 2 = s.trip.number.toNat ∧
    position 4 = max (-8388608) (min 8388607 (place .car1)) ∧ position 7 = max (-8388608) (min 8388607 (place .car2)) ∧
    at_ 10 = halted (s.trip.berth.get .car1) ∧ at_ 11 = halted (s.trip.berth.get .car2) ∧
    at_ 12 = headed .car1 + 16 * headed .car2 ∧
    (s.trip.plan.length ≤ 9 → at_ 13 = s.trip.plan.length) ∧
    (-32768 ≤ s.pos.measured → s.pos.measured ≤ 32767 → (BitVec.ofNat 16 (two 14)).toInt = s.pos.measured) ∧
    two 16 = min 0xFFE (1 + s.speed.vPerm / 5) ∧
    at_ 18 % 16 = stageRank s.brake.commanded ∧ ((byte 18).getLsbD 4 = true ↔ s.brake.latchS ≠ none) ∧
    ((byte 18).getLsbD 5 = true ↔ s.brake.latchE ≠ none) ∧ ((byte 18).getLsbD 6 = true ↔ s.brake.latchR ≠ none) ∧
    (byte 18).getLsbD 7 = false ∧
    doors .car1 (at_ 19 % 16) ∧ doors .car2 (at_ 19 / 16) ∧
    (∀ x : Halt, let n := two (20 + 2 * x.val)
      (s.gates.windows.get x = none → n = 0xFFFF) ∧
      (∀ w, s.gates.windows.get x = some w →
        let budget := w.capacity - w.base - w.admitted - w.reserved
        (32768 ≤ n ↔ w.isOpen = true) ∧ (budget ≤ 1023 → n % 32768 = budget))) ∧
    (s.trip.statusTimer = none → exec .statusTimerExpiry s = .next s) ∧
    (s.trip.statusTimer ≠ none → firstRole s.active.b .CONSOLE = none → exec .statusTimerExpiry s = .next t) ∧
    (s.trip.statusTimer ≠ none → ∀ e, firstRole s.active.b .CONSOLE = some e →
      exec .statusTimerExpiry s =
        .next (placeNormal (nodeSide e) ⟨e.address, s.mgmt.ownAddress, none, .lineStatus (statusBytes s)⟩ t)))

/-- DRIVE_STATE: the last drive state, a copy to the console, and in DEPARTING: not ready abandons the departure; the first proven torque
stops the proof timer and asks for RELEASED, which is taken with every door locked and no latch set and else refused (R74, R88, R63,
R166).
That a first proven torque that is not ready abandons without asking is the model's choice (notes/assumptions/44). -/
def Obligations.DriveStateProvesTorque : Prop :=
  ∀ (hdr : Header) (p : DriveStateP) (e : NodeEntry) (s : State), acceptedFrom s hdr (.driveState p) e →
    let h := heardOn hdr.port s
    let taken : Trip := { s.trip with lastDrive := some p }
    let origin : TripState := (match s.trip.origin with
      | some .PARKED => .PARKED
      | some .AT_STOP => .AT_STOP
      | _ => .HELD)
    let proves := s.trip.state = .DEPARTING ∧ p.ready = true ∧ p.torque = true ∧ s.trip.torqueTimer ≠ none
    ∃ u, exec (.driveState hdr p) s = .next (settle u) ∧
      (settle u).rest = { h.rest with lastDrive := some p } ∧
      (s.trip.state = .DEPARTING → p.ready = false →
        u.trip = { taken with
          state := origin, origin := none, virtualStop := none, readyTimer := none, torqueTimer := none } ∧
        u.brake = s.brake) ∧
      (proves → u.trip = { taken with torqueTimer := none } ∧
        (allLocked s = true → anyLatch s.brake = false → u.brake.wantsRelease = true) ∧
        (allLocked s = false ∨ anyLatch s.brake = true → u.brake = s.brake ∧ .tripReleaseLost ∈ u.agenda)) ∧
      (¬ proves → ¬ (s.trip.state = .DEPARTING ∧ p.ready = false) →
        u.bare = (copyToConsole hdr.src (.driveState p) { h with trip := taken }).bare)

/-- READY_TIMER_EXPIRY and TORQUE_PROOF_TIMER_EXPIRY: the departure returns to its origin state with its timers stopped; the plan, berths,
hold and trip number stay; the first makes DISPATCH_TIMEOUT pending; without the timer running in its state nothing follows (R86, R89).
That an expiry without its timer has no effect is the model's choice (notes/assumptions/6). -/
def Obligations.DepartureTimersReturnToTheOrigin : Prop :=
  ∀ s : State, s.power = .RUNNING →
    let origin : TripState := (match s.trip.origin with
      | some .PARKED => .PARKED
      | some .AT_STOP => .AT_STOP
      | _ => .HELD)
    let back : Trip := { s.trip with
      state := origin, origin := none, virtualStop := none, readyTimer := none, torqueTimer := none }
    let isReady := s.trip.state = .READY ∧ s.trip.readyTimer ≠ none
    let isProof := s.trip.state = .DEPARTING ∧ s.trip.torqueTimer ≠ none
    (isReady → ∃ u, exec .readyTimerExpiry s = .next (settle u) ∧ (settle u).rest = s.rest ∧ u.trip = back ∧
      (u.mgmt.notices.get (noticeIndex .DISPATCH_TIMEOUT)).pending = true ∧ .brakeTrip origin ∈ u.agenda) ∧
    (¬ isReady → quiet s = true → exec .readyTimerExpiry s = .next s) ∧
    (isProof → ∃ u, exec .torqueProofTimerExpiry s = .next (settle u) ∧ (settle u).rest = s.rest ∧ u.trip = back ∧
      u.mgmt = s.mgmt ∧ .brakeTrip origin ∈ u.agenda) ∧
    (¬ isProof → quiet s = true → exec .torqueProofTimerExpiry s = .next s)

/-- Brake released in DEPARTING enters RUNNING: the trip number counts a start from PARKED, origin and berths go, every halt is closed out
and every window erased, a pending group A commit is applied (R90). In RUNNING at standstill with every pair of the head stop in its
window the trip arrives: berths for the pairs, BERTHED for their halts, the stop removed, AT_STOP, or PARKED at the termini stop (R91).
From TRIPPED, a fall to HOLD arrives so, or parks the cars at the termini, or holds them, with berths from the windows (R93).
That BERTHED is given also when TRIPPED is left, and that the pending commit is applied at once, is read from the rules
(notes/assumptions/20, 10). -/
def Obligations.TripsRunArriveAndRecover : Prop :=
  (∀ s : State,
    let t := takeReleased s
    (s.trip.state ≠ .DEPARTING → t = s) ∧
    (s.trip.state = .DEPARTING →
      t.trip = { s.trip with
        state := .RUNNING
        number := if s.trip.origin = some .PARKED then s.trip.number + 1#16 else s.trip.number
        origin := none
        berth := ⟨none, none⟩
        virtualStop := none
        readyTimer := none
        torqueTimer := none } ∧
      (∀ x, t.gates.windows.get x = none) ∧ ((∀ v ∈ s.gates.queue, v.state ≠ .WAIT_PASS) → t.gates.queue = []) ∧
      t.speed.overrunRaised = false ∧
      (s.mgmt.commitA.pending = true → t.active.a = s.staged.a ∧ t.mgmt.commitA = ⟨false, .OK⟩ ∧
        (t.mgmt.notices.get (noticeIndex .COMMIT_APPLIED)).pending = true) ∧
      (s.mgmt.commitA.pending = false → t.active = s.active ∧ t.mgmt.commitA = s.mgmt.commitA) ∧
      .brakeTrip .RUNNING ∈ t.agenda ∧ .recompute false ∈ t.agenda ∧ .demandTrip (some .RUNNING) ∈ t.agenda ∧
      .tripArrival ∈ t.agenda)) ∧
  (∀ s : State,
    let b := s.active.b
    let place (k : CarId) : Int := (s.pos.cars.get k).accumulator.toInt / 1000
    let referenced (k : CarId) : Prop := (s.pos.cars.get k).referenced = true
    let inside (k : CarId) (x : Halt) : Prop := withinWindow b x (place k) = true
    let uphill : CarId := if s.trip.dir = .UP then .car1 else .car2
    let ahead (p : StopPair) : Int :=
      if p.car = uphill then stopPoint b p.halt - place p.car else place p.car - stopPoint b p.halt
    let arrived (p : StopPair) : Prop := referenced p.car ∧ ((ahead p).natAbs : Int) ≤ platformWindow b p.halt
    let fromWindow (k : CarId) : Option Halt :=
      if referenced k then allHalts.find? fun x => withinWindow b x (place k) else none
    let parkedDir (y : Trip) : Dir := if y.berth.get .car1 = some 0 then .UP else if y.berth.get .car1 = some 1 then .DOWN else s.trip.dir
    let parks (t : State) : Prop := t.trip.state = .PARKED ∧ t.trip.plan = [] ∧ t.trip.dir = parkedDir t.trip
    let announced (t : State) : Prop :=
      .brakeTrip t.trip.state ∈ t.agenda ∧ .recompute false ∈ t.agenda ∧ .demandTrip (some t.trip.state) ∈ t.agenda ∧
        t.trip.hold = s.trip.hold ∧ t.trip.number = s.trip.number ∧ t.trip.mode = s.trip.mode
    let gives (t : State) (given : Halt → Prop) : Prop := ∀ i : Fin 16,
      let e := s.active.a.pulses.get i
      let starts := yes e.enabled = true ∧ ∃ x, given x ∧ refEventOf e = some (.berthed x)
      (starts → t.pulses.get i = ⟨if e.start = 0#16 then .ACTIVE else .WAITING, some 0⟩) ∧
      (¬ starts → t.pulses.get i = s.pulses.get i)
    let arrives (st : Stop) (rest : List Stop) (old : CarId → Option Halt) (t : State) : Prop :=
      (∀ k, t.trip.berth.get k = (match (stopPairs st).find? (fun p => decide (p.car = k)) with
        | some p => some p.halt
        | none => old k)) ∧
      (st.first.source = .TERMINI → parks t) ∧
      (st.first.source ≠ .TERMINI → t.trip.state = .AT_STOP ∧ t.trip.plan = rest ∧ t.trip.dir = s.trip.dir) ∧
      gives t (fun x => ∃ p ∈ stopPairs st, p.halt = x) ∧ announced t
    let headArrived : Prop := ∃ st rest, s.trip.plan = st :: rest ∧ ∀ p ∈ stopPairs st, arrived p
    (s.trip.state = .RUNNING → s.pos.standstill = true → ∀ st rest, s.trip.plan = st :: rest → (∀ p ∈ stopPairs st, arrived p) →
      arrives st rest s.trip.berth.get (testArrival s)) ∧
    (s.trip.state ≠ .RUNNING ∨ s.pos.standstill = false ∨ ¬ headArrived → testArrival s = s) ∧
    (∀ old, 1 ≤ stageRank old → s.trip.state = .TRIPPED →
      let t := takeStage old .HOLD s
      (∀ st rest, s.trip.plan = st :: rest → (∀ p ∈ stopPairs st, arrived p) → arrives st rest (fun _ => none) t) ∧
      (¬ headArrived →
        let atTermini := (∀ k, referenced k) ∧ ((inside .car1 0 ∧ inside .car2 1) ∨ (inside .car1 1 ∧ inside .car2 0))
        (∀ k, t.trip.berth.get k = fromWindow k) ∧ gives t (fun x => ∃ k, fromWindow k = some x) ∧ announced t ∧
        (atTermini → parks t) ∧
        (¬ atTermini → t.trip.state = .HELD ∧ t.trip.plan = s.trip.plan ∧ t.trip.dir = s.trip.dir))))

/-! ## Doors -/

/-- DOOR_STATE: each record by the table of R102; a record that becomes RELEASED or OPEN is withdrawn by the evaluation that follows when it
lies outside the permitted set of R103 and no begun release of its side is still unanswered, or the car was unheard, and else stays; the
link is OK, the car heard, a matching answer clears the outstanding release, and the other car's doors stay.
An evaluation of the release interlock: a RELEASED or OPEN door outside the permitted set of R103 is withdrawn and one inside it stays,
as every door does on a side whose begun release is unanswered; the released set loses what lies outside and gains what is released or
adopted; an order with the next token carries what it found, merged with a queued one, whose withdrawals and releases the new finds
override, and becomes the outstanding release of a side it releases; without a find nothing is ordered (R103, R105, R106, R107).
That the outstanding release follows the merged order, that the hearing order withdraws the doors outside the permitted sets only, and
that a token is taken also where the node map names no relay, are read from the rules (notes/assumptions/21, 22, 15). -/
def Obligations.DoorStateSetsTheRecords : Prop :=
  (∀ (hdr : Header) (p : DoorStateP) (e : NodeEntry) (s : State), acceptedFrom s hdr (.doorState p) e →
     ∃ u, exec (.doorState hdr p) s = .next (settle u) ∧
       (settle u).rest = { (heardOn hdr.port s).rest with
         heard := s.rest.heard.set p.car true, linkFault := s.rest.linkFault.set p.car false } ∧
       u.doors.get (otherCar p.car) = s.doors.get (otherCar p.car) ∧ u.trip = s.trip ∧ u.seqs = s.seqs ∧
       (∀ sd c,
         let d := (s.doors.get p.car).sides.get sd
         let r := d.doors.get c
         let r' := ((u.doors.get p.car).sides.get sd).doors.get c
         let report : DoorReport := (match sd with
           | .LEFT => p.left.get c
           | .RIGHT => p.right.get c)
         let unanswered : Prop := ∃ o, d.outstanding = some o ∧ o.window ≠ none ∧ ¬ (p.mark = .ANSWER ∧ o.token = p.token)
         let withdrawn : Prop := (permittedSet s p.car sd).getLsbD c.val = false ∧
           ((s.doors.get p.car).heard = false ∨ ¬ unanswered)
         let closing : DoorRecord := ⟨.CLOSING, some (s.params.doorCloseLimit.toNat * 1000)⟩
         (report = .LOCKED → r' = ⟨.LOCKED, none⟩) ∧
         (report = .FAULT → r' = ⟨.FAULT, none⟩ ∧
           (r.state ≠ .FAULT → (u.mgmt.notices.get (noticeIndex .DOOR_FAULT)).pending = true)) ∧
         (report = .RELEASED ∨ report = .OPEN → r.state = .CLOSING → r' = r) ∧
         (report = .RELEASED → r.state ≠ .CLOSING → (withdrawn → r' = closing) ∧ (¬ withdrawn → r' = ⟨.RELEASED, none⟩)) ∧
         (report = .OPEN → r.state ≠ .CLOSING → (withdrawn → r' = closing) ∧ (¬ withdrawn → r' = ⟨.OPEN, none⟩))) ∧
       (∀ sd o, p.mark = .ANSWER → ((s.doors.get p.car).sides.get sd).outstanding = some o → o.token = p.token →
         ∀ o', ((u.doors.get p.car).sides.get sd).outstanding = some o' → o'.window = none)) ∧
  (∀ (k : CarId) (s : State),
     let t := evaluateDoors k s
     let perm (sd : Side) : Compartments := (match s.trip.berth.get k with
       | none => 0#4
       | some h =>
         if haltHasSide s.active.b h sd = true ∧ s.trip.state ≠ .IDLE ∧ s.brake.commanded ≠ .RELEASED ∧
             s.pos.measured.natAbs ≤ s.params.standstillSpeed.toNat ∧ (s.seqs.get h).published.getLsbD 2 = true then
           haltMask s.active.b h
         else 0#4)
     let side (sd : Side) : SideDoors := (s.doors.get k).sides.get sd
     let begun (sd : Side) : Prop := ∃ o, (side sd).outstanding = some o ∧ o.window ≠ none
     let inside (sd : Side) (c : Fin 4) : Prop := (perm sd).getLsbD c.val = true
     let unlocked (sd : Side) (c : Fin 4) : Prop :=
       ((side sd).doors.get c).state = .RELEASED ∨ ((side sd).doors.get c).state = .OPEN
     let released (sd : Side) (c : Fin 4) : Prop := (side sd).released.getLsbD c.val = true
     let withdraws (sd : Side) (c : Fin 4) : Prop := ¬ begun sd ∧ ¬ inside sd c ∧ (unlocked sd c ∨ released sd c)
     let releases (sd : Side) (c : Fin 4) : Prop :=
       (side sd).outstanding = none ∧ inside sd c ∧ ((side sd).doors.get c).state = .LOCKED ∧ ¬ released sd c
     let found : Prop := ∃ sd c, withdraws sd c ∨ releases sd c
     (∀ sd c, let r' := ((t.doors.get k).sides.get sd).doors.get c
       (unlocked sd c → withdraws sd c → r' = ⟨.CLOSING, some (s.params.doorCloseLimit.toNat * 1000)⟩) ∧
       (¬ unlocked sd c ∨ ¬ withdraws sd c → r' = (side sd).doors.get c) ∧
       (((t.doors.get k).sides.get sd).released.getLsbD c.val = true ↔
         (released sd c ∧ ¬ withdraws sd c) ∨ releases sd c ∨
           ((side sd).outstanding = none ∧ inside sd c ∧ unlocked sd c))) ∧
     (¬ found → (t.doors.get k).token = (s.doors.get k).token ∧ (t.doors.get k).queued = (s.doors.get k).queued ∧
       t.ports = s.ports) ∧
     (found → (t.doors.get k).token = (s.doors.get k).token + 1#8 ∧
       ∀ e, firstRole s.active.b (carRole k) = some e → ∃ o, (t.doors.get k).queued = some o ∧
         o.token = (s.doors.get k).token + 1#8 ∧
         ⟨e.address, s.mgmt.ownAddress, some (carRole k), .doorOrder k o⟩ ∈ t.ports.f.urgent ∧
         ((s.doors.get k).queued = none → ∀ c,
           (o.releaseLeft.getLsbD c.val = true ↔ releases .LEFT c) ∧ (o.releaseRight.getLsbD c.val = true ↔ releases .RIGHT c) ∧
           (o.withdrawLeft.getLsbD c.val = true ↔ withdraws .LEFT c) ∧
           (o.withdrawRight.getLsbD c.val = true ↔ withdraws .RIGHT c)) ∧
         (∀ q, (s.doors.get k).queued = some q → ∀ c,
           let both (b : Bool) (out inn : Prop) : Prop := (b = true ∧ ¬ out) ∨ inn
           (o.releaseLeft.getLsbD c.val = true ↔ both (q.releaseLeft.getLsbD c.val) (withdraws .LEFT c) (releases .LEFT c)) ∧
           (o.releaseRight.getLsbD c.val = true ↔ both (q.releaseRight.getLsbD c.val) (withdraws .RIGHT c) (releases .RIGHT c)) ∧
           (o.withdrawLeft.getLsbD c.val = true ↔ both (q.withdrawLeft.getLsbD c.val) (releases .LEFT c) (withdraws .LEFT c)) ∧
           (o.withdrawRight.getLsbD c.val = true ↔ both (q.withdrawRight.getLsbD c.val) (releases .RIGHT c) (withdraws .RIGHT c))) ∧
         ∀ sd,
           let now := ((t.doors.get k).sides.get sd).outstanding
           let release : Compartments := (match sd with
             | .LEFT => o.releaseLeft
             | .RIGHT => o.releaseRight)
           ((side sd).outstanding = none → release = 0#4 → now = none) ∧
           ((side sd).outstanding = none → release ≠ 0#4 → now = some ⟨o.token, none⟩) ∧
           (∀ a, (side sd).outstanding = some a →
             now = if (s.doors.get k).queued.map DoorOrder.token = some a.token then some { a with token := o.token } else some a)) ∧
     t.doors.get (otherCar k) = s.doors.get (otherCar k) ∧ t.trip = s.trip ∧ t.brake = s.brake ∧ t.gates = s.gates)

/-- DOOR_ANSWER_WINDOW_EXPIRY: a running window means a door link fault: an order with the next token withdraws what the sides had released
and releases nothing, merged with the queued order, both sides of the car are forgotten and DOOR_LINK_LOST occurs (R107, R111).
CLOSE_TIMER_EXPIRY: the closing record becomes FAULT and DOOR_FAULT occurs (R112).
That an expiry without its timer has no effect is the model's choice (notes/assumptions/6); that the token is taken and the queued order
stays where the node map names no relay is read from the rules (notes/assumptions/15). -/
def Obligations.DoorTimersFindFaults : Prop :=
  (∀ (k : CarId) (sd : Side) (s : State), s.power = .RUNNING →
    let running := ∃ o, ((s.doors.get k).sides.get sd).outstanding = some o ∧ o.window ≠ none
    (¬ running → quiet s = true → exec (.doorAnswerWindowExpiry k sd) s = .next s) ∧
    (running → ∃ u, exec (.doorAnswerWindowExpiry k sd) s = .next (settle u) ∧
      (settle u).rest = { s.rest with linkFault := s.rest.linkFault.set k true } ∧
      u.doors.get (otherCar k) = s.doors.get (otherCar k) ∧ u.trip = s.trip ∧
      (u.mgmt.notices.get (noticeIndex .DOOR_LINK_LOST)).pending = true ∧
      (u.doors.get k).token = (s.doors.get k).token + 1#8 ∧
      (∀ x, (u.doors.get k).sides.get x = ⟨Vector.replicate 4 ⟨.UNKNOWN, none⟩, 0#4, none⟩) ∧
      (firstRole s.active.b (carRole k) = none → (u.doors.get k).queued = (s.doors.get k).queued) ∧
      (∀ e, firstRole s.active.b (carRole k) = some e → ∃ o, (u.doors.get k).queued = some o ∧
        o.token = (s.doors.get k).token + 1#8 ∧
        ⟨e.address, s.mgmt.ownAddress, some (carRole k), .doorOrder k o⟩ ∈ u.ports.f.urgent ∧
        let wl := (s.doors.get k).sides.left.released
        let wr := (s.doors.get k).sides.right.released
        ((s.doors.get k).queued = none →
          o.releaseLeft = 0#4 ∧ o.releaseRight = 0#4 ∧ o.withdrawLeft = wl ∧ o.withdrawRight = wr) ∧
        (∀ q, (s.doors.get k).queued = some q →
          o.releaseLeft = q.releaseLeft &&& ~~~wl ∧ o.releaseRight = q.releaseRight &&& ~~~wr ∧
          o.withdrawLeft = q.withdrawLeft ||| wl ∧ o.withdrawRight = q.withdrawRight ||| wr)))) ∧
  (∀ (k : CarId) (c : Fin 4) (sd : Side) (s : State), s.power = .RUNNING →
    let r := ((s.doors.get k).sides.get sd).doors.get c
    let running := r.state = .CLOSING ∧ r.closeTimer ≠ none
    (¬ running → quiet s = true → exec (.closeTimerExpiry k c sd) s = .next s) ∧
    (running → ∃ u, exec (.closeTimerExpiry k c sd) s = .next (settle u) ∧
      (settle u).rest = s.rest ∧ u.doors.get (otherCar k) = s.doors.get (otherCar k) ∧ u.trip = s.trip ∧
      (u.mgmt.notices.get (noticeIndex .DOOR_FAULT)).pending = true ∧
      ((u.doors.get k).sides.get sd).doors.get c = ⟨.FAULT, none⟩))

/-! ## Sequencers and pulses -/

/-- STATE_TIMER_EXPIRY: the timer stops, timer done is yes, and one outside change, the rise of STATE_TIMER_DONE with it, makes a pass of
that sequencer due (R125, R127); a reference event starts or restarts every enabled entry that it matches; PULSE_START_OFFSET and
PULSE_END_OFFSET move an instance from WAITING to ACTIVE and from ACTIVE to IDLE (R134). A pass of a sequencer: in the answer that began
a cycling hold it ends at once; else the reset slot acts first, then a cycling hold ends, then the true slots, the lowest first, each
from the state that the one before entered; at the ninth transition of an answer the cycling hold begins, with its notice (R126, R128,
R129). The word of its end is published, and of the blocks only those to which a changed bit belongs act (R130). That a change of
STATE_TIMER_DONE in it is announced at its end is read from the rules (notes/assumptions/40).
That an expiry without its timer has no effect is the model's choice (notes/assumptions/6). -/
def Obligations.StationTimersMoveTheirRecords : Prop :=
  (∀ (q : Fin 6) (s : State), s.power = .RUNNING → s.agenda = [] →
    let r := s.seqs.get q
    (r.timer ≠ none → ∃ u, exec (.stateTimerExpiry q) s = .next (settle u) ∧ (settle u).rest = s.rest ∧
      u.bare = { s with seqs := vset s.seqs q { r with timer := none, timerDone := true } } ∧
      ∃ v, u.agenda.head? = some (.outside v (1#6 <<< q.val)) ∧
        ∀ h, v.get h = if h = q ∧ r.timerDone = false then 0x40#32 else 0#32) ∧
    (r.timer = none → quiet s = true → exec (.stateTimerExpiry q) s = .next s)) ∧
  (∀ (i : Fin 16) (s : State), s.power = .RUNNING →
    let r := s.pulses.get i
    let next (c : Instr) (st : PulseState) : Prop :=
      exec c s = .next { s with pulses := vset s.pulses i { r with state := st } }
    (r.state = .WAITING → next (.pulseStartOffset i) .ACTIVE) ∧
    (r.state ≠ .WAITING → exec (.pulseStartOffset i) s = .next s) ∧
    (r.state = .ACTIVE → next (.pulseEndOffset i) .IDLE) ∧
    (r.state ≠ .ACTIVE → exec (.pulseEndOffset i) s = .next s)) ∧
  (∀ (ev : RefEvent) (s : State),
    let t := giveEvent ev s
    { t with pulses := s.pulses } = s ∧
    ∀ i : Fin 16, let e := s.active.a.pulses.get i
      let starts := yes e.enabled = true ∧ refEventOf e = some ev
      (starts → t.pulses.get i = ⟨if e.start = 0#16 then .ACTIVE else .WAITING, some 0⟩) ∧
      (¬ starts → t.pulses.get i = s.pulses.get i)) ∧
  (∀ (p : Program) (w : BitVec 32),
     let first := stateOfCode p.initial
     let level (x : SeqRecord) (c : Byte) : Bool := if min 31 c.toNat = 6 then x.timerDone else w.getLsbD (min 31 c.toNat)
     let holds (x : SeqRecord) (i : Fin 24) : Prop := let sl := p.slots.get i
       yes sl.enabled = true ∧ sl.source.getLsbD x.state.val = true ∧ level x sl.condition ≠ yes sl.polarity
     let enter (st : Fin 8) (x : SeqRecord) : SeqRecord :=
       { x with state := st, loaded := p.outputs.get st, timer := programTimer p st, timerDone := false }
     let go (x : SeqRecord) : SeqRecord × Bool := passGo p w 10 x
     (∀ x : SeqRecord, ((∀ i, ¬ holds x i) → go x = (x, false)) ∧
       (∀ i, holds x i → (∀ j, j < i → ¬ holds x j) →
         (x.transitions < 8 →
           go x = go (enter ⟨i.val / 3, by omega⟩ { x with transitions := x.transitions + 1 })) ∧
         (8 ≤ x.transitions → go x =
           ({ x with state := first, loaded := 0#8, timer := none, timerDone := false, cyclingHold := true }, true)))) ∧
     (∀ (fresh : Bool) (r : SeqRecord),
       let x : SeqRecord := { r with transitions := if fresh then 0 else r.transitions }
       let resets := yes p.reset.enabled = true ∧ level r p.reset.condition ≠ yes p.reset.polarity
       (r.cyclingHold = true → fresh = false → passRecord p w fresh r = (r, false)) ∧
       (r.cyclingHold = false ∨ fresh = true →
         (resets → r.resetHeld = true → passRecord p w fresh r = (x, false)) ∧
         (resets → r.resetHeld = false →
           passRecord p w fresh r = (enter first { x with resetHeld := true, cyclingHold := false }, false)) ∧
         (¬ resets → r.cyclingHold = false → passRecord p w fresh r = go { x with resetHeld := false }) ∧
         (¬ resets → r.cyclingHold = true →
           passRecord p w fresh r = go (enter first { x with resetHeld := false, cyclingHold := false }))))) ∧
  (∀ (levels : Vector (BitVec 32) 6) (fresh : Bool) (q : Fin 6) (s : State),
     let r := passRecord (s.active.a.programs.get q) (passWord levels s q) fresh (s.seqs.get q)
     let old := (s.seqs.get q).published
     let word : Byte := if r.1.cyclingHold then 0#8 else r.1.loaded
     let t := seqPass tellTrip levels fresh q s
     let changed (b : Nat) : Prop := old.getLsbD b ≠ word.getLsbD b
     let given (b : Fin 3) (x : State) : State :=
       if changed (5 + b.val) then giveEvent (if word.getLsbD (5 + b.val) then .userRise q b else .userFall q b) x else x
     t.seqs = vset s.seqs q { r.1 with published := word } ∧
     (r.2 = true → (t.mgmt.notices.get (noticeIndex .SEQUENCER_CYCLING)).pending = true) ∧
     (¬ changed 2 → t.doors = s.doors) ∧
     (¬ changed 0 → ¬ changed 1 → t.gates = s.gates) ∧
     (¬ changed 0 → ¬ changed 3 → t.trip = s.trip) ∧
     (¬ changed 0 → ¬ changed 2 → ¬ changed 3 → t.pulses = (given 2 (given 1 (given 0 s))).pulses) ∧
     (word = old → t.brake = s.brake ∧ (r.2 = false → t.ports = s.ports ∧ t.mgmt = s.mgmt) ∧
       t.agenda = s.agenda ++ (if r.1.timerDone = (s.seqs.get q).timerDone then []
         else [.outside (Vector.ofFn fun h => if h = q then 0x40#32 else 0#32) 0#6])))

/-! ## Gates and the fare server -/

/-- Boarding windows and gate modes: ENTRY_OPEN rising with a car at the halt, and a berth given under ENTRY_OPEN, create or reopen the
window; ENTRY_OPEN falling, the last berth going and leaving service close the halt out: window closed, reservations released, every
undelivered entry refused CLOSED, a query handed on to the first entry MERGED to it of another halt; the entry to RUNNING closes out
every halt and erases the windows; the mode ordered of a heard gate is its desired mode (R139, R141, R142, R156).
That a close-out of several halts is made step by step for all of them is the model's choice (notes/assumptions/54). -/
def Obligations.BoardingWindowsOpenAndClose : Prop :=
  (∀ s : State,
    let berthed (x : Halt) (k : CarId) : Prop := s.trip.berth.get k = some x
    let capacity (k : CarId) : Nat := carCapacity s.active.a k
    let mass := s.active.a.fare.personMass.toNat
    let base (k : CarId) : Nat := (match (s.pos.cars.get k).load with
      | none => capacity k
      | some l => min (capacity k) ((l + (mass - 1)) / mass))
    let sum (x : Halt) (f : CarId → Nat) : Nat := (if berthed x .car1 then f .car1 else 0) + (if berthed x .car2 then f .car2 else 0)
    let opened (x : Halt) (w : Option Window) : Prop :=
      (∀ v, s.gates.windows.get x = some v → w = some { v with isOpen := true }) ∧
      (s.gates.windows.get x = none → 0 < mass →
        w = some ⟨true, ⟨decide (berthed x .car1), decide (berthed x .car2)⟩, sum x capacity, sum x base, 0, 0⟩)
    let same (x : Halt) (t : State) : Prop := t.gates.windows.get x = s.gates.windows.get x
    let closed (hs : Halt → Bool) (t : State) : Prop :=
      t.gates.queue = (closeOut hs s).gates.queue ∧ ∀ x, t.gates.windows.get x = (closeOut hs s).gates.windows.get x
    let desired (t : State) (g : GateId) : Bool :=
      let x := gateHalt t.active.a g
      gatePresent t.active.a g && decide (t.trip.state ≠ .IDLE) && !(t.gates.records.get g).fault &&
        (if gateIsExit t.active.a g then (t.seqs.get x).published.getLsbD 1
         else ((t.gates.windows.get x).map Window.isOpen).getD false)
    let ordered (t : State) : Prop := ∀ g,
      ((s.gates.records.get g).heard = true → (t.gates.records.get g).mode = some (desired t g)) ∧
      ((s.gates.records.get g).heard = false → t.gates.records.get g = s.gates.records.get g)
    (∀ x,
      let rise := gateTakesOutputs x true false s
      let fall := gateTakesOutputs x false true s
      ((∃ k, berthed x k) → opened x (rise.gates.windows.get x)) ∧ ((∀ k, ¬ berthed x k) → same x rise) ∧
      (∀ y, y ≠ x → same y rise) ∧ rise.gates.queue = s.gates.queue ∧ ordered rise ∧
      closed (fun y => y == x) fall ∧ ordered fall) ∧
    (∀ (lost gained : BitVec 6), let t := gateTakesTrip lost gained false s
      let goes (x : Halt) : Prop := lost.getLsbD x.val = true ∧ ∀ k, ¬ berthed x k
      ordered t ∧
      ((∀ x, ¬ goes x) → t.gates.queue = s.gates.queue ∧ ∀ x,
        (gained.getLsbD x.val = true → (s.seqs.get x).published.getLsbD 0 = true → opened x (t.gates.windows.get x)) ∧
        (gained.getLsbD x.val = false ∨ (s.seqs.get x).published.getLsbD 0 = false → same x t)) ∧
      (gained = 0#6 → (∃ x, goes x) → closed (fun x => lost.getLsbD x.val && (carsAt s x).isEmpty) t)) ∧
    (∀ lost, closed (fun _ => true) (gateTakesTrip lost 0#6 true s) ∧ ordered (gateTakesTrip lost 0#6 true s)) ∧
    (gateEntersRunning s).gates.queue = (closeOut (fun _ => true) s).gates.queue ∧
    (∀ x, (gateEntersRunning s).gates.windows.get x = none)) ∧
  (∀ (hs : Halt → Bool) (s : State),
    let t := closeOut hs s
    let held (x : Halt) : Nat :=
      (s.gates.queue.filter fun v => decide (v.halt = x ∧ v.state = .WAIT_GATE ∧ v.verdict = some .ADMIT)).length
    (∀ x, t.gates.windows.get x = (if hs x = true then
      (s.gates.windows.get x).map fun w => { w with isOpen := false, reserved := w.reserved - held x }
      else s.gates.windows.get x)) ∧
    (∀ v ∈ t.gates.queue, hs v.halt = true → v.state ≠ .WAIT_PASS →
      v.state = .WAIT_GATE ∧ v.verdict = some (.REFUSE .CLOSED 0#8) ∧ v.query = none ∧ v.mergedTo = none ∧ v.deadline = none ∧
        (slotsDistinct s = true → ∃ w ∈ t.gates.queue, w.gate = v.gate ∧ (w.state = .WAIT_PASS ∨ hs w.halt = false))) ∧
    (slotsDistinct s = true → ∀ front m back asker, s.gates.queue = front ++ m :: back → asker ∈ s.gates.queue →
      asker.state = .ASKING → hs asker.halt = true →
      let heir (v : VEntry) : Prop := v.state = .MERGED ∧ v.mergedTo = some asker.slot ∧ hs v.halt = false
      heir m → (∀ v ∈ front, ¬ heir v) →
        { m with state := .ASKING, query := asker.query, deadline := asker.deadline, mergedTo := none } ∈ t.gates.queue ∧
        ∀ v ∈ back, heir v → { v with mergedTo := some m.slot } ∈ t.gates.queue) ∧
    t.trip = s.trip ∧ t.seqs = s.seqs ∧ t.active = s.active)

/-- GATE_REQUEST: of a gate that the gate table leaves out, or a request the gate already has in the queue: nothing. The cases in their
order: a refusal without a decision goes out at once, or waits in WAIT_GATE behind an undelivered entry of its gate; BUSY comes with
QUEUE_FULL; a cache hit is decided LOCAL; a miss joins the entry that asks for its token, or asks under the next query number, or, with
the server lost, is decided OFFLINE and asks all the same (R137, R147 to R151, R153).
That an exit gate is refused CLOSED at once, that a gate left out is not heard, and which free place an entry takes, and that a refusal
without a decision is discarded when the queue is full, are the model's (notes/assumptions/28, 23, 17, 52); that a class above 15 is
read as 15 is read from R190 (notes/assumptions/37). -/
def Obligations.GateRequestsAreRefusedAdmittedOrAsked : Prop :=
  ∀ (hdr : Header) (p : GateRequestP) (e : NodeEntry) (s : State), acceptedFrom s hdr (.gateRequest p) e →
    let g := nodeGate e
    let a := s.active.a
    let x := gateHalt a g
    let cls := codeAt 15 p.cls
    let c := Instr.gateRequest hdr p
    let h := hearGate g (heardOn hdr.port s)
    let next (t : State) : Prop := quiet s = true → exec c s = .next t
    let refused (r : GateReason) (t : State) : State := sendRefusal g p.number r 0#8 t
    let isExit := gateIsExit a g = true
    let twice := ∃ v ∈ s.gates.queue, v.gate = g ∧ v.number = p.number
    let ahead := ∃ v ∈ s.gates.queue, v.gate = g ∧ v.state ≠ .WAIT_PASS
    let faulty := (s.gates.records.get g).fault = true
    let room : Prop := ∃ w, s.gates.windows.get x = some w ∧ w.isOpen = true ∧ 0 < windowBudget w
    let shut : Prop := ∀ w, s.gates.windows.get x = some w → w.isOpen = false
    let entry (i : SlotId) (st : EntryState) : VEntry := ⟨i, st, g, x, p.token, cls, p.number, none, none, none, none, none⟩
    let case (r : GateReason) : Prop :=
      (r = .GATE_FAULT ∧ faulty) ∨ (r = .CLOSED ∧ ¬ faulty ∧ shut) ∨ (r = .FULL ∧ ¬ faulty ∧ ¬ shut ∧ ¬ room)
    let sends (u : State) (d : Option NodeEntry) (y : Content) : Prop := ∀ n, d = some n →
      (u.ports.get (nodeSide n)).normal.length < 32 →
      ⟨n.address, s.mgmt.ownAddress, none, y⟩ ∈ (u.ports.get (nodeSide n)).normal
    let query := s.gates.queryCounter + 1#16
    let asked : Content := .fareQuery query p.token cls x g
    let reserves (u : State) : Prop :=
      u.gates.windows = vmod s.gates.windows x (Option.map fun w => { w with reserved := w.reserved + 1 })
    (gatePresent a g = false → next (heardOn hdr.port s)) ∧
    (gatePresent a g = true →
      (isExit → next (refused .CLOSED h)) ∧
      (¬ isExit → twice → next h) ∧
      (¬ isExit → ¬ twice → ∀ r, case r →
        (¬ ahead → next (refused r h)) ∧
        (ahead → freeSlot s.gates = none → next h) ∧
        (ahead → ∀ i, freeSlot s.gates = some i → ∃ u, exec c s = .next (settle u) ∧ (settle u).rest = (heardOn hdr.port s).rest ∧
          u.gates.windows = s.gates.windows ∧
          u.gates.queue = s.gates.queue ++ [{ entry i .WAIT_GATE with verdict := some (.REFUSE r 0#8) }])) ∧
      (¬ isExit → ¬ twice → ¬ faulty → room →
        (freeSlot s.gates = none →
          (¬ ahead → next (refused .BUSY (occur .QUEUE_FULL h))) ∧ (ahead → next (occur .QUEUE_FULL h))) ∧
        (∀ i, freeSlot s.gates = some i →
          let found := cacheFind a s.gates p.token
          let barred := passback s i p.token (found.bind CacheEntry.lastAdmitted) = true
          let misses := ∀ k, found = some k → cacheHit cls s.localTime k = false
          let alone := ∀ v ∈ s.gates.queue, v.gate ≠ g
          let acts (n : BitVec 16) (by_ : DecidedBy) (y : Verdict) (more : State → Prop) : Prop :=
            ∃ u, exec c s = .next (settle u) ∧ (settle u).rest = { (heardOn hdr.port s).rest with queryCounter := n } ∧ more u ∧
              (∀ v ∈ u.gates.queue, v.slot = i → v.verdict = some y ∧ v.decidedBy = some by_ ∧ v.query = none) ∧
              (y = .ADMIT → reserves u ∧ (∃ v ∈ u.gates.queue, v.slot = i) ∧
                ((∃ v ∈ s.gates.queue, v.gate = g ∧ v.state = .WAIT_PASS) →
                  u.gates.queue = s.gates.queue ++ [{ entry i .WAIT_GATE with verdict := some .ADMIT, decidedBy := some by_ }]) ∧
                (alone → sends u (gateNode s.active.b g) (.gateAdmitOne p.number) ∧
                  u.gates.queue = s.gates.queue ++ [{ entry i .WAIT_PASS with
                    verdict := some .ADMIT, decidedBy := some by_, deadline := some (passDeadline s g) }])) ∧
              (∀ r sr, y = .REFUSE r sr → u.gates.windows = s.gates.windows ∧
                (alone → u.gates.queue = s.gates.queue ∧ sends u (gateNode s.active.b g) (.gateRefuse p.number r sr)))
          (∀ k, found = some k → cacheHit cls s.localTime k = true →
            acts s.gates.queryCounter .LOCAL
              (match k.verdict with
               | .REFUSE r sr => .REFUSE r sr
               | .ADMIT => if k.rides = some 0 then .REFUSE .NO_RIDES 0#8 else if barred then .REFUSE .PASSBACK 0#8 else .ADMIT)
              fun _ => True) ∧
          (misses → s.gates.serverLost = true →
            acts query .OFFLINE
              (if barred then .REFUSE .PASSBACK 0#8 else if classAdmits a cls then .ADMIT else .REFUSE .OFFLINE 0#8)
              fun u => sends u (firstRole s.active.b .FARE_SERVER) asked) ∧
          (misses → s.gates.serverLost = false → ∀ m, s.gates.queue.find? (fun v => (v.state == .ASKING) && (v.token == p.token)) = m →
            ∃ u, exec c s = .next (settle u) ∧ u.gates.windows = s.gates.windows ∧
              (∀ v, m = some v → (settle u).rest = (heardOn hdr.port s).rest ∧
                u.gates.queue = s.gates.queue ++ [{ entry i .MERGED with mergedTo := some v.slot }]) ∧
              (m = none → (settle u).rest = { (heardOn hdr.port s).rest with queryCounter := query } ∧
                sends u (firstRole s.active.b .FARE_SERVER) asked ∧
                u.gates.queue = s.gates.queue ++ [{ entry i .ASKING with query := some query, deadline := some 300 }])))))

/-- FARE_ANSWER: the cache entry of the token takes the answer, the timeouts are 0 and the server is not lost; an ASKING entry of that query
and token is decided by the SERVER: the answer's refusal, NO_RIDES, PASSBACK for a token in flight or admitted too recently, FULL
without a budget, else ADMIT with its reservation; the entries MERGED to it are decided after it, refused with PASSBACK where it was
admitted; without such an entry nothing is decided (R152). FARE_DEADLINE_EXPIRY: one timeout more, at most 3; at 3 the server is lost,
with its notice; the entry is decided OFFLINE: PASSBACK, OFFLINE by the policy of its class, FULL without a budget, else ADMIT; an
admitted token's cache entry is provisional; the entries MERGED to it are decided after it, refused with PASSBACK where it was admitted;
without a running deadline of an ASKING entry nothing follows (R153).
That an expiry without its timer has no effect is the model's choice (notes/assumptions/6); that a class above 15 is read as 15 is read
from R190 (notes/assumptions/37). -/
def Obligations.FareAnswersAndDeadlinesDecide : Prop :=
  (∀ (hdr : Header) (p : FareAnswerP) (e : NodeEntry) (s : State), acceptedFrom s hdr (.fareAnswer p) e →
     let a := s.active.a
     let admits := p.verdict = .ADMIT
     let filled : CacheEntry :=
       { token := p.token
         cls := codeAt 15 p.cls
         verdict := if admits then .ADMIT else .REFUSE .SERVER p.serverReason
         rides := if p.rides = 0xFFFF#16 then none else some p.rides.toNat
         validUntil := some (if admits then s.localTime + 60 * p.minutes.toNat else s.localTime + 60)
         lastAdmitted := (cacheFind a s.gates p.token).bind CacheEntry.lastAdmitted
         provisional := false
         stale := false }
     let asks (v : VEntry) : Prop := v.state = .ASKING ∧ v.query = some p.query ∧ v.token = p.token
     let decided (x : VEntry) : Prop := (x.state = .WAIT_GATE ∨ x.state = .WAIT_PASS) ∧ x.decidedBy = some .SERVER ∧
       x.query = none ∧ x.mergedTo = none
     ∃ u, exec (.fareAnswer hdr p) s = .next (settle u) ∧
       (settle u).rest = { (heardOn hdr.port s).rest with timeouts := 0, serverLost := false } ∧
       cacheFind a u.gates p.token = some filled ∧ u.trip = s.trip ∧
       ((∀ v ∈ s.gates.queue, ¬ asks v) → u.gates.queue = s.gates.queue ∧ u.gates.windows = s.gates.windows) ∧
       (slotsDistinct s = true → ∀ v ∈ s.gates.queue, asks v → (∀ x ∈ s.gates.queue, asks x → x = v) →
         let inFlight : Prop := ∃ x ∈ s.gates.queue, x.slot ≠ v.slot ∧ x.token = v.token ∧ x.verdict = some .ADMIT ∧
           (x.state = .WAIT_GATE ∨ x.state = .WAIT_PASS)
         let recent : Prop := ∃ l, filled.lastAdmitted = some l ∧ s.localTime - l < a.fare.passback.toNat
         let room : Prop := ∃ w, s.gates.windows.get v.halt = some w ∧ w.base + w.admitted + w.reserved < w.capacity
         let waits (m : VEntry) : Prop := m.state = .MERGED ∧ m.mergedTo = some v.slot
         let gets (y : Verdict) : Prop :=
           (∀ x ∈ u.gates.queue, x.slot = v.slot → decided x ∧ x.verdict = some y) ∧
           (y = .ADMIT → ∃ x ∈ u.gates.queue, x.slot = v.slot) ∧
           ((∀ m ∈ s.gates.queue, ¬ waits m) → u.gates.windows = (if y = .ADMIT then
             vmod s.gates.windows v.halt (Option.map fun w => { w with reserved := w.reserved + 1 }) else s.gates.windows)) ∧
           (∀ m ∈ s.gates.queue, waits m → m.token = p.token → ∀ x ∈ u.gates.queue, x.slot = m.slot → decided x ∧
             (¬ admits → x.verdict = some (.REFUSE .SERVER p.serverReason)) ∧
             (admits → p.rides = 0#16 → x.verdict = some (.REFUSE .NO_RIDES 0#8)) ∧
             (admits → p.rides ≠ 0#16 → y = .ADMIT → x.verdict = some (.REFUSE .PASSBACK 0#8)))
         (¬ admits → gets (.REFUSE .SERVER p.serverReason)) ∧
         (admits → p.rides = 0#16 → gets (.REFUSE .NO_RIDES 0#8)) ∧
         (admits → p.rides ≠ 0#16 → inFlight ∨ recent → gets (.REFUSE .PASSBACK 0#8)) ∧
         (admits → p.rides ≠ 0#16 → ¬ (inFlight ∨ recent) → room → gets .ADMIT) ∧
         (admits → p.rides ≠ 0#16 → ¬ (inFlight ∨ recent) → ¬ room → gets (.REFUSE .FULL 0#8)))) ∧
  (∀ (i : SlotId) (s : State), s.power = .RUNNING →
     let n := min 3 (s.gates.timeouts + 1)
     let expires := ∃ v, entryAt s.gates i = some v ∧ v.state = .ASKING ∧ v.deadline ≠ none
     let decided (x : VEntry) : Prop := (x.state = .WAIT_GATE ∨ x.state = .WAIT_PASS) ∧ x.decidedBy = some .OFFLINE ∧
       x.query = none ∧ x.mergedTo = none
     (¬ expires → quiet s = true → exec (.fareDeadlineExpiry i) s = .next s) ∧
     (expires → ∃ u, exec (.fareDeadlineExpiry i) s = .next (settle u) ∧
       (settle u).rest = { s.rest with timeouts := n, serverLost := s.gates.serverLost || decide (n = 3) } ∧
       (n = 3 → s.gates.serverLost = false → (u.mgmt.notices.get (noticeIndex .FARE_SERVER_LOST)).pending = true) ∧
       u.trip = s.trip ∧
       (slotsDistinct s = true → ∀ v, entryAt s.gates i = some v →
         let found := cacheFind s.active.a s.gates v.token
         let inFlight : Prop := ∃ x ∈ s.gates.queue, x.slot ≠ i ∧ x.token = v.token ∧ x.verdict = some .ADMIT ∧
           (x.state = .WAIT_GATE ∨ x.state = .WAIT_PASS)
         let recent : Prop := ∃ l, found.bind CacheEntry.lastAdmitted = some l ∧ s.localTime - l < s.active.a.fare.passback.toNat
         let offline : Prop := ∃ c : Fin 16, c.val = v.cls ∧ s.active.a.classPolicy.get c = 0#8
         let room : Prop := ∃ w, s.gates.windows.get v.halt = some w ∧ w.base + w.admitted + w.reserved < w.capacity
         let waits (m : VEntry) : Prop := m.state = .MERGED ∧ m.mergedTo = some i
         let gets (y : Verdict) : Prop :=
           (∀ x ∈ u.gates.queue, x.slot = i → decided x ∧ x.verdict = some y) ∧
           (y = .ADMIT → (∃ x ∈ u.gates.queue, x.slot = i) ∧
             cacheFind s.active.a u.gates v.token = some (match found with
               | some c => { c with provisional := true }
               | none => ⟨v.token, v.cls, .ADMIT, none, none, none, true, false⟩)) ∧
           ((∀ m ∈ s.gates.queue, ¬ waits m) → u.gates.windows = (if y = .ADMIT then
             vmod s.gates.windows v.halt (Option.map fun w => { w with reserved := w.reserved + 1 }) else s.gates.windows)) ∧
           (∀ m ∈ s.gates.queue, waits m → m.token = v.token → ∀ x ∈ u.gates.queue, x.slot = m.slot →
             decided x ∧ (y = .ADMIT → x.verdict = some (.REFUSE .PASSBACK 0#8)))
         (inFlight ∨ recent → gets (.REFUSE .PASSBACK 0#8)) ∧
         (¬ (inFlight ∨ recent) → ¬ offline → gets (.REFUSE .OFFLINE 0#8)) ∧
         (¬ (inFlight ∨ recent) → offline → room → gets .ADMIT) ∧
         (¬ (inFlight ∨ recent) → offline → ¬ room → gets (.REFUSE .FULL 0#8)))))

/-- GATE_PASSAGE and WAIT_PASS_DEADLINE_EXPIRY: exit passages are counted; a matching entry leaves the queue and its reservation ends; when
it passed it becomes an admission, the cache entry of its token has one ride less and its last admission now, or goes when it was stale
and this was its last use, and a FARE_USE goes out for a LOCAL or OFFLINE decision; a passage without an entry is unverified and sets
the gate's fault (R140, R154, R155).
That an expiry without its timer has no effect, and that a passage whose window holds no reservation is not admitted, and that 0 rides
stay 0, are the model's choices; that a gate left out is not heard is read from the rules (notes/assumptions/6, 33, 53, 23). -/
def Obligations.PassagesEndReservations : Prop :=
  (∀ (hdr : Header) (p : GatePassageP) (e : NodeEntry) (s : State), acceptedFrom s hdr (.gatePassage p) e →
    let g := nodeGate e
    let x := gateHalt s.active.a g
    let h := hearGate g (heardOn hdr.port s)
    let here (v : VEntry) : Bool := (v.gate == g) && (v.state == .WAIT_PASS) && (v.number == p.number)
    let found := s.gates.queue.find? here
    let counted (c : Vector Nat 6) : Vector Nat 6 := vmod c x satInc
    let isExit := gateIsExit s.active.a g = true
    (gatePresent s.active.a g = false → quiet s = true → exec (.gatePassage hdr p) s = .next (heardOn hdr.port s)) ∧
    (gatePresent s.active.a g = true →
      (isExit → p.outcome = .passed → quiet s = true →
        exec (.gatePassage hdr p) s = .next { h with gates := { h.gates with exits := counted s.gates.exits } }) ∧
      (p.outcome = .expired → (isExit ∨ found = none) → quiet s = true → exec (.gatePassage hdr p) s = .next h) ∧
      (¬ isExit → ∀ v, found = some v → ∃ u, exec (.gatePassage hdr p) s = .next (settle u) ∧
        (settle u).rest = (heardOn hdr.port s).rest ∧ (∀ y ∈ u.gates.queue, y.slot ≠ v.slot) ∧
        u.gates.windows = vmod s.gates.windows v.halt (Option.map fun w =>
          { w with
            reserved := w.reserved - 1
            admitted := w.admitted + (if p.outcome = .passed ∧ 0 < w.reserved then 1 else 0) }) ∧
        let a := s.active.a
        let all := s.gates.bank0 ++ s.gates.bank1
        let used (b : DecidedBy) : Content := .fareUse v.token v.cls v.halt v.gate s.localTime b
        (p.outcome = .passed → ∀ c, cacheFind a s.gates v.token = some c →
          (c.stale = false → cacheFind a u.gates v.token =
            some { c with rides := c.rides.map (· - 1), lastAdmitted := some s.localTime }) ∧
          ((∀ y ∈ all, y.token = v.token → y.stale = true) →
            (∀ y ∈ s.gates.queue, y.slot ≠ v.slot → y.token ≠ v.token) → cacheFind a u.gates v.token = none)) ∧
        (∀ q y, y ∈ (u.ports.get q).normal → contentKind y.content = 0x24#8 → y ∉ (h.ports.get q).normal →
          p.outcome = .passed ∧ ∃ b, v.decidedBy = some b ∧ b ≠ .SERVER ∧ y.content = used b) ∧
        (p.outcome = .passed → ∀ b, v.decidedBy = some b → b ≠ .SERVER → ∀ e', firstRole s.active.b .FARE_SERVER = some e' →
          (u.ports.get (nodeSide e')).normal.length < 32 →
          ⟨e'.address, s.mgmt.ownAddress, none, used b⟩ ∈ (u.ports.get (nodeSide e')).normal)) ∧
      (¬ isExit → found = none → p.outcome = .passed → ∃ u, exec (.gatePassage hdr p) s = .next (settle u) ∧
        (settle u).rest = { (heardOn hdr.port s).rest with unverified := counted s.gates.unverified } ∧
        (u.gates.records.get g).fault = true ∧ u.gates.queue = s.gates.queue ∧ u.gates.windows = s.gates.windows ∧
        (u.mgmt.notices.get (noticeIndex .UNVERIFIED_PASSAGE)).pending = true ∧
        (u.mgmt.notices.get (noticeIndex .GATE_FAULT)).pending = true))) ∧
  (∀ (i : SlotId) (s : State), s.power = .RUNNING →
    (∀ v, entryAt s.gates i = some v → v.state = .WAIT_PASS → v.deadline ≠ none →
      ∃ u, exec (.waitPassDeadlineExpiry i) s = .next (settle u) ∧ (settle u).rest = s.rest ∧
        (∀ y ∈ u.gates.queue, y.slot ≠ i) ∧
        u.gates.windows = vmod s.gates.windows v.halt (Option.map fun w => { w with reserved := w.reserved - 1 })) ∧
    ((∀ v, entryAt s.gates i = some v → ¬ (v.state = .WAIT_PASS ∧ v.deadline ≠ none)) → quiet s = true →
      exec (.waitPassDeadlineExpiry i) s = .next s))

/-! ## Management -/

/-- MGMT_READ and MGMT_WRITE: the checks of R173 in order, then the segment of the record as it stands, all ones under READ_LOCK, or the
record with that segment replaced; nothing changes but the record written and the answer (R175, R176).
That a segment beyond its record is NO_ITEM whatever the locks, the bytes of the lock defaults, and the zeros in the detail of a NO_ITEM
answer, are the model's choices (notes/assumptions/58, 56, 67). -/
def Obligations.RecordsAreReadAndWritten : Prop :=
  (∀ (hdr : Header) (p : MgmtReadP) (e : NodeEntry) (s : State), acceptedFrom s hdr (.mgmtRead p) e → quiet s = true →
    let bank := p.bank.toNat
    let barred := nodeRole e = .CONSOLE ∧ bank = 5 ∧ (p.item.toNat = 1 ∨ p.item.toNat = 4)
    let record := readBytes (heardOn hdr.port s) bank p.item.toNat p.index.toNat p.staged
    let answered (c : MgmtCode) (d : List Byte) : Prop :=
      exec (.mgmtRead hdr p) s = .next (answerMgmt hdr p.tag 0x10 c (detail d) (heardOn hdr.port s))
    (barred ∨ record = none → answered .NO_ITEM []) ∧
    (¬ barred → ∀ b, record = some b →
      (segmentCount b ≤ p.segment.toNat → answered .NO_ITEM []) ∧
      (p.segment.toNat < segmentCount b →
        let head := [p.bank, p.item, p.index, p.segment] ++ natBytes 1 (segmentCount b)
        (s.mgmt.locks.read = true → bank ≤ 3 → answered .OK (head ++ List.replicate 24 0xFF#8)) ∧
        (s.mgmt.locks.read = false ∨ 3 < bank → answered .OK (head ++ segmentBytes b p.segment.toNat))))) ∧
  (∀ (hdr : Header) (p : MgmtWriteP) (e : NodeEntry) (s : State), acceptedFrom s hdr (.mgmtWrite p) e → quiet s = true →
    let bank := p.bank.toNat
    let item := p.item.toNat
    let barred := nodeRole e = .CONSOLE ∧ bank = 5 ∧ (item = 1 ∨ item = 4)
    let record := writableBytes s bank item p.index.toNat
    let answer (c : MgmtCode) : State := answerMgmt hdr p.tag 0x11 c (List.replicate 29 0#8) (heardOn hdr.port s)
    let answered (t : State) : Prop := exec (.mgmtWrite hdr p) s = .next t
    (s.mgmt.locks.writeAll = true → answered (answer .OK)) ∧
    (s.mgmt.locks.writeAll = false →
      (barred ∨ record = none → answered (answer .NO_ITEM)) ∧
      (¬ barred → ∀ b, record = some b →
        let new := withSegment b p.segment.toNat p.data.toList
        (segmentCount b ≤ p.segment.toNat → answered (answer .NO_ITEM)) ∧
        (p.segment.toNat < segmentCount b →
          (bank ≤ 3 → s.mgmt.locks.write = true → answered (answer .OK)) ∧
          (s.mgmt.locks.write = false → 2 ≤ bank → bank ≤ 3 → s.mgmt.commitA.pending = true → answered (answer .PENDING)) ∧
          (s.mgmt.locks.write = false → bank ≤ 3 → (bank ≤ 1 ∨ s.mgmt.commitA.pending = false) →
            answered { answer .OK with staged := tableWrite s.staged bank item p.index.toNat new }) ∧
          (3 < bank → item = 1 →
            answered { answer .OK with mgmt := { (answer .OK).mgmt with lockDefaults := locksOfBytes new } }) ∧
          (3 < bank → item ≠ 1 →
            answered { answer .OK with mgmt := { (answer .OK).mgmt with nodeAddress := byteAt new 0 } })))))

/-- COMMIT: the checks of R173; a pending group A; INVALID with the first failing item; in service WRONG_STATE for group B and pending for
group A; else the staged group is the active one, its last result OK, COMMIT_APPLIED pending, and OK the answer (R177, R178).
Which record INVALID names where a condition concerns several is the model's choice (notes/assumptions/12); that OK is placed before
what the commit places is read from the rules (notes/assumptions/14). -/
def Obligations.CommitAppliesTheStagedGroup : Prop :=
  ∀ (hdr : Header) (tag arg : Byte) (e : NodeEntry) (s : State), acceptedFrom s hdr (.mgmtControl tag 0 arg) e →
    let m := s.mgmt
    let h := heardOn hdr.port s
    let next (c : MgmtCode) (d : List Byte) (f : Management → Management) : Prop :=
      let t := answerMgmt hdr tag 0x12 c (detail d) h
      quiet s = true → exec (.commit hdr tag arg) s = .next { t with mgmt := f t.mgmt }
    let same (m : Management) : Management := m
    let answered (u : State) : Prop := ∃ behind, (u.ports.get hdr.port).normal =
      ((answerMgmt hdr tag 0x12 .OK (detail []) h).ports.get hdr.port).normal ++ behind
    let outside := s.trip.state = .IDLE
    (m.locks.writeAll = true → next .OK [] same) ∧
    (m.locks.writeAll = false →
      (2 ≤ arg.toNat → next .NO_ITEM [] same) ∧
      (arg = 0#8 →
        (m.commitA.pending = true → next .PENDING [] same) ∧
        (m.commitA.pending = false →
          (∀ r, invalidA s.staged.a s.active.b = some r →
            next .INVALID (refBytes r) fun m => { m with commitA := ⟨false, .INVALID r⟩ }) ∧
          (invalidA s.staged.a s.active.b = none → ¬ outside →
            next .PENDING [] fun m => { m with commitA := { m.commitA with pending := true } }) ∧
          (invalidA s.staged.a s.active.b = none → outside → ∃ u, exec (.commit hdr tag arg) s = .next (settle u) ∧
            (settle u).rest = h.rest ∧ u.active = ⟨s.staged.a, s.active.b⟩ ∧ u.mgmt.commitA = ⟨false, .OK⟩ ∧
            (u.mgmt.notices.get (noticeIndex .COMMIT_APPLIED)).pending = true ∧ u.trip = s.trip ∧ answered u))) ∧
      (arg = 1#8 →
        (∀ r, invalidB s.staged.b s.active.a m.ownAddress = some r →
          next .INVALID (refBytes r) fun m => { m with commitB := ⟨false, .INVALID r⟩ }) ∧
        (invalidB s.staged.b s.active.a m.ownAddress = none → ¬ outside →
          next .WRONG_STATE [] fun m => { m with commitB := ⟨false, .WRONG_STATE⟩ }) ∧
        (invalidB s.staged.b s.active.a m.ownAddress = none → outside → ∃ u, exec (.commit hdr tag arg) s = .next (settle u) ∧
          (settle u).active.b = s.staged.b ∧ (settle u).staged = s.staged ∧ (settle u).mgmt.commitB = ⟨false, .OK⟩ ∧
          (u.mgmt.notices.get (noticeIndex .COMMIT_APPLIED)).pending = true ∧
          u.trip.state = .IDLE ∧
          u.trip.lineCap = clampNat s.staged.b.params.creepSpeed.toNat s.staged.b.params.designMax.toNat s.trip.lineCap ∧
          answered u)))

/-- ABANDON: the staged group equals the active one again and a pending commit of the group is cancelled, its last result kept; answered OK
in every line state (R179), after the checks of R173. -/
def Obligations.AbandonRestoresTheStagedGroup : Prop :=
  ∀ (hdr : Header) (tag arg : Byte) (e : NodeEntry) (s : State), acceptedFrom s hdr (.mgmtControl tag 1 arg) e →
    quiet s = true →
    let m := s.mgmt
    let answer (c : MgmtCode) : State := answerMgmt hdr tag 0x12 c (List.replicate 29 0#8) (heardOn hdr.port s)
    let next (t : State) : Prop := exec (.abandon hdr tag arg) s = .next t
    (m.locks.writeAll = true → next (answer .OK)) ∧
    (m.locks.writeAll = false →
      (2 ≤ arg.toNat → next (answer .NO_ITEM)) ∧
      (arg = 0#8 → next { answer .OK with
        staged := ⟨s.active.a, s.staged.b⟩
        mgmt := { m with commitA := ⟨false, m.commitA.last⟩ } }) ∧
      (arg = 1#8 → next { answer .OK with
        staged := ⟨s.staged.a, s.active.b⟩
        mgmt := { m with commitB := ⟨false, m.commitB.last⟩ } }))

/-- SET_LOCK, CLEAR_COUNTERS, INVALIDATE_CACHE, CLEAR_GATE and an unknown operation: the checks of R173, then OK and the one effect of the
operation, CLEAR_COUNTERS on every counter of R183 (R180, R183, R145, R155). A SET_LOCK that names no lock is refused as kind refused
(R190).
That the argument byte is ignored by an operation that uses none is read from the rules (notes/assumptions/25). -/
def Obligations.OperationsHaveOneEffectEach : Prop :=
  (∀ (hdr : Header) (tag arg : Byte) (e : NodeEntry) (s : State), s.power = .RUNNING → s.agenda = [] →
    (s.ports.get hdr.port).link = .UP → sourceEntry s hdr 0x12 = some e → 3 ≤ arg.toNat →
    let p := s.ports.get hdr.port
    exec (.setLock hdr tag arg) s = .next { s with ports := s.ports.set hdr.port { p with
      silence := some 20
      counters := { p.counters with
        received := satInc p.counters.received, kindRefused := satInc p.counters.kindRefused } } }) ∧
  (∀ (hdr : Header) (tag op arg : Byte) (e : NodeEntry) (s : State), acceptedFrom s hdr (.mgmtControl tag op arg) e →
    quiet s = true →
    let m := s.mgmt
    let maint := nodeRole e ≠ .CONSOLE
    let free := m.locks.writeAll = false
    let answer (c : MgmtCode) : State := answerMgmt hdr tag 0x12 c (List.replicate 29 0#8) (heardOn hdr.port s)
    let next (c : Instr) (t : State) : Prop := exec c s = .next t
    let locked (l : Locks) : State := { answer .OK with mgmt := { m with locks := l } }
    (m.locks.writeAll = true →
      (op = 4#8 → next (.setLock hdr tag arg) (answer .OK)) ∧ (op = 6#8 → next (.clearCounters hdr tag arg) (answer .OK)) ∧
      (op = 7#8 → next (.invalidateCache hdr tag arg) (answer .OK)) ∧ (op = 9#8 → next (.clearGate hdr tag arg) (answer .OK)) ∧
      (10 ≤ op.toNat → next (.unknownMgmtOperation hdr tag op arg) (answer .OK))) ∧
    (op = 4#8 → free → ¬ maint → next (.setLock hdr tag arg) (answer .NO_ITEM)) ∧
    (op = 4#8 → free → maint →
      (arg = 0#8 → next (.setLock hdr tag arg) (locked { m.locks with read := true })) ∧
      (arg = 1#8 → next (.setLock hdr tag arg) (locked { m.locks with write := true })) ∧
      (arg = 2#8 → next (.setLock hdr tag arg) (locked { m.locks with writeAll := true }))) ∧
    (op = 6#8 → free → next (.clearCounters hdr tag arg)
      (let zero : PortCounters := ⟨0, 0, 0, 0, 0, 0, 0⟩
       let quietChannel (c : ChannelState) : ChannelState := { c with duplicates := 0, gaps := 0, rejections := 0 }
       { answer .OK with
         pos := { s.pos with chan := ⟨quietChannel s.pos.chan.a, quietChannel s.pos.chan.b⟩ }
         filter := { s.filter with clamps := 0, rewrites := 0, ignored := 0 }
         brake := { s.brake with stale := 0 }
         gates := { s.gates with
           refusals := Vector.replicate 8 0, unverified := Vector.replicate 6 0, exits := Vector.replicate 6 0 }
         ports := ⟨{ (answer .OK).ports.c with counters := zero }, { (answer .OK).ports.f with counters := zero }⟩ })) ∧
    (op = 7#8 → free → next (.invalidateCache hdr tag arg)
      { answer .OK with gates := { s.gates with
        bank0 := (s.gates.bank0.filter fun c => tokenInUse s.gates.queue c.token).map fun c => { c with stale := true }
        bank1 := (s.gates.bank1.filter fun c => tokenInUse s.gates.queue c.token).map fun c => { c with stale := true } } }) ∧
    (op = 9#8 → free → 16 ≤ arg.toNat → next (.clearGate hdr tag arg) (answer .NO_ITEM)) ∧
    (op = 9#8 → free → ∀ g : GateId, arg.toNat = g.val → next (.clearGate hdr tag arg)
      (updateMode g { answer .OK with gates := { s.gates with
        records := vset s.gates.records g { s.gates.records.get g with fault := false } } })) ∧
    (10 ≤ op.toNat → free → next (.unknownMgmtOperation hdr tag op arg) (answer .NO_ITEM)))

/-- NEXT_NOTICE: the pending record of highest priority is reported with the number still pending after it, and cleared; without one the
answer is OK with no notice; no lock and no role bars it (R182).
That the argument byte is ignored by an operation that uses none is read from the rules (notes/assumptions/25). -/
def Obligations.NextNoticeTakesTheHighestPriority : Prop :=
  ∀ (hdr : Header) (tag arg : Byte) (e : NodeEntry) (s : State), acceptedFrom s hdr (.mgmtControl tag 5 arg) e →
    quiet s = true →
    let next (d : List Byte) (v : Vector NoticeRecord 24) : Prop :=
      let t := answerMgmt hdr tag 0x12 .OK (d ++ List.replicate (29 - d.length) 0#8) (heardOn hdr.port s)
      exec (.nextNotice hdr tag arg) s = .next { t with mgmt := { t.mgmt with notices := v } }
    ((∀ i, (s.mgmt.notices.get i).pending = false) → next [] s.mgmt.notices) ∧
    (∀ i, (s.mgmt.notices.get i).pending = true → (∀ j, j < i → (s.mgmt.notices.get j).pending = false) →
      let r := s.mgmt.notices.get i
      let left := ((List.finRange 24).filter fun j => decide (j ≠ i) && (s.mgmt.notices.get j).pending).length
      next (natBytes 1 (i.val + 1) ++ natBytes 1 r.count ++ optBytes 4 r.first ++ optBytes 4 r.latest ++ natBytes 1 left)
        (vset s.mgmt.notices i ⟨false, 0, none, none⟩))

/-- STORE, STORE_COMPLETE and RELOAD: a store takes the contents as they stand and is answered at its end, OK with a store that agrees or
INVALID with one that does not; a reload is refused as R173, R183 and R187 say, and else is answered OK and starts the part on the
store's tables, keeping local time, the order counter and the last store result (R187, R189).
That the argument byte is ignored, and that an answer is placed before its effect, is read from the rules (notes/assumptions/25, 14);
what a store that does not agree holds, that STORE_COMPLETE without a STORE in flight has no effect, and that a queued DEMAND takes the
direction of the start-up, are the model's choices (notes/assumptions/29, 45, 46). -/
def Obligations.StoreAndReloadCarryTheTables : Prop :=
  (∀ (hdr : Header) (tag op arg : Byte) (e : NodeEntry) (s : State), acceptedFrom s hdr (.mgmtControl tag op arg) e →
    let m := s.mgmt
    let h := heardOn hdr.port s
    let answer (c : MgmtCode) : State := answerMgmt hdr tag 0x12 c (List.replicate 29 0#8) h
    let next (c : Instr) (t : State) : Prop := quiet s = true → exec c s = .next t
    let free := m.locks.writeAll = false
    let taken : StoreFlight := ⟨⟨s.active, m.lockDefaults, m.nodeAddress⟩, tag, hdr.src, hdr.port⟩
    let allowed := s.trip.state = .IDLE ∧ s.pos.standstill = true ∧ s.brake.commanded = .HOLD ∧ m.flight = none
    (op = 2#8 →
      (¬ free → next (.store hdr tag arg) (answer .OK)) ∧
      (free → m.flight ≠ none → next (.store hdr tag arg) (answer .BUSY)) ∧
      (free → m.flight = none → next (.store hdr tag arg) { h with mgmt := { m with flight := some taken } })) ∧
    (op = 3#8 →
      (s.agenda = [] → ¬ free → exec (.reload hdr tag arg) s = .next (answer .OK)) ∧
      (s.agenda = [] → free → nodeRole e = .CONSOLE → exec (.reload hdr tag arg) s = .next (answer .NO_ITEM)) ∧
      (s.agenda = [] → free → nodeRole e ≠ .CONSOLE → ¬ allowed → exec (.reload hdr tag arg) s = .next (answer .WRONG_STATE)) ∧
      (free → nodeRole e ≠ .CONSOLE → allowed → ∃ u, exec (.reload hdr tag arg) s = .next (settle u) ∧
        let t := (loadStore m.store).1.tables
        u.active = t ∧ (settle u).staged = t ∧ (settle u).localMs = s.localMs ∧
        (settle u).mgmt.storeLast = m.storeLast ∧ (settle u).mgmt.loadedFrom = (loadStore m.store).2 ∧
        (settle u).mgmt.locks = (loadStore m.store).1.lockDefaults ∧
        u.trip = Trip.start t.b.params.designMax.toNat ∧ u.brake.latchE = some .START ∧
        u.brake.counter = s.brake.counter + 1#8 ∧
        (∃ behind, (u.ports.get hdr.port).normal = ((answer .OK).ports.get hdr.port).normal ++ behind) ∧
        (s.trip.dir ≠ .UP → u.agenda.getLast? = some (.demandTrip none))))) ∧
  (∀ (agrees : Bool) (s : State), s.power = .RUNNING →
    (s.mgmt.flight = none → exec (.storeComplete agrees) s = .next s) ∧
    (∀ f, s.mgmt.flight = some f → ∃ x, (x.contents = f.contents ∧ storeAgrees x = agrees) ∧
      exec (.storeComplete agrees) s = .next (answerMgmt ⟨f.port, s.mgmt.ownAddress, f.src⟩ f.tag 0x12
        (if agrees then .OK else .INVALID) (if agrees then List.replicate 29 0#8 else detail (List.replicate 3 0xFF#8))
        { s with mgmt := { s.mgmt with
          flight := none, storeLast := if agrees then .OK else .FAILED, store := x } })))

/-! ## Power -/

/-- POWER_ON, RESET_PIN and POWER_LOSS. Start-up loads the store, or the factory tables where it does not agree or a STORE was cut short,
gives every block its start values, raises START with order 1, makes ESTOP active, and makes the sequencers' first passes; the raw pin
levels and the waiting commands stay. A RESET pin that is low holds a powered part, and its release starts a held one; power lost or the
pin driven low cuts a STORE in flight short (R187, R188, R21, R38, R52, R73, R100, R119, R132, R136, R157, R172, R184).
From which power states these three act, what a part held in reset holds, and what a store cut short holds, are the model's choices
(notes/assumptions/27, 34, 29). That car 1's doors are evaluated before car 2's is the model's choice (notes/assumptions/38), as is that
the filter timers run for the times of the loaded tables (notes/assumptions/66); that the passes of start-up are one answer is read from
the rules (notes/assumptions/11). -/
def Obligations.StartUpSetsEveryBlock : Prop :=
  ∀ s : State,
    let f := s.mgmt.flight
    let ld : StoreContents × LoadedFrom :=
      if f = none then loadStore s.mgmt.store else (⟨Tables.factory, ⟨false, false, false⟩, 0xF0#8⟩, .CHECK_FAILED)
    let t := ld.1.tables
    let p := t.b.params
    let kept (m : Management) : Prop := (f = none → m.store = s.mgmt.store) ∧ (f ≠ none → storeAgrees m.store = false)
    let held (x : Host.Outcome State Fault Refusal) : Prop := ∃ u, x = .next u ∧ u.power = .HELD_IN_RESET ∧ u.resetLow = true ∧
      u.sigDriven = false ∧ u.ports = ⟨Port.start, Port.start⟩ ∧ u.pending = s.pending ∧ kept u.mgmt
    (s.resetLow = true → held (exec .powerOn s)) ∧
    (s.resetLow = false → ∃ v, exec .powerOn s = .next (settle (startPasses v)) ∧
      (settle (startPasses v)).rest = v.rest ∧
      v.power = .RUNNING ∧ v.resetLow = false ∧ v.localMs = 0 ∧ v.sigDriven = true ∧ v.active = t ∧ v.staged = t ∧
      v.pending = s.pending ∧ v.agenda = [.tripStage .HOLD .EMERGENCY, .doorEval .car1, .doorEval .car2] ∧
      v.pos = Position.start p.sampleLossTime.toNat ∧ v.speed = SpeedRecord.start p.designMax.toNat ∧
      v.filter = FilterRecord.start ∧ v.trip = Trip.start p.designMax.toNat ∧ v.gates = GateUnit.start ∧
      v.brake = { Supervisor.start 1 with
        commanded := .EMERGENCY
        active := [.ESTOP]
        latchE := some .START
        outstanding := some ⟨1, .EMERGENCY, none⟩
        decel := some ⟨0, p.emergencyDecel.toNat, 500⟩ } ∧
      (∀ k, v.doors.get k = CarDoors.start 0 none) ∧
      (∀ q, let g := t.a.programs.get q
        v.seqs.get q = {
          state := stateOfCode g.initial
          loaded := g.outputs.get (stateOfCode g.initial)
          published := 0#8
          timer := programTimer g (stateOfCode g.initial)
          timerDone := false
          resetHeld := false
          cyclingHold := false
          transitions := 0 }) ∧
      (∀ i, refEventOf (t.a.pulses.get i) ≠ some .latchSet → v.pulses.get i = ⟨.IDLE, none⟩) ∧
      v.ports.c.urgent = [] ∧
      v.ports.f.urgent = (match firstRole t.b .BRAKE with
        | some e => [⟨e.address, ld.1.ownAddress, some .BRAKE, .brakeOrder 1 .EMERGENCY⟩]
        | none => []) ∧
      (∀ q, { v.ports.get q with urgent := [], normal := [] } = Port.start ∧
        ∀ x ∈ (v.ports.get q).normal, contentKind x.content = 0x27#8) ∧
      (∀ i, v.dins.get i = ⟨(s.dins.get i).raw, none, some (t.b.filterTimes.get i).toNat⟩) ∧
      v.mgmt.locks = ld.1.lockDefaults ∧ v.mgmt.lockDefaults = ld.1.lockDefaults ∧ v.mgmt.ownAddress = ld.1.ownAddress ∧
      v.mgmt.nodeAddress = ld.1.ownAddress ∧ v.mgmt.commitA = CommitStatus.start ∧ v.mgmt.commitB = CommitStatus.start ∧
      v.mgmt.loadedFrom = ld.2 ∧ v.mgmt.storeLast = .none ∧ v.mgmt.flight = none ∧ kept v.mgmt ∧
      (∀ i, (v.mgmt.notices.get i).pending =
        decide (i = noticeIndex .EMERGENCY_STAGE ∨ (ld.2 ≠ .STORE ∧ i = noticeIndex .CONFIG_INVALID)))) ∧
    (s.power = .HELD_IN_RESET → exec (.resetPin .released) s = exec .powerOn { s with resetLow := false }) ∧
    (s.power ≠ .HELD_IN_RESET → exec (.resetPin .released) s = .next { s with resetLow := false }) ∧
    (s.power = .OFF → exec (.resetPin .drivenLow) s = .next { s with resetLow := true }) ∧
    (s.power ≠ .OFF → held (exec (.resetPin .drivenLow) s)) ∧
    (f = none → exec .powerLoss s = .next { s with power := .OFF, sigDriven := false }) ∧
    (f ≠ none → ∃ u, exec .powerLoss s = .next u ∧ u.power = .OFF ∧ u.sigDriven = false ∧ u.mgmt.flight = none ∧
      storeAgrees u.mgmt.store = false ∧ u = { s with power := .OFF, sigDriven := false, mgmt := u.mgmt })

/-! ## The whole part -/

/-- Every step keeps the commanded stage at the highest that an active cause, a set latch or the trip request demands (R62). -/
def Obligations.StageStaysInForce : Prop :=
  ∀ s t : State, stageInForce s = true → step s = .next t → stageInForce t = true

/-- Every step keeps the urgent queue of port C empty and that of port F with at most one frame of each of the six keys (R168). -/
def Obligations.UrgentKeysStayDistinct : Prop :=
  ∀ s t : State, urgentQueuesOk s = true → step s = .next t → urgentQueuesOk t = true

/-- Every step keeps at most 9 stops in the plan and no (car, halt) pair twice (R77). -/
def Obligations.PlanStaysWellFormed : Prop :=
  ∀ s t : State, planOk s = true → step s = .next t → planOk t = true

/-- Every step keeps at most one entry in a place of the validation queue and at most one entry of a gate in WAIT_PASS (R146, R151). -/
def Obligations.OnePassageAtATime : Prop :=
  ∀ s t : State, slotsDistinct s = true → onePassPerGate s = true → step s = .next t →
    slotsDistinct t = true ∧ onePassPerGate t = true

/-- The active generation of group B changes only while the line is out of service, or at a power-on or a RESET pin start-up (R178). -/
def Obligations.GroupBChangesOnlyOutOfService : Prop :=
  ∀ (c : Instr) (s t : State), exec c s = .next t → t.active.b ≠ s.active.b →
    s.trip.state = .IDLE ∨ c = .powerOn ∨ ∃ edge, c = .resetPin edge

/-- Every step keeps at most 32 frames in a normal queue, every occurrence count at 255 or below, and at every halt the admitted and the
reserved count within the capacity snapshot less the base snapshot of its boarding window (R168, R181, R143).
That a passage whose window holds no reservation is not admitted is the model's choice (notes/assumptions/33). -/
def Obligations.BoundedQueuesAndCounts : Prop :=
  ∀ s t : State, step s = .next t →
    (normalQueuesOk s = true → normalQueuesOk t = true) ∧ (noticeCountsOk s = true → noticeCountsOk t = true) ∧
    (windowsWithinRoom s = true → windowsWithinRoom t = true)

/-- A set lock stays set until a power-on, a RESET pin start-up or a RELOAD, whichever row the RELOAD comes in (R180, R159). -/
def Obligations.LocksStaySet : Prop :=
  ∀ (c : Instr) (s t : State), exec c s = .next t → c ≠ .powerOn → (∀ edge, c ≠ .resetPin edge) →
    (∀ hdr tag arg, c ≠ .reload hdr tag arg) →
    (∀ hdr tag arg, c ≠ .unknownMgmtOperation hdr tag 3#8 arg) →
    (∀ q f, c = .frameWhileSyncing q f ∨ c = .unacceptedFrame q f ∨ c = .transitFrame q f →
      ∀ tag arg, readPayload f.kind f.payload ≠ some (.mgmtControl tag 3#8 arg)) →
    (s.mgmt.locks.read = true → t.mgmt.locks.read = true) ∧
    (s.mgmt.locks.write = true → t.mgmt.locks.write = true) ∧
    (s.mgmt.locks.writeAll = true → t.mgmt.locks.writeAll = true)

/-- A record of banks 0 to 3 reads back as the bytes that were written, every other record of the generation stays, and the bytes of a
record, written, leave the generation as it was: no byte of a layout is dropped (R174, R192). A frame that the part builds has the
length of its kind and a check that agrees, and a DEMAND, DRIVE_STATE or BRAKE_STATE that it sends on reads back as it was (R190, R191). -/
def Obligations.RecordsReadBackAsWritten : Prop :=
  (∀ (t : Tables) (bank item index : Nat) (old : List Byte), tableBytes t bank item index = some old →
     (∀ new : List Byte, new.length = old.length →
       tableBytes (tableWrite t bank item index new) bank item index = some new ∧
       ∀ bank' item' index', (bank', item', index') ≠ (bank, item, index) →
         tableBytes (tableWrite t bank item index new) bank' item' index' = tableBytes t bank' item' index') ∧
     tableWrite t bank item index old = t) ∧
  (∀ f : OutFrame,
     let sized (n : Nat) : Prop := (sentFrame f).length = BitVec.ofNat 8 n ∧ rawValid (sentFrame f) = true
     (∀ number stage, f.content = .brakeOrder number stage → sized 2) ∧
     (∀ p, f.content = .demand p → sized 5 ∧ readPayload 0x09 (sentFrame f).payload = some (.demand p)) ∧
     (∀ car order, f.content = .doorOrder car order → sized 6) ∧
     (∀ opened, f.content = .gateSetMode opened → sized 5) ∧
     (∀ number, f.content = .gateAdmitOne number → sized 5) ∧
     (∀ number reason sr, f.content = .gateRefuse number reason sr → sized 5) ∧
     (∀ query token cls halt gate, f.content = .fareQuery query token cls halt gate → sized 13) ∧
     (∀ token cls halt gate time by_, f.content = .fareUse token cls halt gate time by_ → sized 16) ∧
     (∀ number kind answer, f.content = .lineAnswer number kind answer → sized 4) ∧
     (∀ s : State, f.content = .lineStatus (statusBytes s) → sized 32) ∧
     (∀ n time count, f.content = .notice n time count → sized 6) ∧
     (∀ tag kind code d, f.content = .mgmtAnswer tag kind code (detail d) → sized 32) ∧
     (∀ p, f.content = .driveState p → sized 2 ∧ readPayload 0x0A (sentFrame f).payload = some (.driveState p)) ∧
     (∀ p, f.content = .brakeState p → sized 2 ∧ readPayload 0x0B (sentFrame f).payload = some (.brakeState p)))

/-- What reset leaves: every invariant above, the line out of service under latch E with EMERGENCY commanded, both ports DOWN, an empty
queue of commands (R73, R188). The tables are those of a part whose store holds nothing valid (notes/assumptions/3). -/
def Obligations.ResetMeetsTheInvariants : Prop :=
  let s := State.reset
  stageInForce s = true ∧ urgentQueuesOk s = true ∧ planOk s = true ∧ slotsDistinct s = true ∧ onePassPerGate s = true ∧
    normalQueuesOk s = true ∧ noticeCountsOk s = true ∧ windowsWithinRoom s = true ∧ s.trip.state = .IDLE ∧ s.brake.latchE = some .START ∧
    s.brake.commanded = .EMERGENCY ∧ s.ports.c.link = .DOWN ∧ s.ports.f.link = .DOWN ∧ s.active = Tables.factory ∧
    s.staged = s.active ∧ s.pending = []
end

