-- ==== Sys2Proof/Laws/State.lean ====
section
/-!
SUPPORT. One lemma per field per update, true by `rfl`, so that no later proof unfolds a record update; and the laws of
reading and replacing an entry of a table or one of two values.
-/

namespace Sys2Proof.Machine

/-! ## Entries of tables -/

@[simp] theorem vset_get_self {α : Type} {n : Nat} (v : Vector α n) (i : Fin n) (x : α) : (vset v i x).get i = x := by
  simp [vset, Vector.get_eq_getElem]

theorem vset_get_ne {α : Type} {n : Nat} (v : Vector α n) {i j : Fin n} (x : α) (h : j ≠ i) :
    (vset v i x).get j = v.get j := by
  have e : i.val ≠ j.val := fun e => h (Fin.ext e.symm)
  simp [vset, Vector.get_eq_getElem, e]

@[simp] theorem vmod_get_self {α : Type} {n : Nat} (v : Vector α n) (i : Fin n) (f : α → α) :
    (vmod v i f).get i = f (v.get i) := by
  simp [vmod]

theorem vmod_get_ne {α : Type} {n : Nat} (v : Vector α n) {i j : Fin n} (f : α → α) (h : j ≠ i) :
    (vmod v i f).get j = v.get j := by
  simp [vmod, vset_get_ne v _ h]

@[simp] theorem PerCar.get_set_self {α : Type} (p : PerCar α) (k : CarId) (x : α) : (p.set k x).get k = x := by
  cases k <;> rfl

theorem PerCar.get_set_ne {α : Type} (p : PerCar α) {k j : CarId} (x : α) (h : j ≠ k) : (p.set k x).get j = p.get j := by
  cases k <;> cases j <;> first | rfl | exact absurd rfl h

@[simp] theorem PerPort.get_set_self {α : Type} (p : PerPort α) (q : PortId) (x : α) : (p.set q x).get q = x := by
  cases q <;> rfl

theorem PerPort.get_set_ne {α : Type} (p : PerPort α) {q r : PortId} (x : α) (h : r ≠ q) : (p.set q x).get r = p.get r := by
  cases q <;> cases r <;> first | rfl | exact absurd rfl h

@[simp] theorem PerChannel.get_set_self {α : Type} (p : PerChannel α) (ch : Channel) (x : α) : (p.set ch x).get ch = x := by
  cases ch <;> rfl

theorem PerChannel.get_set_ne {α : Type} (p : PerChannel α) {c d : Channel} (x : α) (h : d ≠ c) :
    (p.set c x).get d = p.get d := by
  cases c <;> cases d <;> first | rfl | exact absurd rfl h

@[simp] theorem PerSide.get_set_self {α : Type} (p : PerSide α) (sd : Side) (x : α) : (p.set sd x).get sd = x := by
  cases sd <;> rfl

theorem PerSide.get_set_ne {α : Type} (p : PerSide α) {c d : Side} (x : α) (h : d ≠ c) :
    (p.set c x).get d = p.get d := by
  cases c <;> cases d <;> first | rfl | exact absurd rfl h

/-! ## announce -/

@[simp] theorem announce_power (a : Ann) (s : State) : (announce a s).power = s.power := rfl
@[simp] theorem announce_localMs (a : Ann) (s : State) : (announce a s).localMs = s.localMs := rfl
@[simp] theorem announce_pos (a : Ann) (s : State) : (announce a s).pos = s.pos := rfl
@[simp] theorem announce_speed (a : Ann) (s : State) : (announce a s).speed = s.speed := rfl
@[simp] theorem announce_filter (a : Ann) (s : State) : (announce a s).filter = s.filter := rfl
@[simp] theorem announce_brake (a : Ann) (s : State) : (announce a s).brake = s.brake := rfl
@[simp] theorem announce_trip (a : Ann) (s : State) : (announce a s).trip = s.trip := rfl
@[simp] theorem announce_doors (a : Ann) (s : State) : (announce a s).doors = s.doors := rfl
@[simp] theorem announce_seqs (a : Ann) (s : State) : (announce a s).seqs = s.seqs := rfl
@[simp] theorem announce_pulses (a : Ann) (s : State) : (announce a s).pulses = s.pulses := rfl
@[simp] theorem announce_resetLow (a : Ann) (s : State) : (announce a s).resetLow = s.resetLow := rfl
@[simp] theorem announce_sigDriven (a : Ann) (s : State) : (announce a s).sigDriven = s.sigDriven := rfl
@[simp] theorem announce_gates (a : Ann) (s : State) : (announce a s).gates = s.gates := rfl
@[simp] theorem announce_ports (a : Ann) (s : State) : (announce a s).ports = s.ports := rfl
@[simp] theorem announce_dins (a : Ann) (s : State) : (announce a s).dins = s.dins := rfl
@[simp] theorem announce_mgmt (a : Ann) (s : State) : (announce a s).mgmt = s.mgmt := rfl
@[simp] theorem announce_active (a : Ann) (s : State) : (announce a s).active = s.active := rfl
@[simp] theorem announce_staged (a : Ann) (s : State) : (announce a s).staged = s.staged := rfl
@[simp] theorem announce_agenda (a : Ann) (s : State) : (announce a s).agenda = s.agenda ++ [a] := rfl
@[simp] theorem announce_pending (a : Ann) (s : State) : (announce a s).pending = s.pending := rfl

/-! ## modPort -/

@[simp] theorem modPort_power (q : PortId) (f : Port → Port) (s : State) : (modPort q f s).power = s.power := rfl
@[simp] theorem modPort_localMs (q : PortId) (f : Port → Port) (s : State) : (modPort q f s).localMs = s.localMs := rfl
@[simp] theorem modPort_pos (q : PortId) (f : Port → Port) (s : State) : (modPort q f s).pos = s.pos := rfl
@[simp] theorem modPort_speed (q : PortId) (f : Port → Port) (s : State) : (modPort q f s).speed = s.speed := rfl
@[simp] theorem modPort_filter (q : PortId) (f : Port → Port) (s : State) : (modPort q f s).filter = s.filter := rfl
@[simp] theorem modPort_brake (q : PortId) (f : Port → Port) (s : State) : (modPort q f s).brake = s.brake := rfl
@[simp] theorem modPort_trip (q : PortId) (f : Port → Port) (s : State) : (modPort q f s).trip = s.trip := rfl
@[simp] theorem modPort_doors (q : PortId) (f : Port → Port) (s : State) : (modPort q f s).doors = s.doors := rfl
@[simp] theorem modPort_seqs (q : PortId) (f : Port → Port) (s : State) : (modPort q f s).seqs = s.seqs := rfl
@[simp] theorem modPort_pulses (q : PortId) (f : Port → Port) (s : State) : (modPort q f s).pulses = s.pulses := rfl
@[simp] theorem modPort_resetLow (q : PortId) (f : Port → Port) (s : State) : (modPort q f s).resetLow = s.resetLow := rfl
@[simp] theorem modPort_sigDriven (q : PortId) (f : Port → Port) (s : State) : (modPort q f s).sigDriven = s.sigDriven := rfl
@[simp] theorem modPort_gates (q : PortId) (f : Port → Port) (s : State) : (modPort q f s).gates = s.gates := rfl
@[simp] theorem modPort_ports (q : PortId) (f : Port → Port) (s : State) : (modPort q f s).ports = s.ports.set q (f (s.ports.get q)) := rfl
@[simp] theorem modPort_dins (q : PortId) (f : Port → Port) (s : State) : (modPort q f s).dins = s.dins := rfl
@[simp] theorem modPort_mgmt (q : PortId) (f : Port → Port) (s : State) : (modPort q f s).mgmt = s.mgmt := rfl
@[simp] theorem modPort_active (q : PortId) (f : Port → Port) (s : State) : (modPort q f s).active = s.active := rfl
@[simp] theorem modPort_staged (q : PortId) (f : Port → Port) (s : State) : (modPort q f s).staged = s.staged := rfl
@[simp] theorem modPort_agenda (q : PortId) (f : Port → Port) (s : State) : (modPort q f s).agenda = s.agenda := rfl
@[simp] theorem modPort_pending (q : PortId) (f : Port → Port) (s : State) : (modPort q f s).pending = s.pending := rfl

/-! ## modPos -/

@[simp] theorem modPos_power (f : Position → Position) (s : State) : (modPos f s).power = s.power := rfl
@[simp] theorem modPos_localMs (f : Position → Position) (s : State) : (modPos f s).localMs = s.localMs := rfl
@[simp] theorem modPos_pos (f : Position → Position) (s : State) : (modPos f s).pos = f s.pos := rfl
@[simp] theorem modPos_speed (f : Position → Position) (s : State) : (modPos f s).speed = s.speed := rfl
@[simp] theorem modPos_filter (f : Position → Position) (s : State) : (modPos f s).filter = s.filter := rfl
@[simp] theorem modPos_brake (f : Position → Position) (s : State) : (modPos f s).brake = s.brake := rfl
@[simp] theorem modPos_trip (f : Position → Position) (s : State) : (modPos f s).trip = s.trip := rfl
@[simp] theorem modPos_doors (f : Position → Position) (s : State) : (modPos f s).doors = s.doors := rfl
@[simp] theorem modPos_seqs (f : Position → Position) (s : State) : (modPos f s).seqs = s.seqs := rfl
@[simp] theorem modPos_pulses (f : Position → Position) (s : State) : (modPos f s).pulses = s.pulses := rfl
@[simp] theorem modPos_resetLow (f : Position → Position) (s : State) : (modPos f s).resetLow = s.resetLow := rfl
@[simp] theorem modPos_sigDriven (f : Position → Position) (s : State) : (modPos f s).sigDriven = s.sigDriven := rfl
@[simp] theorem modPos_gates (f : Position → Position) (s : State) : (modPos f s).gates = s.gates := rfl
@[simp] theorem modPos_ports (f : Position → Position) (s : State) : (modPos f s).ports = s.ports := rfl
@[simp] theorem modPos_dins (f : Position → Position) (s : State) : (modPos f s).dins = s.dins := rfl
@[simp] theorem modPos_mgmt (f : Position → Position) (s : State) : (modPos f s).mgmt = s.mgmt := rfl
@[simp] theorem modPos_active (f : Position → Position) (s : State) : (modPos f s).active = s.active := rfl
@[simp] theorem modPos_staged (f : Position → Position) (s : State) : (modPos f s).staged = s.staged := rfl
@[simp] theorem modPos_agenda (f : Position → Position) (s : State) : (modPos f s).agenda = s.agenda := rfl
@[simp] theorem modPos_pending (f : Position → Position) (s : State) : (modPos f s).pending = s.pending := rfl

/-! ## modTrip -/

@[simp] theorem modTrip_power (f : Trip → Trip) (s : State) : (modTrip f s).power = s.power := rfl
@[simp] theorem modTrip_localMs (f : Trip → Trip) (s : State) : (modTrip f s).localMs = s.localMs := rfl
@[simp] theorem modTrip_pos (f : Trip → Trip) (s : State) : (modTrip f s).pos = s.pos := rfl
@[simp] theorem modTrip_speed (f : Trip → Trip) (s : State) : (modTrip f s).speed = s.speed := rfl
@[simp] theorem modTrip_filter (f : Trip → Trip) (s : State) : (modTrip f s).filter = s.filter := rfl
@[simp] theorem modTrip_brake (f : Trip → Trip) (s : State) : (modTrip f s).brake = s.brake := rfl
@[simp] theorem modTrip_trip (f : Trip → Trip) (s : State) : (modTrip f s).trip = f s.trip := rfl
@[simp] theorem modTrip_doors (f : Trip → Trip) (s : State) : (modTrip f s).doors = s.doors := rfl
@[simp] theorem modTrip_seqs (f : Trip → Trip) (s : State) : (modTrip f s).seqs = s.seqs := rfl
@[simp] theorem modTrip_pulses (f : Trip → Trip) (s : State) : (modTrip f s).pulses = s.pulses := rfl
@[simp] theorem modTrip_resetLow (f : Trip → Trip) (s : State) : (modTrip f s).resetLow = s.resetLow := rfl
@[simp] theorem modTrip_sigDriven (f : Trip → Trip) (s : State) : (modTrip f s).sigDriven = s.sigDriven := rfl
@[simp] theorem modTrip_gates (f : Trip → Trip) (s : State) : (modTrip f s).gates = s.gates := rfl
@[simp] theorem modTrip_ports (f : Trip → Trip) (s : State) : (modTrip f s).ports = s.ports := rfl
@[simp] theorem modTrip_dins (f : Trip → Trip) (s : State) : (modTrip f s).dins = s.dins := rfl
@[simp] theorem modTrip_mgmt (f : Trip → Trip) (s : State) : (modTrip f s).mgmt = s.mgmt := rfl
@[simp] theorem modTrip_active (f : Trip → Trip) (s : State) : (modTrip f s).active = s.active := rfl
@[simp] theorem modTrip_staged (f : Trip → Trip) (s : State) : (modTrip f s).staged = s.staged := rfl
@[simp] theorem modTrip_agenda (f : Trip → Trip) (s : State) : (modTrip f s).agenda = s.agenda := rfl
@[simp] theorem modTrip_pending (f : Trip → Trip) (s : State) : (modTrip f s).pending = s.pending := rfl

/-! ## modGates -/

@[simp] theorem modGates_power (f : GateUnit → GateUnit) (s : State) : (modGates f s).power = s.power := rfl
@[simp] theorem modGates_localMs (f : GateUnit → GateUnit) (s : State) : (modGates f s).localMs = s.localMs := rfl
@[simp] theorem modGates_pos (f : GateUnit → GateUnit) (s : State) : (modGates f s).pos = s.pos := rfl
@[simp] theorem modGates_speed (f : GateUnit → GateUnit) (s : State) : (modGates f s).speed = s.speed := rfl
@[simp] theorem modGates_filter (f : GateUnit → GateUnit) (s : State) : (modGates f s).filter = s.filter := rfl
@[simp] theorem modGates_brake (f : GateUnit → GateUnit) (s : State) : (modGates f s).brake = s.brake := rfl
@[simp] theorem modGates_trip (f : GateUnit → GateUnit) (s : State) : (modGates f s).trip = s.trip := rfl
@[simp] theorem modGates_doors (f : GateUnit → GateUnit) (s : State) : (modGates f s).doors = s.doors := rfl
@[simp] theorem modGates_seqs (f : GateUnit → GateUnit) (s : State) : (modGates f s).seqs = s.seqs := rfl
@[simp] theorem modGates_pulses (f : GateUnit → GateUnit) (s : State) : (modGates f s).pulses = s.pulses := rfl
@[simp] theorem modGates_resetLow (f : GateUnit → GateUnit) (s : State) : (modGates f s).resetLow = s.resetLow := rfl
@[simp] theorem modGates_sigDriven (f : GateUnit → GateUnit) (s : State) : (modGates f s).sigDriven = s.sigDriven := rfl
@[simp] theorem modGates_gates (f : GateUnit → GateUnit) (s : State) : (modGates f s).gates = f s.gates := rfl
@[simp] theorem modGates_ports (f : GateUnit → GateUnit) (s : State) : (modGates f s).ports = s.ports := rfl
@[simp] theorem modGates_dins (f : GateUnit → GateUnit) (s : State) : (modGates f s).dins = s.dins := rfl
@[simp] theorem modGates_mgmt (f : GateUnit → GateUnit) (s : State) : (modGates f s).mgmt = s.mgmt := rfl
@[simp] theorem modGates_active (f : GateUnit → GateUnit) (s : State) : (modGates f s).active = s.active := rfl
@[simp] theorem modGates_staged (f : GateUnit → GateUnit) (s : State) : (modGates f s).staged = s.staged := rfl
@[simp] theorem modGates_agenda (f : GateUnit → GateUnit) (s : State) : (modGates f s).agenda = s.agenda := rfl
@[simp] theorem modGates_pending (f : GateUnit → GateUnit) (s : State) : (modGates f s).pending = s.pending := rfl

/-! ## modDoors -/

@[simp] theorem modDoors_power (k : CarId) (f : CarDoors → CarDoors) (s : State) : (modDoors k f s).power = s.power := rfl
@[simp] theorem modDoors_localMs (k : CarId) (f : CarDoors → CarDoors) (s : State) : (modDoors k f s).localMs = s.localMs := rfl
@[simp] theorem modDoors_pos (k : CarId) (f : CarDoors → CarDoors) (s : State) : (modDoors k f s).pos = s.pos := rfl
@[simp] theorem modDoors_speed (k : CarId) (f : CarDoors → CarDoors) (s : State) : (modDoors k f s).speed = s.speed := rfl
@[simp] theorem modDoors_filter (k : CarId) (f : CarDoors → CarDoors) (s : State) : (modDoors k f s).filter = s.filter := rfl
@[simp] theorem modDoors_brake (k : CarId) (f : CarDoors → CarDoors) (s : State) : (modDoors k f s).brake = s.brake := rfl
@[simp] theorem modDoors_trip (k : CarId) (f : CarDoors → CarDoors) (s : State) : (modDoors k f s).trip = s.trip := rfl
@[simp] theorem modDoors_doors (k : CarId) (f : CarDoors → CarDoors) (s : State) : (modDoors k f s).doors = s.doors.set k (f (s.doors.get k)) := rfl
@[simp] theorem modDoors_seqs (k : CarId) (f : CarDoors → CarDoors) (s : State) : (modDoors k f s).seqs = s.seqs := rfl
@[simp] theorem modDoors_pulses (k : CarId) (f : CarDoors → CarDoors) (s : State) : (modDoors k f s).pulses = s.pulses := rfl
@[simp] theorem modDoors_resetLow (k : CarId) (f : CarDoors → CarDoors) (s : State) : (modDoors k f s).resetLow = s.resetLow := rfl
@[simp] theorem modDoors_sigDriven (k : CarId) (f : CarDoors → CarDoors) (s : State) : (modDoors k f s).sigDriven = s.sigDriven := rfl
@[simp] theorem modDoors_gates (k : CarId) (f : CarDoors → CarDoors) (s : State) : (modDoors k f s).gates = s.gates := rfl
@[simp] theorem modDoors_ports (k : CarId) (f : CarDoors → CarDoors) (s : State) : (modDoors k f s).ports = s.ports := rfl
@[simp] theorem modDoors_dins (k : CarId) (f : CarDoors → CarDoors) (s : State) : (modDoors k f s).dins = s.dins := rfl
@[simp] theorem modDoors_mgmt (k : CarId) (f : CarDoors → CarDoors) (s : State) : (modDoors k f s).mgmt = s.mgmt := rfl
@[simp] theorem modDoors_active (k : CarId) (f : CarDoors → CarDoors) (s : State) : (modDoors k f s).active = s.active := rfl
@[simp] theorem modDoors_staged (k : CarId) (f : CarDoors → CarDoors) (s : State) : (modDoors k f s).staged = s.staged := rfl
@[simp] theorem modDoors_agenda (k : CarId) (f : CarDoors → CarDoors) (s : State) : (modDoors k f s).agenda = s.agenda := rfl
@[simp] theorem modDoors_pending (k : CarId) (f : CarDoors → CarDoors) (s : State) : (modDoors k f s).pending = s.pending := rfl

/-! ## modSeq -/

@[simp] theorem modSeq_power (q : Halt) (f : SeqRecord → SeqRecord) (s : State) : (modSeq q f s).power = s.power := rfl
@[simp] theorem modSeq_localMs (q : Halt) (f : SeqRecord → SeqRecord) (s : State) : (modSeq q f s).localMs = s.localMs := rfl
@[simp] theorem modSeq_pos (q : Halt) (f : SeqRecord → SeqRecord) (s : State) : (modSeq q f s).pos = s.pos := rfl
@[simp] theorem modSeq_speed (q : Halt) (f : SeqRecord → SeqRecord) (s : State) : (modSeq q f s).speed = s.speed := rfl
@[simp] theorem modSeq_filter (q : Halt) (f : SeqRecord → SeqRecord) (s : State) : (modSeq q f s).filter = s.filter := rfl
@[simp] theorem modSeq_brake (q : Halt) (f : SeqRecord → SeqRecord) (s : State) : (modSeq q f s).brake = s.brake := rfl
@[simp] theorem modSeq_trip (q : Halt) (f : SeqRecord → SeqRecord) (s : State) : (modSeq q f s).trip = s.trip := rfl
@[simp] theorem modSeq_doors (q : Halt) (f : SeqRecord → SeqRecord) (s : State) : (modSeq q f s).doors = s.doors := rfl
@[simp] theorem modSeq_seqs (q : Halt) (f : SeqRecord → SeqRecord) (s : State) : (modSeq q f s).seqs = vmod s.seqs q f := rfl
@[simp] theorem modSeq_pulses (q : Halt) (f : SeqRecord → SeqRecord) (s : State) : (modSeq q f s).pulses = s.pulses := rfl
@[simp] theorem modSeq_resetLow (q : Halt) (f : SeqRecord → SeqRecord) (s : State) : (modSeq q f s).resetLow = s.resetLow := rfl
@[simp] theorem modSeq_sigDriven (q : Halt) (f : SeqRecord → SeqRecord) (s : State) : (modSeq q f s).sigDriven = s.sigDriven := rfl
@[simp] theorem modSeq_gates (q : Halt) (f : SeqRecord → SeqRecord) (s : State) : (modSeq q f s).gates = s.gates := rfl
@[simp] theorem modSeq_ports (q : Halt) (f : SeqRecord → SeqRecord) (s : State) : (modSeq q f s).ports = s.ports := rfl
@[simp] theorem modSeq_dins (q : Halt) (f : SeqRecord → SeqRecord) (s : State) : (modSeq q f s).dins = s.dins := rfl
@[simp] theorem modSeq_mgmt (q : Halt) (f : SeqRecord → SeqRecord) (s : State) : (modSeq q f s).mgmt = s.mgmt := rfl
@[simp] theorem modSeq_active (q : Halt) (f : SeqRecord → SeqRecord) (s : State) : (modSeq q f s).active = s.active := rfl
@[simp] theorem modSeq_staged (q : Halt) (f : SeqRecord → SeqRecord) (s : State) : (modSeq q f s).staged = s.staged := rfl
@[simp] theorem modSeq_agenda (q : Halt) (f : SeqRecord → SeqRecord) (s : State) : (modSeq q f s).agenda = s.agenda := rfl
@[simp] theorem modSeq_pending (q : Halt) (f : SeqRecord → SeqRecord) (s : State) : (modSeq q f s).pending = s.pending := rfl

/-! ## modMgmt -/

@[simp] theorem modMgmt_power (f : Management → Management) (s : State) : (modMgmt f s).power = s.power := rfl
@[simp] theorem modMgmt_localMs (f : Management → Management) (s : State) : (modMgmt f s).localMs = s.localMs := rfl
@[simp] theorem modMgmt_pos (f : Management → Management) (s : State) : (modMgmt f s).pos = s.pos := rfl
@[simp] theorem modMgmt_speed (f : Management → Management) (s : State) : (modMgmt f s).speed = s.speed := rfl
@[simp] theorem modMgmt_filter (f : Management → Management) (s : State) : (modMgmt f s).filter = s.filter := rfl
@[simp] theorem modMgmt_brake (f : Management → Management) (s : State) : (modMgmt f s).brake = s.brake := rfl
@[simp] theorem modMgmt_trip (f : Management → Management) (s : State) : (modMgmt f s).trip = s.trip := rfl
@[simp] theorem modMgmt_doors (f : Management → Management) (s : State) : (modMgmt f s).doors = s.doors := rfl
@[simp] theorem modMgmt_seqs (f : Management → Management) (s : State) : (modMgmt f s).seqs = s.seqs := rfl
@[simp] theorem modMgmt_pulses (f : Management → Management) (s : State) : (modMgmt f s).pulses = s.pulses := rfl
@[simp] theorem modMgmt_resetLow (f : Management → Management) (s : State) : (modMgmt f s).resetLow = s.resetLow := rfl
@[simp] theorem modMgmt_sigDriven (f : Management → Management) (s : State) : (modMgmt f s).sigDriven = s.sigDriven := rfl
@[simp] theorem modMgmt_gates (f : Management → Management) (s : State) : (modMgmt f s).gates = s.gates := rfl
@[simp] theorem modMgmt_ports (f : Management → Management) (s : State) : (modMgmt f s).ports = s.ports := rfl
@[simp] theorem modMgmt_dins (f : Management → Management) (s : State) : (modMgmt f s).dins = s.dins := rfl
@[simp] theorem modMgmt_mgmt (f : Management → Management) (s : State) : (modMgmt f s).mgmt = f s.mgmt := rfl
@[simp] theorem modMgmt_active (f : Management → Management) (s : State) : (modMgmt f s).active = s.active := rfl
@[simp] theorem modMgmt_staged (f : Management → Management) (s : State) : (modMgmt f s).staged = s.staged := rfl
@[simp] theorem modMgmt_agenda (f : Management → Management) (s : State) : (modMgmt f s).agenda = s.agenda := rfl
@[simp] theorem modMgmt_pending (f : Management → Management) (s : State) : (modMgmt f s).pending = s.pending := rfl

/-! ## giveEvent -/

@[simp] theorem giveEvent_power (ev : RefEvent) (s : State) : (giveEvent ev s).power = s.power := rfl
@[simp] theorem giveEvent_localMs (ev : RefEvent) (s : State) : (giveEvent ev s).localMs = s.localMs := rfl
@[simp] theorem giveEvent_pos (ev : RefEvent) (s : State) : (giveEvent ev s).pos = s.pos := rfl
@[simp] theorem giveEvent_speed (ev : RefEvent) (s : State) : (giveEvent ev s).speed = s.speed := rfl
@[simp] theorem giveEvent_filter (ev : RefEvent) (s : State) : (giveEvent ev s).filter = s.filter := rfl
@[simp] theorem giveEvent_brake (ev : RefEvent) (s : State) : (giveEvent ev s).brake = s.brake := rfl
@[simp] theorem giveEvent_trip (ev : RefEvent) (s : State) : (giveEvent ev s).trip = s.trip := rfl
@[simp] theorem giveEvent_doors (ev : RefEvent) (s : State) : (giveEvent ev s).doors = s.doors := rfl
@[simp] theorem giveEvent_seqs (ev : RefEvent) (s : State) : (giveEvent ev s).seqs = s.seqs := rfl
@[simp] theorem giveEvent_resetLow (ev : RefEvent) (s : State) : (giveEvent ev s).resetLow = s.resetLow := rfl
@[simp] theorem giveEvent_sigDriven (ev : RefEvent) (s : State) : (giveEvent ev s).sigDriven = s.sigDriven := rfl
@[simp] theorem giveEvent_gates (ev : RefEvent) (s : State) : (giveEvent ev s).gates = s.gates := rfl
@[simp] theorem giveEvent_ports (ev : RefEvent) (s : State) : (giveEvent ev s).ports = s.ports := rfl
@[simp] theorem giveEvent_dins (ev : RefEvent) (s : State) : (giveEvent ev s).dins = s.dins := rfl
@[simp] theorem giveEvent_mgmt (ev : RefEvent) (s : State) : (giveEvent ev s).mgmt = s.mgmt := rfl
@[simp] theorem giveEvent_active (ev : RefEvent) (s : State) : (giveEvent ev s).active = s.active := rfl
@[simp] theorem giveEvent_staged (ev : RefEvent) (s : State) : (giveEvent ev s).staged = s.staged := rfl
@[simp] theorem giveEvent_agenda (ev : RefEvent) (s : State) : (giveEvent ev s).agenda = s.agenda := rfl
@[simp] theorem giveEvent_pending (ev : RefEvent) (s : State) : (giveEvent ev s).pending = s.pending := rfl

end Sys2Proof.Machine
end

