-- ==== Sys2Proof/Laws/Rest.lean ====
section
/-!
SUPPORT. `State.rest` is what carrying announcements through never changes: one lemma for each function that an
announcement can reach, up to `settle_rest`.
-/

namespace Sys2Proof.Machine

/-! ## Updates of one field -/

theorem rest_brake (s : State) (b : Supervisor) (h1 : b.lossInForce = s.brake.lossInForce) (h2 : b.stale = s.brake.stale)
    (h3 : b.applied = s.brake.applied) : ({ s with brake := b } : State).rest = s.rest := by
  simp only [State.rest, h1, h2, h3]

theorem rest_trip (s : State) (t : Trip) (h1 : t.mode = s.trip.mode) (h2 : t.hold = s.trip.hold)
    (h3 : t.flags = s.trip.flags) (h4 : t.lastDrive = s.trip.lastDrive) (h5 : t.statusTimer = s.trip.statusTimer) :
    ({ s with trip := t } : State).rest = s.rest := by
  simp only [State.rest, h1, h2, h3, h4, h5]

theorem rest_filter (s : State) (f : FilterRecord) (h1 : f.clamps = s.filter.clamps) (h2 : f.rewrites = s.filter.rewrites)
    (h3 : f.ignored = s.filter.ignored) : ({ s with filter := f } : State).rest = s.rest := by
  simp only [State.rest, h1, h2, h3]

theorem rest_doors (s : State) (d : PerCar CarDoors) (h1 : d.one.heard = s.doors.one.heard)
    (h2 : d.two.heard = s.doors.two.heard) (h3 : d.one.linkFault = s.doors.one.linkFault)
    (h4 : d.two.linkFault = s.doors.two.linkFault) : ({ s with doors := d } : State).rest = s.rest := by
  simp only [State.rest, h1, h2, h3, h4]

theorem rest_gates (s : State) (g : GateUnit) (h1 : g.serverLost = s.gates.serverLost)
    (h2 : g.timeouts = s.gates.timeouts) (h3 : g.queryCounter = s.gates.queryCounter)
    (h4 : g.unverified = s.gates.unverified) (h5 : g.exits = s.gates.exits) :
    ({ s with gates := g } : State).rest = s.rest := by
  simp only [State.rest, h1, h2, h3, h4, h5]

theorem rest_ports (s : State) (p : PerPort Port) (h1 : p.c.rest = s.ports.c.rest) (h2 : p.f.rest = s.ports.f.rest) :
    ({ s with ports := p } : State).rest = s.rest := by
  simp only [State.rest, h1, h2]

@[simp] theorem rest_speed (s : State) (v : SpeedRecord) : ({ s with speed := v } : State).rest = s.rest := rfl
@[simp] theorem rest_seqs (s : State) (v : Vector SeqRecord 6) : ({ s with seqs := v } : State).rest = s.rest := rfl
@[simp] theorem rest_pulses (s : State) (v : Vector PulseRun 16) : ({ s with pulses := v } : State).rest = s.rest := rfl
@[simp] theorem rest_agenda (s : State) (l : List Ann) : ({ s with agenda := l } : State).rest = s.rest := rfl

@[simp] theorem rest_notices (s : State) (v : Vector NoticeRecord 24) :
    ({ s with mgmt := { s.mgmt with notices := v } } : State).rest = s.rest := rfl

theorem foldl_rest {α : Type} (g : State → α → State) (h : ∀ s x, (g s x).rest = s.rest) (l : List α) (s : State) :
    (l.foldl g s).rest = s.rest := by
  induction l generalizing s with
  | nil => rfl
  | cons x xs ih => simp only [List.foldl_cons, ih, h]

/-! ## Shared operations -/

@[simp] theorem announce_rest (a : Ann) (s : State) : (announce a s).rest = s.rest := rfl

@[simp] theorem announceIf_rest (b : Bool) (a : Ann) (s : State) : (announceIf b a s).rest = s.rest := by
  cases b <;> rfl

@[simp] theorem withNormal_rest (x : OutFrame) (p : Port) : (p.withNormal x).rest = p.rest := by
  unfold Port.withNormal; split
  · rfl
  · split <;> rfl

@[simp] theorem withUrgent_rest (x : OutFrame) (p : Port) : (p.withUrgent x).rest = p.rest := by
  unfold Port.withUrgent; split <;> rfl

theorem modPort_rest (q : PortId) (f : Port → Port) (h : ∀ p, (f p).rest = p.rest) (s : State) :
    (modPort q f s).rest = s.rest := by
  cases q
  · exact rest_ports s _ (h _) rfl
  · exact rest_ports s _ rfl (h _)

@[simp] theorem placeNormal_rest (q : PortId) (x : OutFrame) (s : State) : (placeNormal q x s).rest = s.rest :=
  modPort_rest q _ (withNormal_rest x) s

@[simp] theorem placeUrgent_rest (x : OutFrame) (s : State) : (placeUrgent x s).rest = s.rest :=
  modPort_rest .F _ (withUrgent_rest x) s

@[simp] theorem sendNormal_rest (r : Role) (c : Content) (s : State) : (sendNormal r c s).rest = s.rest := by
  unfold sendNormal; split <;> simp

@[simp] theorem sendUrgent_rest (r : Role) (c : Content) (s : State) : (sendUrgent r c s).rest = s.rest := by
  unfold sendUrgent; split <;> simp

@[simp] theorem sendGate_rest (g : GateId) (c : Content) (s : State) : (sendGate g c s).rest = s.rest := by
  unfold sendGate; split <;> simp

@[simp] theorem occur_rest (n : Notice) (s : State) : (occur n s).rest = s.rest := by
  unfold occur; dsimp only; split
  · rw [sendNormal_rest]; rfl
  · rfl

@[simp] theorem giveEvent_rest (ev : RefEvent) (s : State) : (giveEvent ev s).rest = s.rest := rfl

/-! ## Brake supervisor -/

@[simp] theorem placeBrakeOrder_rest (old new : Stage) (s : State) : (placeBrakeOrder old new s).rest = s.rest := by
  unfold placeBrakeOrder; dsimp only; split
  · simp only [sendUrgent_rest]; rfl
  · rw [sendUrgent_rest]; rfl

@[simp] theorem stageNotice_rest (old new : Stage) (s : State) : (stageNotice old new s).rest = s.rest := by
  unfold stageNotice; split
  · split <;> simp
  · rfl

@[simp] theorem stageRule_rest (s : State) : (stageRule s).rest = s.rest := by
  unfold stageRule; dsimp only; split
  · rfl
  · rw [stageNotice_rest]
    simp only [announce_rest]
    exact (rest_brake (placeBrakeOrder _ _ _) _ rfl rfl rfl).trans ((placeBrakeOrder_rest _ _ _).trans rfl)

@[simp] theorem setLatch_rest (c : Cause) (st : Stage) (s : State) : (setLatch c st s).rest = s.rest := by
  unfold setLatch
  split
  · split <;> rfl
  · split <;> rfl
  · split <;> rfl
  · rfl

@[simp] theorem causesAct_rest (raised : List (Cause × Stage)) (s : State) : (causesAct raised s).rest = s.rest := by
  have h : (raised.foldl (fun s c => setLatch c.1 c.2 s) s).rest = s.rest := foldl_rest _ (by simp) raised s
  unfold causesAct; dsimp only
  rw [announceIf_rest]; split
  · exact (rest_brake (stageRule _) _ rfl rfl rfl).trans ((stageRule_rest _).trans h)
  · exact (stageRule_rest _).trans h

@[simp] theorem raiseEvent_rest (c : Cause) (st : Stage) (s : State) : (raiseEvent c st s).rest = s.rest :=
  causesAct_rest _ s

@[simp] theorem changeCauses_rest (on off : List Cause) (s : State) : (changeCauses on off s).rest = s.rest := by
  unfold changeCauses; dsimp only; rw [causesAct_rest]; rfl

@[simp] theorem levelCause_rest (c : Cause) (b : Bool) (s : State) : (levelCause c b s).rest = s.rest := by
  unfold levelCause; split <;> simp

@[simp] theorem evalDoorsCause_rest (s : State) : (evalDoorsCause s).rest = s.rest := levelCause_rest _ _ s
@[simp] theorem evalLinkCause_rest (s : State) : (evalLinkCause s).rest = s.rest := levelCause_rest _ _ s
@[simp] theorem evalEstop_rest (s : State) : (evalEstop s).rest = s.rest := levelCause_rest _ _ s

@[simp] theorem evalWarning_rest (v : Nat) (s : State) : (evalWarning v s).rest = s.rest := by
  unfold evalWarning; dsimp only; split
  · rw [giveEvent_rest, occur_rest]; rfl
  · rfl

@[simp] theorem examineRollback_rest (s : State) : (examineRollback s).rest = s.rest := by
  unfold examineRollback; split
  · rfl
  · dsimp only; split
    · rfl
    · split
      · rw [raiseEvent_rest, occur_rest]; rfl
      · rfl

@[simp] theorem brakeCompare_rest (driving : Bool) (v : Nat) (s : State) : (brakeCompare driving v s).rest = s.rest := by
  unfold brakeCompare; dsimp only; rw [evalDoorsCause_rest]; split <;> simp

@[simp] theorem requestHold_rest (s : State) : (requestHold s).rest = s.rest := by
  unfold requestHold; rw [stageRule_rest]; rfl

@[simp] theorem requestRelease_rest (s : State) : (requestRelease s).rest = s.rest := by
  unfold requestRelease; split
  · rw [stageRule_rest]; rfl
  · rfl

@[simp] theorem brakeTripEntered_rest (e : TripState) (s : State) : (brakeTripEntered e s).rest = s.rest := by
  cases e <;> simp [brakeTripEntered]

@[simp] theorem brakeDoorsChanged_rest (s : State) : (brakeDoorsChanged s).rest = s.rest := by
  unfold brakeDoorsChanged; dsimp only; split <;> simp

@[simp] theorem orderUnanswered_rest (o : BrakeOrder) (s : State) : (orderUnanswered o s).rest = s.rest := by
  have h : (occur .BRAKE_NO_ANSWER { s with brake := { s.brake with outstanding := none } }).rest = s.rest :=
    (occur_rest _ _).trans rfl
  unfold orderUnanswered; dsimp only; split <;> simp [h]

/-! ## Speed limit unit and demand filter -/

@[simp] theorem overrunCheck_rest (s : State) : (overrunCheck s).rest = s.rest := by
  unfold overrunCheck; split
  · rw [raiseEvent_rest, occur_rest]; rfl
  · rfl

@[simp] theorem recompute_rest (driving : Bool) (s : State) : (recompute driving s).rest = s.rest := by
  unfold recompute; rw [announce_rest, announce_rest, overrunCheck_rest]; rfl

@[simp] theorem placeDemand_rest (dst src : Byte) (p : DemandP) (s : State) : (placeDemand dst src p s).rest = s.rest := by
  unfold placeDemand; dsimp only
  exact (rest_filter (placeUrgent _ s) _ rfl rfl rfl).trans (placeUrgent_rest _ s)

@[simp] theorem lowerQueued_rest (f : OutFrame) (p : DemandP) (code : Nat) (dir : Dir) (s : State) :
    (lowerQueued f p code dir s).rest = s.rest := by
  unfold lowerQueued; dsimp only
  exact (rest_filter (placeUrgent _ s) _ rfl rfl rfl).trans (placeUrgent_rest _ s)

@[simp] theorem lowerToCode_rest (code : Nat) (s : State) : (lowerToCode code s).rest = s.rest := by
  unfold lowerToCode; split
  · split <;> simp
  · rfl

@[simp] theorem lowerForLatchS_rest (s : State) : (lowerForLatchS s).rest = s.rest := by
  unfold lowerForLatchS; split
  · split
    · split <;> simp
    · rfl
  · rfl

@[simp] theorem turnQueued_rest (s : State) : (turnQueued s).rest = s.rest := by
  unfold turnQueued; split
  · split <;> simp
  · rfl

@[simp] theorem substituteDemand_rest (code : Nat) (s : State) : (substituteDemand code s).rest = s.rest := by
  unfold substituteDemand; split <;> simp

@[simp] theorem demandTakesCode_rest (driving : Bool) (v : Nat) (s : State) : (demandTakesCode driving v s).rest = s.rest := by
  unfold demandTakesCode; dsimp only; split <;> simp

@[simp] theorem startDemandTimer_rest (s : State) : (startDemandTimer s).rest = s.rest := rfl

@[simp] theorem demandStateEntered_rest (st : TripState) (s : State) : (demandStateEntered st s).rest = s.rest := by
  unfold demandStateEntered; dsimp only; split <;> rfl

@[simp] theorem demandTakesTrip_rest (e : Option TripState) (s : State) : (demandTakesTrip e s).rest = s.rest := by
  cases e <;> simp [demandTakesTrip]

/-! ## Door unit -/

theorem modDoors_rest (k : CarId) (f : CarDoors → CarDoors) (h1 : ∀ d, (f d).heard = d.heard)
    (h2 : ∀ d, (f d).linkFault = d.linkFault) (s : State) : (modDoors k f s).rest = s.rest := by
  cases k
  · exact rest_doors s _ (h1 _) rfl (h2 _) rfl
  · exact rest_doors s _ rfl (h1 _) rfl (h2 _)

@[simp] theorem placeDoorOrder_rest (k : CarId) (o : DoorOrder) (s : State) : (placeDoorOrder k o s).rest = s.rest := by
  unfold placeDoorOrder; split
  · rfl
  · rw [modDoors_rest, placeUrgent_rest] <;> exact fun _ => rfl

@[simp] theorem giveWithdrawn_rest (k : CarId) (o : DoorOrder) (s : State) : (giveWithdrawn k o s).rest = s.rest := by
  unfold giveWithdrawn; split
  · rfl
  · split <;> rfl

@[simp] theorem buildDoorOrder_rest (k : CarId) (rl wl rr wr : Compartments) (s : State) :
    (buildDoorOrder k rl wl rr wr s).rest = s.rest := by
  unfold buildDoorOrder; dsimp only
  rw [giveWithdrawn_rest, placeDoorOrder_rest, modDoors_rest] <;> exact fun _ => rfl

@[simp] theorem evaluateDoors_rest (k : CarId) (s : State) : (evaluateDoors k s).rest = s.rest := by
  unfold evaluateDoors; dsimp only; split
  · rw [modDoors_rest] <;> exact fun _ => rfl
  · rw [buildDoorOrder_rest, modDoors_rest] <;> exact fun _ => rfl

@[simp] theorem doorEvent_rest (k : CarId) (f : State → State) (s : State) : (doorEvent k f s).rest = (f s).rest := by
  unfold doorEvent; dsimp only; rw [announceIf_rest]

@[simp] theorem doorEvaluation_rest (k : CarId) (s : State) : (doorEvaluation k s).rest = s.rest := by
  unfold doorEvaluation; rw [doorEvent_rest, evaluateDoors_rest]

/-! ## Gate unit -/

theorem modGates_rest (f : GateUnit → GateUnit) (h : ∀ g : GateUnit, (f g).serverLost = g.serverLost ∧
    (f g).timeouts = g.timeouts ∧ (f g).queryCounter = g.queryCounter ∧ (f g).unverified = g.unverified ∧
    (f g).exits = g.exits) (s : State) : (modGates f s).rest = s.rest :=
  rest_gates s _ (h _).1 (h _).2.1 (h _).2.2.1 (h _).2.2.2.1 (h _).2.2.2.2

@[simp] theorem modWindow_rest (h : Halt) (f : Window → Window) (s : State) : (modWindow h f s).rest = s.rest := rfl

@[simp] theorem orderMode_rest (g : GateId) (s : State) : (orderMode g s).rest = s.rest := by
  unfold orderMode; dsimp only
  rw [modGates_rest, sendGate_rest]; exact fun _ => ⟨rfl, rfl, rfl, rfl, rfl⟩

@[simp] theorem updateMode_rest (g : GateId) (s : State) : (updateMode g s).rest = s.rest := by
  unfold updateMode; dsimp only; split <;> simp

@[simp] theorem updateModesOf_rest (p : GateId → Bool) (s : State) : (updateModesOf p s).rest = s.rest := by
  unfold updateModesOf; rw [foldl_rest]; intro s g; split <;> simp

@[simp] theorem updateModes_rest (s : State) : (updateModes s).rest = s.rest := updateModesOf_rest _ s

@[simp] theorem sendRefusal_rest (g : GateId) (n : Byte) (r : GateReason) (sr : Byte) (s : State) :
    (sendRefusal g n r sr s).rest = s.rest := by
  unfold sendRefusal
  rw [modGates_rest, sendGate_rest]; exact fun _ => ⟨rfl, rfl, rfl, rfl, rfl⟩

theorem freeEntry_kept (v : VEntry) (g : GateUnit) : (freeEntry v g).serverLost = g.serverLost ∧
    (freeEntry v g).timeouts = g.timeouts ∧ (freeEntry v g).queryCounter = g.queryCounter ∧
    (freeEntry v g).unverified = g.unverified ∧ (freeEntry v g).exits = g.exits := by
  unfold freeEntry dropStale; split <;> exact ⟨rfl, rfl, rfl, rfl, rfl⟩

@[simp] theorem deliverGo_rest (g : GateId) (n : Nat) (s : State) : (deliverGo g n s).rest = s.rest := by
  induction n generalizing s with
  | zero => rfl
  | succ n ih =>
    unfold deliverGo; split
    · rfl
    · split
      · rfl
      · split
        · split
          · rw [modGates_rest, sendGate_rest]; exact fun _ => ⟨rfl, rfl, rfl, rfl, rfl⟩
          · rw [ih, modGates_rest, sendRefusal_rest]; exact freeEntry_kept _
          · rfl
        · rfl

@[simp] theorem deliver_rest (g : GateId) (s : State) : (deliver g s).rest = s.rest := deliverGo_rest _ _ s

@[simp] theorem openWindow_rest (h : Halt) (s : State) : (openWindow h s).rest = s.rest := by
  unfold openWindow; split <;> rfl

@[simp] theorem closeOut_rest (hs : Halt → Bool) (s : State) : (closeOut hs s).rest = s.rest := by
  unfold closeOut; dsimp only
  rw [foldl_rest, modGates_rest, foldl_rest, updateModesOf_rest, foldl_rest]
  · intro s h; split <;> simp
  · intro s h; split <;> simp
  · exact fun _ => ⟨rfl, rfl, rfl, rfl, rfl⟩
  · intro s g; simp

@[simp] theorem gateTakesTrip_rest (lost gained : BitVec 6) (left : Bool) (s : State) :
    (gateTakesTrip lost gained left s).rest = s.rest := by
  unfold gateTakesTrip; dsimp only
  rw [updateModes_rest, foldl_rest]
  · split
    · simp
    · split <;> simp
  · intro s h; split <;> simp

theorem openIf_rest (c : Bool) (h : Halt) (s : State) : (if c then openWindow h s else s).rest = s.rest := by
  split <;> simp

@[simp] theorem gateTakesOutputs_rest (h : Halt) (rose fell : Bool) (s : State) :
    (gateTakesOutputs h rose fell s).rest = s.rest := by
  unfold gateTakesOutputs; dsimp only
  rw [updateModes_rest, openIf_rest]
  split <;> simp

@[simp] theorem gateEntersRunning_rest (s : State) : (gateEntersRunning s).rest = s.rest := by
  unfold gateEntersRunning
  rw [modGates_rest, closeOut_rest]; exact fun _ => ⟨rfl, rfl, rfl, rfl, rfl⟩

@[simp] theorem gateTakesGroupA_rest (old new : GroupA) (s : State) : (gateTakesGroupA old new s).rest = s.rest := by
  unfold gateTakesGroupA
  rw [updateModes_rest, modGates_rest]
  intro g
  unfold cacheAfterCommit; dsimp only
  split <;> exact ⟨rfl, rfl, rfl, rfl, rfl⟩

/-! ## Platform sequencers -/

@[simp] theorem modSeq_rest (q : Halt) (f : SeqRecord → SeqRecord) (s : State) : (modSeq q f s).rest = s.rest := rfl

@[simp] theorem giveUserEvents_rest (q : Halt) (old new : Byte) (s : State) :
    (giveUserEvents q old new s).rest = s.rest := by
  unfold giveUserEvents; rw [foldl_rest]; intro s b
  split
  · rfl
  · split <;> rfl

@[simp] theorem announceConditions_rest (a b : State) : (announceConditions a b).rest = b.rest := by
  unfold announceConditions; dsimp only; split
  · rfl
  · exact foldl_rest _ (fun s m => announceIf_rest _ _ s) _ b

@[simp] theorem watch_rest (f : State → State) (s : State) : (watch f s).rest = (f s).rest := announceConditions_rest _ _

theorem publish_rest (tell : Halt → Byte → State → State) (ht : ∀ q b s, (tell q b s).rest = s.rest) (q : Halt)
    (s : State) : (publish tell q s).rest = s.rest := by
  unfold publish; dsimp only; split
  · rfl
  · rw [giveUserEvents_rest, watch_rest, ht]
    have h1 : ∀ u : State, ((carsAt u q).foldl (fun s k => watch (doorEvaluation k) s) u).rest = u.rest :=
      fun u => foldl_rest _ (fun s k => by rw [watch_rest, doorEvaluation_rest]) _ u
    split
    · rw [watch_rest, gateTakesOutputs_rest]; split
      · rw [h1, modSeq_rest]
      · rfl
    · split
      · rw [h1, modSeq_rest]
      · rfl

theorem seqPass_rest (tell : Halt → Byte → State → State) (ht : ∀ q b s, (tell q b s).rest = s.rest)
    (levels : Vector (BitVec 32) 6) (fresh : Bool) (q : Halt) (s : State) :
    (seqPass tell levels fresh q s).rest = s.rest := by
  unfold seqPass; dsimp only
  rw [publish_rest tell ht]; split <;> simp

theorem answerGo_rest (tell : Halt → Byte → State → State) (ht : ∀ q b s, (tell q b s).rest = s.rest)
    (levels : Vector (BitVec 32) 6) (n : Nat) (due done : List Halt) (s : State) :
    (answerGo tell levels n due done s).rest = s.rest := by
  induction n generalizing due done s with
  | zero => rfl
  | succ n ih =>
    cases due with
    | nil => rfl
    | cons q rest => unfold answerGo; dsimp only; rw [ih, seqPass_rest tell ht]

theorem answerOutside_rest (tell : Halt → Byte → State → State) (ht : ∀ q b s, (tell q b s).rest = s.rest)
    (changed : Vector (BitVec 32) 6) (due : BitVec 6) (s : State) : (answerOutside tell changed due s).rest = s.rest :=
  answerGo_rest tell ht _ _ _ _ s

@[simp] theorem applyGroupA_rest (s : State) : (applyGroupA s).rest = s.rest := by
  unfold applyGroupA; dsimp only
  rw [gateTakesGroupA_rest, rest_pulses, answerOutside_rest tellNothing (fun _ _ _ => rfl), foldl_rest, occur_rest]
  · rfl
  · exact fun s q => modSeq_rest q _ s

@[simp] theorem applyPendingA_rest (s : State) : (applyPendingA s).rest = s.rest := by
  unfold applyPendingA; split <;> simp

/-! ## Trip sequencer -/

theorem modTrip_rest (f : Trip → Trip) (h : ∀ t : Trip, (f t).mode = t.mode ∧ (f t).hold = t.hold ∧
    (f t).flags = t.flags ∧ (f t).lastDrive = t.lastDrive ∧ (f t).statusTimer = t.statusTimer) (s : State) :
    (modTrip f s).rest = s.rest :=
  rest_trip s _ (h _).1 (h _).2.1 (h _).2.2.1 (h _).2.2.2.1 (h _).2.2.2.2

@[simp] theorem announceTrip_rest (a b : State) : (announceTrip a b).rest = b.rest := by
  unfold announceTrip; dsimp only
  simp only [announceIf_rest]
  split <;> rfl

@[simp] theorem carry_rest (f : State → State) (s : State) : (carry f s).rest = (f s).rest := announceTrip_rest _ _

@[simp] theorem enterStopping_rest (s : State) : (enterStopping s).rest = s.rest := by
  unfold enterStopping; split <;> rfl

@[simp] theorem enterDeparting_rest (s : State) : (enterDeparting s).rest = s.rest := rfl

@[simp] theorem enterReady_rest (o : Origin) (s : State) : (enterReady o s).rest = s.rest := by
  unfold enterReady; dsimp only; split <;> rfl

@[simp] theorem testReady_rest (s : State) : (testReady s).rest = s.rest := by
  unfold testReady; split <;> simp

@[simp] theorem startDispatch_rest (s : State) : (startDispatch s).rest = s.rest := by
  unfold startDispatch; split
  · rw [enterReady_rest]; rfl
  · simp

@[simp] theorem dispatchEffect_rest (s : State) : (dispatchEffect s).rest = s.rest := by
  unfold dispatchEffect; simp

@[simp] theorem testAuto_rest (s : State) : (testAuto s).rest = s.rest := by
  unfold testAuto; split <;> simp

@[simp] theorem abandonDeparting_rest (s : State) : (abandonDeparting s).rest = s.rest := by
  unfold abandonDeparting; split
  · rw [carry_rest]; rfl
  · rfl

@[simp] theorem enterRunning_rest (s : State) : (enterRunning s).rest = s.rest := by
  unfold enterRunning
  rw [applyPendingA_rest, gateEntersRunning_rest]; rfl

@[simp] theorem takeReleased_rest (s : State) : (takeReleased s).rest = s.rest := by
  unfold takeReleased; split <;> simp

@[simp] theorem takeDemandLost_rest (s : State) : (takeDemandLost s).rest = s.rest := by
  unfold takeDemandLost; split <;> simp

@[simp] theorem giveBerthed_rest (hs : List Halt) (s : State) : (giveBerthed hs s).rest = s.rest := by
  unfold giveBerthed; rw [foldl_rest]; exact fun s h => giveEvent_rest _ s

@[simp] theorem arriveAt_rest (st : Stop) (s : State) : (arriveAt st s).rest = s.rest := by
  unfold arriveAt
  rw [giveBerthed_rest, modTrip_rest]
  intro t; dsimp only; split <;> exact ⟨rfl, rfl, rfl, rfl, rfl⟩

@[simp] theorem testArrival_rest (s : State) : (testArrival s).rest = s.rest := by
  unfold testArrival; split
  · rfl
  · split <;> simp

@[simp] theorem takeStandstill_rest (s : State) : (takeStandstill s).rest = s.rest := by
  unfold takeStandstill
  rw [testArrival_rest, carry_rest, modTrip_rest]
  intro t; dsimp only; split <;> exact ⟨rfl, rfl, rfl, rfl, rfl⟩

@[simp] theorem berthAndStand_rest (s : State) : (berthAndStand s).rest = s.rest := by
  unfold berthAndStand
  rw [modTrip_rest]
  intro t; dsimp only; split <;> exact ⟨rfl, rfl, rfl, rfl, rfl⟩

@[simp] theorem recover_rest (s : State) : (recover s).rest = s.rest := by
  unfold recover; dsimp only; split
  · rw [giveBerthed_rest, berthAndStand_rest]; rfl
  · split
    · rw [arriveAt_rest]; rfl
    · rw [giveBerthed_rest, berthAndStand_rest]; rfl

@[simp] theorem takeStage_rest (old new : Stage) (s : State) : (takeStage old new s).rest = s.rest := by
  unfold takeStage; split
  · split
    · split <;> simp
    · split
      · rw [carry_rest]; rfl
      · rfl
  · split <;> simp

/-! ## Carrying announcements through -/

@[simp] theorem tellTrip_rest (q : Halt) (ch : Byte) (s : State) : (tellTrip q ch s).rest = s.rest := by
  unfold tellTrip; dsimp only; split <;> split <;> simp

@[simp] theorem handleAnn_rest (a : Ann) (s : State) : (handleAnn a s).rest = s.rest := by
  cases a <;> simp [handleAnn, answerOutside_rest]

@[simp] theorem announceChanges_rest (a b : State) : (announceChanges a b).rest = b.rest := by
  unfold announceChanges; simp

@[simp] theorem react_rest (f : State → State) (s : State) : (react f s).rest = (f s).rest := announceChanges_rest _ _

theorem settleGo_rest (n : Nat) (s : State) : (settleGo n s).rest = s.rest := by
  induction n generalizing s with
  | zero => rfl
  | succ n ih =>
    unfold settleGo; split
    · rfl
    · rw [ih, react_rest, handleAnn_rest]; rfl

/-- Carrying announcements through changes nothing of the rest of the state. -/
@[simp] theorem settle_rest (s : State) : (settle s).rest = s.rest := settleGo_rest _ s

end Sys2Proof.Machine
end

