-- ==== Sys2Proof/Laws/Ops.lean ====
section
/-!
SUPPORT. What the shared operations can do, said once: announcing, carrying through, placing frames, notices, answers, and
the way from a command to the block that handles it.
-/

namespace Sys2Proof.Machine

/-! ## Announcing -/

/-- A state with its agenda replaced. -/
theorem announceIf_eq (b : Bool) (a : Ann) (s : State) :
    announceIf b a s = { s with agenda := s.agenda ++ (if b then [a] else []) } := by
  cases b
  · simp [announceIf]
  · rfl

theorem announceChange_foldl_eq (v : Vector (BitVec 32) 6) (ms : List (Vector (BitVec 32) 6)) (s : State) :
    ∃ l, ms.foldl (fun s m => announceChange v m s) s = { s with agenda := s.agenda ++ l } := by
  induction ms generalizing s with
  | nil => exact ⟨[], by simp⟩
  | cons m ms ih =>
    obtain ⟨l, h⟩ := ih (announceChange v m s)
    refine ⟨(if (changeWithin m v).toList.any (fun x => x != 0#32) then [Ann.outside (changeWithin m v) 0#6] else []) ++ l, ?_⟩
    rw [List.foldl_cons, h]
    simp only [announceChange, announceIf_eq, List.append_assoc]

/-- What announcing the condition changes of a block's work does: it adds outside changes to the agenda (R125). -/
theorem announceConditions_eq (a b : State) : ∃ l, announceConditions a b = { b with agenda := b.agenda ++ l } := by
  unfold announceConditions
  dsimp only
  split
  · exact ⟨[], by simp⟩
  · exact announceChange_foldl_eq _ _ b

/-- What carrying out the work of a block and announcing its condition changes does: the work, and an addition to the agenda. -/
theorem watch_eq (f : State → State) (s : State) : ∃ l, watch f s = { f s with agenda := (f s).agenda ++ l } :=
  announceConditions_eq s (f s)

/-- What announcing the changes of an event does: it adds to the agenda. -/
theorem announceChanges_eq (a b : State) : ∃ l, announceChanges a b = { b with agenda := b.agenda ++ l } := by
  obtain ⟨l, h⟩ := announceConditions_eq a (announceIf ((b.trip.state == .READY) && departureReady b) .tripReady b)
  refine ⟨(if (b.trip.state == .READY) && departureReady b then [Ann.tripReady] else []) ++ l, ?_⟩
  unfold announceChanges
  rw [h]
  simp only [announceIf_eq, List.append_assoc]

/-- What carrying an event out and announcing its changes does: the event, and an addition to the agenda. -/
theorem react_eq (f : State → State) (s : State) : ∃ l, react f s = { f s with agenda := (f s).agenda ++ l } :=
  announceChanges_eq s (f s)

/-- The state of an event less its agenda is that of the event itself. -/
theorem react_less_agenda (f : State → State) (s : State) :
    { react f s with agenda := [] } = { f s with agenda := [] } := by
  obtain ⟨l, h⟩ := react_eq f s
  rw [h]

/-- Work that changes no condition announces no outside change. -/
theorem announceConditions_none {a b : State} (h : ∀ q, toldWord b q = toldWord a q) : announceConditions a b = b := by
  have hv : changedConditions a b = Vector.replicate 6 0#32 := by
    unfold changedConditions
    apply Vector.ext
    intro i hi
    simp [h]
  unfold announceConditions
  simp [hv]

/-- An event that changes no condition and leaves no departure due announces nothing. -/
theorem announceChanges_none {a b : State} (h : ∀ q, toldWord b q = toldWord a q)
    (hr : ((b.trip.state == .READY) && departureReady b) = false) : announceChanges a b = b := by
  unfold announceChanges
  rw [hr]
  exact announceConditions_none h

theorem react_none {f : State → State} {s : State} (h : ∀ q, toldWord (f s) q = toldWord s q)
    (hr : (((f s).trip.state == .READY) && departureReady (f s)) = false) : react f s = f s :=
  announceChanges_none h hr

/-- A state with nothing in its agenda is settled. -/
theorem settle_of_empty {s : State} (h : s.agenda = []) : settle s = s := by
  unfold settle Config.settleBound settleGo
  rw [h]

/-! ## Frames and queues -/

theorem placeNormal_fields (q : PortId) (x : OutFrame) (s : State) :
    placeNormal q x s = { s with ports := s.ports.set q ((s.ports.get q).withNormal x) } := rfl

theorem placeUrgent_fields (x : OutFrame) (s : State) :
    placeUrgent x s = { s with ports := { s.ports with f := s.ports.f.withUrgent x } } := rfl

/-- A frame in a normal queue: in the place of a held LINE_STATUS, at the tail, or dropped and counted (R168). -/
theorem withNormal_cases (x : OutFrame) (p : Port) :
    (isLineStatus x = true ∧ p.normal.any isLineStatus = true ∧
        p.withNormal x = { p with normal := replaceFirst isLineStatus x p.normal }) ∨
    (p.normal.length < 32 ∧ p.withNormal x = { p with normal := p.normal ++ [x] }) ∨
    (32 ≤ p.normal.length ∧
        p.withNormal x = { p with counters := { p.counters with normalDrops := satInc p.counters.normalDrops } }) := by
  unfold Port.withNormal
  split
  · rename_i h
    simp only [Bool.and_eq_true] at h
    exact .inl ⟨h.1, h.2, rfl⟩
  · split
    · rename_i h; exact .inr (.inl ⟨h, rfl⟩)
    · rename_i h; exact .inr (.inr ⟨Nat.le_of_not_lt h, rfl⟩)

theorem replaceFirst_length {α : Type} (p : α → Bool) (x : α) (l : List α) : (replaceFirst p x l).length = l.length := by
  induction l with
  | nil => rfl
  | cons y ys ih => unfold replaceFirst; split <;> simp [ih]

/-- The occurrence of a notice changes its record and at most one normal queue. -/
theorem occur_fields (n : Notice) (s : State) :
    ∃ (p : PerPort Port) (v : Vector NoticeRecord 24),
      v = vset s.mgmt.notices (noticeIndex n) ((s.mgmt.notices.get (noticeIndex n)).occurred s.localTime) ∧
        occur n s = { s with ports := p, mgmt := { s.mgmt with notices := v } } := by
  unfold occur
  dsimp only
  split
  · unfold sendNormal
    split
    · exact ⟨_, _, rfl, rfl⟩
    · exact ⟨_, _, rfl, rfl⟩
  · exact ⟨_, _, rfl, rfl⟩

/-! ## From a command to its block -/

theorem running_eq {f : State → State} {s : State} (h : s.power = .RUNNING) : running f s = .next (settle (f s)) := by
  simp [running, h]

theorem plainly_eq {f : State → State} {s : State} (h : s.power = .RUNNING) : plainly f s = .next (f s) := by
  simp [plainly, h]

theorem event_eq {f : State → State} {s : State} (h : s.power = .RUNNING) :
    event f s = .next (settle (react f s)) := running_eq h

/-- A port that has heard a frame differs in its link record alone. -/
theorem linkHears_fields (p : Port) : linkHears p =
    { p with
      link := (linkHears p).link
      silence := (linkHears p).silence
      syncCount := (linkHears p).syncCount
      syncWindow := (linkHears p).syncWindow } := by
  unfold linkHears
  split
  · rfl
  · rfl
  · split
    · rfl
    · split <;> rfl

theorem heardOn_fields (q : PortId) (s : State) : ∃ p, heardOn q s = { s with ports := p } := ⟨_, rfl⟩

theorem heardOn_port (q : PortId) (s : State) : (heardOn q s).ports.get q =
    { linkHears (s.ports.get q) with counters :=
      { (linkHears (s.ports.get q)).counters with received := satInc (linkHears (s.ports.get q)).counters.received } } := by
  simp [heardOn, modCounters]

/-- A frame that passes the steps of acceptance is handled by its kind (R163, R165). -/
theorem receivePayload_accepted {s : State} {hdr : Header} {pl : Payload} {e : NodeEntry}
    (h : acceptedFrom s hdr pl e) : receivePayload hdr pl s = handlePayload hdr e pl (heardOn hdr.port s) := by
  obtain ⟨-, hup, hsrc, hent, hdst⟩ := h
  have h1 : sourceEntry (heardOn hdr.port s) hdr (payloadKind pl) = some e := hsrc
  have h2 : destinationOk (heardOn hdr.port s) hdr pl = true := hdst
  unfold receivePayload receive
  simp only [modPort_ports, PerPort.get_set_self]
  rw [if_pos hup]
  change acceptFrame hdr (payloadKind pl) (some pl) (heardOn hdr.port s) = _
  unfold acceptFrame
  rw [h1]
  simp [hent, h2]

end Sys2Proof.Machine
end

