-- ==== Sys2Proof/Laws/Cmd.lean ====
section
/-!
SUPPORT. From a command to its effect: the state that a frame command settles, and when an event announces nothing.
-/

namespace Sys2Proof.Machine

/-- A frame command that is accepted settles the handling of its payload. -/
theorem running_receive {s : State} {hdr : Header} {pl : Payload} {e : NodeEntry} (h : acceptedFrom s hdr pl e) :
    running (receivePayload hdr pl) s = .next (settle (handlePayload hdr e pl (heardOn hdr.port s))) := by
  rw [running_eq h.1, receivePayload_accepted h]

/-- What the conditions of the platform sequencers are read from (R124). -/
theorem conditionWord_congr {a b : State} (h1 : b.trip.state = a.trip.state) (h2 : b.trip.hold = a.trip.hold)
    (h3 : b.trip.plan = a.trip.plan) (h4 : b.trip.flags = a.trip.flags) (h5 : b.trip.mode = a.trip.mode)
    (h6 : b.trip.berth = a.trip.berth) (h7 : b.doors = a.doors) (h8 : b.seqs = a.seqs)
    (h9 : b.gates.windows = a.gates.windows) (h10 : b.gates.queue = a.gates.queue)
    (h11 : b.gates.serverLost = a.gates.serverLost) (h12 : anyLatch b.brake = anyLatch a.brake) (h13 : b.dins = a.dins)
    (h14 : b.active.b = a.active.b) (q : Halt) : conditionWord b q = conditionWord a q := by
  unfold conditionWord conditionList
  simp only [carsAt, State.berth, approachingHere, doorsOpenHere, budgetExhausted, gatesIdle, State.inService, dinClosed,
    dinLevel, userA, outputSet, h1, h2, h3, h4, h5, h6, h7, h8, h9, h10, h11, h12, h13, h14, sideOpenAt]

/-- What the departure conditions are read from (R86). -/
theorem departureReady_congr {a b : State} (h3 : b.trip.plan = a.trip.plan) (h5 : b.trip.mode = a.trip.mode)
    (h6 : b.trip.berth = a.trip.berth) (h7 : b.doors = a.doors) (h8 : b.seqs = a.seqs)
    (h10 : b.gates.queue = a.gates.queue) (h12 : anyLatch b.brake = anyLatch a.brake) (h13 : b.dins = a.dins)
    (h14 : b.trip.lastDrive = a.trip.lastDrive) (h15 : bothReferenced b = bothReferenced a) :
    departureReady b = departureReady a := by
  unfold departureReady
  simp only [berthedHalts, carsAt, State.berth, allLocked, dinLevel, outputSet, h3, h5, h6, h7, h8, h10, h12, h13, h14, h15]

/-- An event after a quiet state that changes nothing which the conditions are read from is itself, and settled. -/
theorem settle_react_quiet {f : State → State} {s : State} (hq : quiet s = true)
    (h1 : (f s).trip.state = s.trip.state) (h2 : (f s).trip.hold = s.trip.hold)
    (h3 : (f s).trip.plan = s.trip.plan) (h4 : (f s).trip.flags = s.trip.flags) (h5 : (f s).trip.mode = s.trip.mode)
    (h6 : (f s).trip.berth = s.trip.berth) (h7 : (f s).doors = s.doors) (h8 : (f s).seqs = s.seqs)
    (h9 : (f s).gates.windows = s.gates.windows) (h10 : (f s).gates.queue = s.gates.queue)
    (h11 : (f s).gates.serverLost = s.gates.serverLost) (h12 : anyLatch (f s).brake = anyLatch s.brake)
    (h13 : (f s).dins = s.dins) (h14 : (f s).active.b = s.active.b) (h15 : (f s).trip.lastDrive = s.trip.lastDrive)
    (h16 : bothReferenced (f s) = bothReferenced s) (h17 : (f s).agenda = s.agenda) : settle (react f s) = f s := by
  unfold quiet at hq
  simp only [Bool.and_eq_true, List.isEmpty_iff, Bool.not_eq_true'] at hq
  have hr : (((f s).trip.state == .READY) && departureReady (f s)) = false := by
    rw [h1, departureReady_congr h3 h5 h6 h7 h8 h10 h12 h13 h15 h16]
    exact hq.2
  have hw : ∀ q, toldWord (f s) q = toldWord s q := fun q => by
    unfold toldWord
    rw [conditionWord_congr h1 h2 h3 h4 h5 h6 h7 h8 h9 h10 h11 h12 h13 h14 q, h17]
  rw [react_none hw hr]
  exact settle_of_empty (by rw [h17]; exact hq.1)

/-- A quiet state stays quiet when a frame is heard. -/
theorem heardOn_quiet {s : State} (q : PortId) (h : quiet s = true) : quiet (heardOn q s) = true := h

/-- The sum over `react` of a fact about what it leaves of a state. -/
theorem react_bare (f : State → State) (s : State) : (react f s).bare = (f s).bare := react_less_agenda f s

end Sys2Proof.Machine
end

