-- ==== Sys2Proof/Laws/Brake.lean ====
section
/-!
SUPPORT. What the brake supervisor's shared operations can do: the stage rule (R62), causes and latches (R55, R61).
-/

namespace Sys2Proof.Machine

/-- A frame placed for a role changes the ports alone. -/
theorem sendUrgent_fields (r : Role) (c : Content) (s : State) : ∃ p, sendUrgent r c s = { s with ports := p } := by
  unfold sendUrgent
  split
  · exact ⟨_, rfl⟩
  · exact ⟨_, rfl⟩

theorem sendNormal_fields (r : Role) (c : Content) (s : State) : ∃ p, sendNormal r c s = { s with ports := p } := by
  unfold sendNormal
  split
  · exact ⟨_, rfl⟩
  · exact ⟨_, rfl⟩

/-- A brake order takes the next number and is outstanding (R64). -/
theorem placeBrakeOrder_fields (old new : Stage) (s : State) : ∃ p, placeBrakeOrder old new s =
    { s with
      brake := { s.brake with counter := s.brake.counter + 1#8, outstanding := some ⟨s.brake.counter + 1#8, new, none⟩ }
      ports := p } := by
  unfold placeBrakeOrder
  dsimp only
  split
  · obtain ⟨p1, h1⟩ := sendUrgent_fields .BRAKE (.brakeOrder (s.brake.counter + 1#8) new)
      { s with brake := { s.brake with
        counter := s.brake.counter + 1#8, outstanding := some ⟨s.brake.counter + 1#8, new, none⟩ } }
    rw [h1]
    obtain ⟨p2, h2⟩ := sendUrgent_fields .CAR_1 (.brakeOrder (s.brake.counter + 1#8) new)
      { s with
        brake := { s.brake with
          counter := s.brake.counter + 1#8, outstanding := some ⟨s.brake.counter + 1#8, new, none⟩ }
        ports := p1 }
    rw [h2]
    exact sendUrgent_fields _ _ _
  · exact sendUrgent_fields _ _ _

/-- The notice of a rise changes the notices and the ports. -/
theorem stageNotice_fields (old new : Stage) (s : State) :
    ∃ p v, stageNotice old new s = { s with ports := p, mgmt := { s.mgmt with notices := v } } := by
  unfold stageNotice
  split
  · cases new
    · exact ⟨_, _, rfl⟩
    · exact ⟨_, _, rfl⟩
    · obtain ⟨p, v, -, h⟩ := occur_fields .SERVICE_STAGE s; exact ⟨p, v, h⟩
    · obtain ⟨p, v, -, h⟩ := occur_fields .EMERGENCY_STAGE s; exact ⟨p, v, h⟩
    · obtain ⟨p, v, -, h⟩ := occur_fields .RAIL_STAGE s; exact ⟨p, v, h⟩
  · exact ⟨_, _, rfl⟩

/-- Everything the stage rule can do: the commanded stage becomes the demanded one; of the supervisor only the order, the
rollback monitor and the deceleration check may change besides, of the rest only queues, notices and the agenda, which grows. -/
theorem stageRule_fields (s : State) : ∃ c o r d p v l, stageRule s =
    { s with
      brake := { s.brake with commanded := demandedStage s.brake, counter := c, outstanding := o, rollback := r, decel := d }
      ports := p
      mgmt := { s.mgmt with notices := v }
      agenda := s.agenda ++ l } := by
  unfold stageRule
  dsimp only
  split
  · rename_i h
    refine ⟨s.brake.counter, s.brake.outstanding, s.brake.rollback, s.brake.decel, s.ports, s.mgmt.notices, [], ?_⟩
    rw [h]
    simp
  · obtain ⟨p, h⟩ := placeBrakeOrder_fields s.brake.commanded (demandedStage s.brake)
      { s with brake := { s.brake with commanded := demandedStage s.brake } }
    rw [h]
    obtain ⟨p2, v, h2⟩ := stageNotice_fields s.brake.commanded (demandedStage s.brake)
      (announce (.doorEval .car2) (announce (.doorEval .car1) (announce (.tripStage s.brake.commanded (demandedStage s.brake))
        { s with
          brake := { s.brake with
            commanded := demandedStage s.brake
            counter := s.brake.counter + 1#8
            outstanding := some ⟨s.brake.counter + 1#8, demandedStage s.brake, none⟩
            rollback := if demandedStage s.brake = .RELEASED then some s.pos.ropeTravel else none
            decel := decelAfter s.brake.commanded (demandedStage s.brake) s.speedNow s.params.emergencyDecel.toNat s.brake.decel }
          ports := p })))
    exact ⟨_, _, _, _, p2, v, [.tripStage s.brake.commanded (demandedStage s.brake), .doorEval .car1, .doorEval .car2],
      h2.trans (by
        simp only [announce, List.append_assoc, List.cons_append, List.nil_append]
        rfl)⟩

/-- Everything a set latch can do: a clear latch takes the cause, and pulses may start. -/
theorem setLatch_fields (c : Cause) (st : Stage) (s : State) : ∃ x y z v, setLatch c st s =
    { s with brake := { s.brake with latchS := x, latchE := y, latchR := z }, pulses := v } ∧
    (s.brake.latchS ≠ none → x ≠ none) ∧ (s.brake.latchE ≠ none → y ≠ none) ∧ (s.brake.latchR ≠ none → z ≠ none) ∧
    (st = .SERVICE → x ≠ none) ∧ (st = .EMERGENCY → y ≠ none) ∧ (st = .RAIL → z ≠ none) := by
  have some_ne {o : Option Cause} (h : o.isSome = true) : o ≠ none := by cases o <;> simp_all
  cases st <;> unfold setLatch <;> dsimp only
  · exact ⟨_, _, _, _, rfl, id, id, id, by simp, by simp, by simp⟩
  · exact ⟨_, _, _, _, rfl, id, id, id, by simp, by simp, by simp⟩
  · split
    · rename_i h; exact ⟨_, _, _, _, rfl, id, id, id, fun _ => some_ne h, by simp, by simp⟩
    · exact ⟨_, _, _, _, rfl, by simp, id, id, by simp, by simp, by simp⟩
  · split
    · rename_i h; exact ⟨_, _, _, _, rfl, id, id, id, by simp, fun _ => some_ne h, by simp⟩
    · exact ⟨_, _, _, _, rfl, id, by simp, id, by simp, by simp, by simp⟩
  · split
    · rename_i h; exact ⟨_, _, _, _, rfl, id, id, id, by simp, by simp, fun _ => some_ne h⟩
    · exact ⟨_, _, _, _, rfl, id, id, by simp, by simp, by simp, by simp⟩

theorem setLatches_fields (cs : List (Cause × Stage)) (s : State) :
    ∃ x y z v, cs.foldl (fun s c => setLatch c.1 c.2 s) s =
      { s with brake := { s.brake with latchS := x, latchE := y, latchR := z }, pulses := v } ∧
    (s.brake.latchS ≠ none → x ≠ none) ∧ (s.brake.latchE ≠ none → y ≠ none) ∧ (s.brake.latchR ≠ none → z ≠ none) ∧
    (∀ c ∈ cs, (c.2 = .SERVICE → x ≠ none) ∧ (c.2 = .EMERGENCY → y ≠ none) ∧ (c.2 = .RAIL → z ≠ none)) := by
  induction cs generalizing s with
  | nil => exact ⟨_, _, _, _, rfl, id, id, id, by simp⟩
  | cons c cs ih =>
    obtain ⟨x, y, z, v, h, hS, hE, hR, h1, h2, h3⟩ := setLatch_fields c.1 c.2 s
    obtain ⟨x', y', z', v', h', hS', hE', hR', hc⟩ := ih (setLatch c.1 c.2 s)
    rw [List.foldl_cons, h', h]
    rw [h] at hS' hE' hR'
    refine ⟨x', y', z', v', rfl, fun a => hS' (hS a), fun a => hE' (hE a), fun a => hR' (hR a), ?_⟩
    intro d hd
    rcases List.mem_cons.mp hd with rfl | hd
    · exact ⟨fun a => hS' (h1 a), fun a => hE' (h2 a), fun a => hR' (h3 a)⟩
    · exact hc d hd

/-- Everything that newly active or raised causes can do: their latches are set, none is cleared, and the commanded stage
becomes the demanded one; the active causes, the trip request and the other blocks stay, but for pulses, queues, notices
and the agenda, which grows. -/
theorem causesAct_fields (cs : List (Cause × Stage)) (s : State) : ∃ b p v w l, causesAct cs s =
    { s with brake := b, ports := p, mgmt := { s.mgmt with notices := v }, pulses := w, agenda := s.agenda ++ l } ∧
    b.active = s.brake.active ∧ b.wantsRelease = s.brake.wantsRelease ∧ b.lossInForce = s.brake.lossInForce ∧
    b.applied = s.brake.applied ∧ b.warning = s.brake.warning ∧ b.commanded = demandedStage b ∧
    (s.brake.latchS ≠ none → b.latchS ≠ none) ∧ (s.brake.latchE ≠ none → b.latchE ≠ none) ∧
    (s.brake.latchR ≠ none → b.latchR ≠ none) ∧
    (∀ c ∈ cs, (c.2 = .SERVICE → b.latchS ≠ none) ∧ (c.2 = .EMERGENCY → b.latchE ≠ none) ∧
      (c.2 = .RAIL → b.latchR ≠ none)) := by
  obtain ⟨x, y, z, v, h, hS, hE, hR, hc⟩ := setLatches_fields cs s
  unfold causesAct
  simp only [h]
  obtain ⟨c, o, r, d, p, n, l, h2⟩ := stageRule_fields
    { s with brake := { s.brake with latchS := x, latchE := y, latchR := z }, pulses := v }
  simp only [h2, announceIf_eq]
  let b : Supervisor := { s.brake with
    latchS := x, latchE := y, latchR := z
    commanded := demandedStage { s.brake with latchS := x, latchE := y, latchR := z }
    counter := c, outstanding := o, rollback := r, decel := d }
  split
  · refine ⟨{ b with decel := some ⟨s.speedNow, s.params.emergencyDecel.toNat, 500⟩ }, p, n, v,
      l ++ (if x.isSome && !s.brake.latchS.isSome then [.demandLatchS] else []), ?_, rfl, rfl, rfl, rfl, rfl, rfl, hS, hE, hR, hc⟩
    simp only [List.append_assoc]
    rfl
  · refine ⟨b, p, n, v, l ++ (if x.isSome && !s.brake.latchS.isSome then [.demandLatchS] else []), ?_, rfl, rfl, rfl, rfl, rfl, rfl, hS, hE, hR, hc⟩
    simp only [List.append_assoc]
    rfl

/-- A level cause that holds is active, and sets the latch of its stage when it was not (R55, R61). -/
theorem levelCause_holds (c : Cause) (s : State) : ∃ b p v w l, levelCause c true s =
    { s with brake := b, ports := p, mgmt := { s.mgmt with notices := v }, pulses := w, agenda := s.agenda ++ l } ∧
    c ∈ b.active ∧ b.wantsRelease = s.brake.wantsRelease ∧ b.lossInForce = s.brake.lossInForce ∧
    b.commanded = demandedStage b ∧
    (c ∉ s.brake.active → (causeStage c = .SERVICE → b.latchS ≠ none) ∧ (causeStage c = .EMERGENCY → b.latchE ≠ none) ∧
      (causeStage c = .RAIL → b.latchR ≠ none)) := by
  unfold levelCause changeCauses
  rw [if_pos rfl]
  dsimp only
  obtain ⟨b, p, v, w, l, h, h1, h2, h3, -, -, h4, -, -, -, hc⟩ := causesAct_fields
    ((([c] : List Cause).filter fun c => !(s.brake.active.contains c)).map fun c => (c, causeStage c))
    { s with brake := { s.brake with
      active := (s.brake.active.filter fun c => !(([] : List Cause).contains c)) ++
        ([c] : List Cause).filter fun c => !(s.brake.active.contains c) } }
  refine ⟨b, p, v, w, l, h, ?_, h2, h3, h4, ?_⟩
  · rw [h1]
    by_cases hm : c ∈ s.brake.active <;> simp [hm]
  · intro hm
    exact hc (c, causeStage c) (by simp [hm])

/-- A level cause that does not hold changes only the active causes and what follows from them; no latch is cleared. -/
theorem levelCause_any (c : Cause) (holds : Bool) (s : State) : ∃ b p v w l, levelCause c holds s =
    { s with brake := b, ports := p, mgmt := { s.mgmt with notices := v }, pulses := w, agenda := s.agenda ++ l } ∧
    b.wantsRelease = s.brake.wantsRelease ∧ b.lossInForce = s.brake.lossInForce ∧
    (∀ d ∈ b.active, d ∈ s.brake.active ∨ d = c) ∧ (∀ d ∈ s.brake.active, d ≠ c → d ∈ b.active) ∧
    (s.brake.latchS ≠ none → b.latchS ≠ none) ∧ (s.brake.latchE ≠ none → b.latchE ≠ none) ∧
    (s.brake.latchR ≠ none → b.latchR ≠ none) := by
  unfold levelCause changeCauses
  split
  · obtain ⟨b, p, v, w, l, h, h1, h2, h3, -, -, -, h5, h6, h7, -⟩ := causesAct_fields
      ((([c] : List Cause).filter fun c => !(s.brake.active.contains c)).map fun c => (c, causeStage c))
      { s with brake := { s.brake with
        active := (s.brake.active.filter fun c => !(([] : List Cause).contains c)) ++
          ([c] : List Cause).filter fun c => !(s.brake.active.contains c) } }
    refine ⟨b, p, v, w, l, h, h2, h3, ?_, ?_, h5, h6, h7⟩
    · intro d hd; rw [h1] at hd; simp at hd; tauto
    · intro d hd _; rw [h1]; simp [hd]
  · obtain ⟨b, p, v, w, l, h, h1, h2, h3, -, -, -, h5, h6, h7, -⟩ := causesAct_fields
      ((([] : List Cause).filter fun c => !(s.brake.active.contains c)).map fun c => (c, causeStage c))
      { s with brake := { s.brake with
        active := (s.brake.active.filter fun d => !(([c] : List Cause).contains d)) ++
          ([] : List Cause).filter fun c => !(s.brake.active.contains c) } }
    refine ⟨b, p, v, w, l, h, h2, h3, ?_, ?_, h5, h6, h7⟩
    · intro d hd; rw [h1] at hd; simp at hd; tauto
    · intro d hd hne; rw [h1]; simp [hd, hne]

end Sys2Proof.Machine
end

