-- ==== Sys2Proof/Laws/Fields.lean ====
section
/-!
SUPPORT. What the shared operations of the trip sequencer, the gate unit and the sequencers leave of a state: each lemma names
every field that may change.
-/

namespace Sys2Proof.Machine

/-! ## Trip sequencer -/

/-- Announcing what changed in a trip event changes the overrun raised field and adds to the agenda (R76, R37). -/
theorem announceTrip_fields (a b : State) :
    ∃ v l, announceTrip a b = { b with speed := v, agenda := b.agenda ++ l } := by
  unfold announceTrip
  simp only [announceIf_eq]
  split
  · exact ⟨_, _, by simp only [List.append_assoc]; rfl⟩
  · exact ⟨_, _, by simp only [List.append_assoc]; rfl⟩

/-- An event carried through is the event with its announcements. -/
theorem carry_fields (f : State → State) (s : State) :
    ∃ v l, carry f s = { f s with speed := v, agenda := (f s).agenda ++ l } := announceTrip_fields s (f s)

/-- A change of the trip state is announced to the brake supervisor (R76, R63). -/
theorem announceTrip_brakeTrip {a b : State} (h : a.trip.state ≠ b.trip.state) :
    .brakeTrip b.trip.state ∈ (announceTrip a b).agenda := by
  unfold announceTrip
  have : (a.trip.state != b.trip.state) = true := by simp [h]
  simp only [announceIf_eq, this]
  split <;> simp

/-- A change of the line cap is announced to the speed limit unit (R50, R76). -/
theorem announceTrip_recompute {a b : State} (h : a.trip.lineCap ≠ b.trip.lineCap) :
    .recompute false ∈ (announceTrip a b).agenda := by
  unfold announceTrip
  have : (a.trip.lineCap != b.trip.lineCap) = true := by simp [h]
  simp only [announceIf_eq, this, Bool.or_true]
  split <;> simp

/-! ## Gate unit -/

theorem sendGate_fields (g : GateId) (c : Content) (s : State) : ∃ p, sendGate g c s = { s with ports := p } := by
  unfold sendGate
  split
  · exact ⟨_, rfl⟩
  · exact ⟨_, rfl⟩

/-- Ordering a mode changes the gate's record and a queue (R139). -/
theorem orderMode_fields (g : GateId) (s : State) :
    ∃ p, orderMode g s = { s with
      ports := p
      gates := { s.gates with records := vmod s.gates.records g fun r => { r with mode := some (desiredMode s g) } } } := by
  unfold orderMode modGates
  dsimp only
  obtain ⟨p, h⟩ := sendGate_fields g (.gateSetMode (desiredMode s g)) s
  rw [h]
  exact ⟨p, rfl⟩

theorem updateMode_fields (g : GateId) (s : State) :
    ∃ p r, updateMode g s = { s with ports := p, gates := { s.gates with records := r } } ∧
      ∀ x, (r.get x).fault = (s.gates.records.get x).fault ∧ (r.get x).heard = (s.gates.records.get x).heard := by
  unfold updateMode
  dsimp only
  split
  · obtain ⟨p, h⟩ := orderMode_fields g s
    refine ⟨p, _, h, fun x => ?_⟩
    by_cases hx : x = g
    · subst hx; simp
    · simp [vmod_get_ne _ _ hx]
  · exact ⟨_, _, rfl, fun _ => ⟨rfl, rfl⟩⟩

/-- Hearing a gate changes its record and a queue (R139). -/
theorem hearGate_fields (g : GateId) (s : State) :
    ∃ p r, hearGate g s = { s with ports := p, gates := { s.gates with records := r } } ∧
      ∀ x, (r.get x).fault = (s.gates.records.get x).fault := by
  unfold hearGate
  split
  · exact ⟨_, _, rfl, fun _ => rfl⟩
  · obtain ⟨p, h⟩ := orderMode_fields g
      (modGates (fun u => { u with records := vmod u.records g fun r => { r with heard := true } }) s)
    refine ⟨p, _, h, fun x => ?_⟩
    by_cases hx : x = g
    · subst hx; simp [modGates]
    · simp [modGates, vmod_get_ne _ _ hx]

theorem sendRefusal_fields (g : GateId) (n : Byte) (r : GateReason) (sr : Byte) (s : State) :
    ∃ p, sendRefusal g n r sr s = { s with
      ports := p
      gates := { s.gates with refusals := vmod s.gates.refusals (reasonIndex r) satInc } } := by
  unfold sendRefusal modGates
  obtain ⟨p, h⟩ := sendGate_fields g (.gateRefuse n r sr) s
  rw [h]
  exact ⟨p, rfl⟩

theorem freeEntry_fields (v : VEntry) (g : GateUnit) :
    ∃ b0 b1, freeEntry v g = { g with queue := g.queue.filter fun x => x.slot != v.slot, bank0 := b0, bank1 := b1 } := by
  unfold freeEntry dropStale
  split
  · exact ⟨_, _, rfl⟩
  · exact ⟨_, _, rfl⟩

/-- Testing delivery changes the queue, in which entries only leave or go from WAIT_GATE to WAIT_PASS, the banks, the refusal
counters and the ports (R151). -/
theorem deliverGo_fields (g : GateId) (n : Nat) (s : State) : ∃ p q b0 b1 f, deliverGo g n s =
    { s with ports := p, gates := { s.gates with queue := q, bank0 := b0, bank1 := b1, refusals := f } } ∧
    ∀ y ∈ q, ∃ x ∈ s.gates.queue, y.slot = x.slot ∧ (y.state = x.state ∨ y.state = .WAIT_PASS) := by
  induction n generalizing s with
  | zero => exact ⟨_, _, _, _, _, rfl, fun y hy => ⟨y, hy, rfl, .inl rfl⟩⟩
  | succ n ih =>
    unfold deliverGo
    have same : ∃ p q b0 b1 f, s =
        { s with ports := p, gates := { s.gates with queue := q, bank0 := b0, bank1 := b1, refusals := f } } ∧
        ∀ y ∈ q, ∃ x ∈ s.gates.queue, y.slot = x.slot ∧ (y.state = x.state ∨ y.state = .WAIT_PASS) :=
      ⟨_, _, _, _, _, rfl, fun y hy => ⟨y, hy, rfl, .inl rfl⟩⟩
    split
    · exact same
    · split
      · exact same
      · rename_i v _
        split
        · split
          · obtain ⟨p, h⟩ := sendGate_fields g (.gateAdmitOne v.number) s
            rw [h]
            refine ⟨p, _, _, _, _, rfl, fun y hy => ?_⟩
            obtain ⟨x, hx, rfl⟩ := List.mem_map.mp hy
            refine ⟨x, hx, ?_⟩
            split
            · exact ⟨rfl, .inr rfl⟩
            · exact ⟨rfl, .inl rfl⟩
          · rename_i reason sr _
            obtain ⟨p, h⟩ := sendRefusal_fields g v.number reason sr s
            rw [h]
            obtain ⟨c0, c1, hf⟩ := freeEntry_fields v
              { s.gates with refusals := vmod s.gates.refusals (reasonIndex reason) satInc }
            unfold modGates
            dsimp only
            rw [hf]
            obtain ⟨p', q', b0, b1, f, h', hq⟩ := ih
              { s with
                ports := p
                gates := { s.gates with
                  refusals := vmod s.gates.refusals (reasonIndex reason) satInc
                  queue := s.gates.queue.filter fun x => x.slot != v.slot, bank0 := c0, bank1 := c1 } }
            refine ⟨p', q', b0, b1, f, h', fun y hy => ?_⟩
            obtain ⟨x, hx, hxy⟩ := hq y hy
            exact ⟨x, (List.mem_filter.mp hx).1, hxy⟩
          · exact same
        · exact same

theorem deliver_fields (g : GateId) (s : State) : ∃ p q b0 b1 f, deliver g s =
    { s with ports := p, gates := { s.gates with queue := q, bank0 := b0, bank1 := b1, refusals := f } } ∧
    ∀ y ∈ q, ∃ x ∈ s.gates.queue, y.slot = x.slot ∧ (y.state = x.state ∨ y.state = .WAIT_PASS) :=
  deliverGo_fields _ _ _

end Sys2Proof.Machine
end

