-- ==== Sys2Proof/Laws/Frames.lean ====
section
/-!
SUPPORT. What the frames that the part sends are: valid, of the length of their kind, and unchanged where they are forwarded.
-/

namespace Sys2Proof.Machine

/-- A transit frame is sent as it came, its length and its check with it (R167). -/
theorem sentFrame_transit (f : RawFrame) (h : rawValid f = true) :
    sentFrame ⟨f.dst, f.src, none, .transit f.kind f.payload⟩ = f := by
  obtain ⟨dst, src, kind, length, payload, check⟩ := f
  simp only [rawValid, rawCovered, Bool.and_eq_true, decide_eq_true_eq, beq_iff_eq] at h
  obtain ⟨⟨-, hl⟩, hc⟩ := h
  have e : BitVec.ofNat 8 payload.length = length := by rw [hl]; simp
  simp only [sentFrame, contentBytes, contentKind, rawCovered, e, hc]

/-- A frame whose payload has at most 32 bytes is sent as a valid frame (R158). -/
theorem sentFrame_valid (f : OutFrame) (h : (contentBytes f.content).length ≤ 32) : rawValid (sentFrame f) = true := by
  have e : (contentBytes f.content).length % 256 = (contentBytes f.content).length := by omega
  simp [rawValid, sentFrame, rawCovered, e, h]

end Sys2Proof.Machine
end

