-- ==== Sys2Proof/WellFormed.lean ====
section
/-!
DEFINITION. When a command is well formed: it is what its row of the table says it is. The operands of most
rows are well formed by their types; the checks below are those a type cannot say.
-/

namespace Sys2Proof

/-- Whether the command's operands are those of its row. A row that receives a valid frame carries a valid frame
(R158); a transit frame has a transit kind (R164); the two rows for unknown codes carry a code that
names nothing (R97, R173, chapter 12.3). -/
def Instr.wellFormed : Instr → Bool
  | .frameWhileSyncing _ f => Machine.rawValid f
  | .unacceptedFrame _ f => Machine.rawValid f
  | .transitFrame _ f => Machine.rawValid f && decide (0x80 ≤ f.kind.toNat)
  | .unknownRequest _ _ kind => decide (12 ≤ kind.toNat)
  | .unknownMgmtOperation _ _ op _ => decide (10 ≤ op.toNat)
  | .powerOn => true
  | .resetPin _ => true
  | .idleMark _ => true
  | .invalidReception _ _ => true
  | .silenceTimerExpiry _ => true
  | .syncWindowExpiry _ => true
  | .idleMarkSend _ => true
  | .frameBegin _ => true
  | .transmissionComplete _ => true
  | .rawLevelChange _ _ => true
  | .inputFilterExpiry _ => true
  | .sample _ _ => true
  | .channelSilenceExpiry _ => true
  | .standstillTimerExpiry => true
  | .sampleLoss => true
  | .channelDiscrepancy => true
  | .slip _ => true
  | .carReport _ _ => true
  | .carReportTimeout _ => true
  | .loadExpiry _ => true
  | .demand _ _ => true
  | .demandTimerExpiry => true
  | .brakeState _ _ => true
  | .brakeAnswerWindowExpiry => true
  | .decelerationCheckExpiry => true
  | .brakeReset _ _ => true
  | .railReset _ _ _ => true
  | .call _ _ => true
  | .consoleCall _ _ _ _ => true
  | .cancelCall _ _ _ _ => true
  | .holdSoft _ _ => true
  | .holdHard _ _ => true
  | .dispatch _ _ => true
  | .resume _ _ => true
  | .setCap _ _ _ => true
  | .setMode _ _ _ => true
  | .setFlag _ _ _ _ => true
  | .enterService _ _ => true
  | .leaveService _ _ => true
  | .driveState _ _ => true
  | .readyTimerExpiry => true
  | .torqueProofTimerExpiry => true
  | .statusTimerExpiry => true
  | .doorState _ _ => true
  | .doorAnswerWindowExpiry _ _ => true
  | .closeTimerExpiry _ _ _ => true
  | .stateTimerExpiry _ => true
  | .pulseStartOffset _ => true
  | .pulseEndOffset _ => true
  | .gateRequest _ _ => true
  | .fareAnswer _ _ => true
  | .fareDeadlineExpiry _ => true
  | .gatePassage _ _ => true
  | .waitPassDeadlineExpiry _ => true
  | .mgmtRead _ _ => true
  | .mgmtWrite _ _ => true
  | .commit _ _ _ => true
  | .abandon _ _ _ => true
  | .setLock _ _ _ => true
  | .nextNotice _ _ _ => true
  | .clearCounters _ _ _ => true
  | .invalidateCache _ _ _ => true
  | .clearGate _ _ _ => true
  | .store _ _ _ => true
  | .storeComplete _ => true
  | .reload _ _ _ => true
  | .powerLoss => true

end Sys2Proof
end

