-- ==== Sys2Proof/Tests/Slice0.lean ====
section
/-!
SUPPORT. Tests on fixed values: the checks of well-formedness, the worked examples of the manual, and for every statement with
hypotheses a state and operands that meet them, clause by clause.
-/

namespace Sys2Proof.Tests
set_option Elab.async false
open Sys2Proof.Machine

/-! ## Small states -/

/-- A node map with one entry of each role, and one transit entry on each side. -/
def net : Vector NodeEntry 48 := Vector.ofFn fun i : Fin 48 =>
  match i.val with
  | 0 => ⟨1, 0x01, 0xFF, 0, 0, 0, 0⟩
  | 1 => ⟨1, 0x02, 0xFF, 1, 0, 0, 0⟩
  | 2 => ⟨1, 0x03, 0xFF, 2, 0, 0, 0⟩
  | 3 => ⟨1, 0x10, 0xFF, 3, 0, 1, 0⟩
  | 4 => ⟨1, 0x11, 0xFF, 4, 0, 1, 0⟩
  | 5 => ⟨1, 0x12, 0xFF, 5, 0, 1, 0⟩
  | 6 => ⟨1, 0x13, 0xFF, 6, 0, 1, 0⟩
  | 7 => ⟨1, 0x14, 0xFF, 7, 0, 1, 0⟩
  | 8 => ⟨1, 0x15, 0xFF, 8, 0, 1, 0⟩
  | 9 => ⟨1, 0x20, 0xFF, 9, 0, 1, 0⟩
  | 10 => ⟨1, 0x21, 0xFF, 9, 1, 1, 0⟩
  | 11 => ⟨1, 0x40, 0xFF, 10, 0, 0, 1⟩
  | 12 => ⟨1, 0x41, 0xFF, 10, 0, 1, 1⟩
  | _ => ⟨0, 0, 0, 0, 0, 0, 0⟩

/-- A port that is UP. -/
def up : Port := { Port.start with link := .UP, silence := some 20 }

/-- The state after reset with both ports UP and the node map above. -/
def w : State := { State.reset with
  ports := ⟨up, up⟩
  active := { State.reset.active with b := { State.reset.active.b with nodes := net } } }

/-- Headers of frames from each role to the part. -/
def hConsole : Header := ⟨.C, 0xF0, 0x01⟩
def hMaint : Header := ⟨.C, 0xF0, 0x02⟩
def hFare : Header := ⟨.C, 0xF0, 0x03⟩
def hDrive : Header := ⟨.F, 0xF0, 0x10⟩
def hBrake : Header := ⟨.F, 0xF0, 0x11⟩
def hSheaveA : Header := ⟨.F, 0xF0, 0x12⟩
def hSheaveB : Header := ⟨.F, 0xF0, 0x13⟩
def hCar1 : Header := ⟨.F, 0xF0, 0x14⟩
def hGate0 : Header := ⟨.F, 0xF0, 0x20⟩
def hGate1 : Header := ⟨.F, 0xF0, 0x21⟩

/-- Replace port C. -/
def onC (p : Port) : State := { w with ports := ⟨p, up⟩ }

/-- A received frame with its right frame check. -/
def frameOf (dst src kind : Byte) (pl : List Byte) : RawFrame :=
  ⟨dst, src, kind, BitVec.ofNat 8 pl.length, pl, crc16 ([dst, src, kind, BitVec.ofNat 8 pl.length] ++ pl)⟩

/-- The next state of an outcome. -/
def got : Host.Outcome State Fault Refusal → Option State
  | .next t => some t
  | .fault _ => none
  | .refused _ => none

/-! ## The hypotheses of the statements can be met

`wit_<Name>` shows, for the statement Obligations.<Name>, a state and operands that meet its hypotheses, clause by clause. -/

/-- A frame of source 0x77, which the node map does not hold. -/
def fUnknown : RawFrame := frameOf 0xF0 0x77 0x08 [0, 0, 0, 0, 0, 0]
/-- A LINE_REQUEST of the wrong length. -/
def fShort : RawFrame := frameOf 0xF0 0x01 0x08 [0]
/-- A DRIVE_STATE from the console, which may not send one. -/
def fBarred : RawFrame := frameOf 0xF0 0x01 0x0A [1, 1]
/-- A LINE_REQUEST to another address. -/
def fAstray : RawFrame := frameOf 0x55 0x01 0x08 [7, 0, 0, 0, 0, 0]
/-- A frame of the lowest transit kind from one side to the other. -/
def fTransit : RawFrame := frameOf 0x41 0x40 0x80 [1, 2, 3]

theorem wit_EmptyQueueLetsOneMillisecondPass :
    (w.pending = [] ∧ w.power = .RUNNING) ∧ ({ w with power := .OFF }.pending = [] ∧ { w with power := .OFF }.power ≠ .RUNNING) := by
  decide +kernel

theorem wit_ReceptionsAndTimersServeTheLink :
    (w.power = .RUNNING ∧ w.ports.c.link = .UP) ∧ Port.start.link = .DOWN ∧ (onC Port.start).power = .RUNNING ∧
    (let p : Port := { Port.start with link := .SYNCING }; p.link = .SYNCING ∧ p.syncWindow = none) ∧
    (let p : Port := { Port.start with link := .SYNCING, syncWindow := some 30, syncCount := 1 }
     p.link = .SYNCING ∧ p.syncWindow ≠ none ∧ p.syncCount < 2) ∧
    (let p : Port := { Port.start with link := .SYNCING, syncWindow := some 30, syncCount := 2 }
     p.link = .SYNCING ∧ p.syncWindow ≠ none ∧ p.syncCount = 2) := by decide +kernel

theorem wit_FrameWhileSyncingServesTheLink :
    (∀ p ∈ [Port.start, { Port.start with link := .SYNCING },
        { Port.start with link := .SYNCING, syncWindow := some 1, syncCount := 1 },
        { Port.start with link := .SYNCING, syncWindow := some 1, syncCount := 2 }],
      (onC p).power = .RUNNING ∧ (onC p).agenda = [] ∧ rawValid fUnknown = true ∧ (onC p).ports.get .C = p ∧
        sourceEntry (onC p) ⟨.C, fUnknown.dst, fUnknown.src⟩ fUnknown.kind = none) ∧
    (rawValid fBarred = true ∧ readPayload fBarred.kind fBarred.payload = some (.driveState ⟨true, true⟩)) := by decide +kernel

theorem wit_FirstFailedStepCountsTheFrame :
    w.power = .RUNNING ∧ w.agenda = [] ∧ (w.ports.get .C).link = .UP ∧
    (rawValid fUnknown = true ∧ sourceEntry w ⟨.C, fUnknown.dst, fUnknown.src⟩ fUnknown.kind = none) ∧
    (∀ f ∈ [fShort, fBarred, fAstray], rawValid f = true ∧ sourceEntry w ⟨.C, f.dst, f.src⟩ f.kind = some (net.get 0)) ∧
    readPayload fShort.kind fShort.payload = none ∧
    (readPayload fBarred.kind fBarred.payload = some (.driveState ⟨true, true⟩) ∧
      entryAllows (net.get 0) (.driveState ⟨true, true⟩) = false) ∧
    (readPayload fAstray.kind fAstray.payload = some (.lineRequest 7 .dispatch) ∧
      entryAllows (net.get 0) (.lineRequest 7 .dispatch) = true ∧
      destinationOk w ⟨.C, fAstray.dst, fAstray.src⟩ (.lineRequest 7 .dispatch) = false) := by decide +kernel

theorem wit_TransitFrameIsForwardedUnchanged :
    w.power = .RUNNING ∧ w.agenda = [] ∧ rawValid fTransit = true ∧ 0x80 ≤ fTransit.kind.toNat ∧ (w.ports.get .C).link = .UP ∧
      nodeLookup w.active.b fTransit.src .C = some (net.get 11) ∧ yes (net.get 11).transit = true ∧
      fTransit.dst ≠ w.mgmt.ownAddress ∧ nodeLookup w.active.b fTransit.dst (otherPort .C) = some (net.get 12) := by
  decide +kernel

theorem wit_ReceptionsAndTimersServeTheLink_timers :
    (w.power = .RUNNING ∧ (w.ports.get .C).silence ≠ none ∧ (w.ports.get .C).link ≠ .DOWN) ∧
    (let p : Port := { Port.start with silence := some 1 }
     (onC p).power = .RUNNING ∧ p.silence ≠ none ∧ p.link = .DOWN) ∧ Port.start.silence = none ∧
    ({ Port.start with syncWindow := some 1 } : Port).syncWindow ≠ none ∧ Port.start.syncWindow = none := by decide +kernel

/-- A frame of the part's own. -/
def fOwn : OutFrame := ⟨0x10, 0xF0, some .BRAKE, .brakeOrder 1 .EMERGENCY⟩
/-- A door order that releases door 1 LEFT of car 1 under token 3. -/
def dOrder : DoorOrder := ⟨3, 1, 0, 0, 0⟩
/-- Car 1 with that order queued and its release outstanding. -/
def wDoor : State := { w with doors := { w.doors with one := { w.doors.one with
  queued := some dOrder
  sides := { w.doors.one.sides with left := { w.doors.one.sides.left with outstanding := some ⟨3, none⟩ } } } } }

theorem wit_TransmissionsTakeUrgentFirst :
    (w.power = .RUNNING ∧ w.ports.c.link = .UP ∧ w.ports.c.sending = none ∧ w.ports.c.urgent = [] ∧ w.ports.c.normal = []) ∧
    ({ up with urgent := [fOwn], normal := [fOwn] } : Port).urgent = [fOwn] ∧
    (({ up with normal := [fOwn] } : Port).urgent = [] ∧ ({ up with normal := [fOwn] } : Port).normal = [fOwn]) ∧
    (fOwn.content = .brakeOrder 1 .EMERGENCY ∧ w.brake.outstanding = some ⟨1, .EMERGENCY, none⟩ ∧ fOwn.role = some .BRAKE) ∧
    ((wDoor.doors.get .car1).queued.map DoorOrder.token = some dOrder.token ∧
      (w.doors.get .car1).queued.map DoorOrder.token ≠ some dOrder.token ∧
      ((wDoor.doors.get .car1).sides.get .LEFT).outstanding = some ⟨dOrder.token, none⟩) := by decide +kernel

theorem wit_TransmissionsTakeUrgentFirst_idle :
    (w.power = .RUNNING ∧ w.ports.c.sending = none ∧ w.ports.c.idleTimer ≠ none ∧ w.ports.c.urgent = [] ∧ w.ports.c.normal = []) ∧
    (let p : Port := { up with sending := some fOwn, idleTimer := none }; p.sending ≠ none ∧ p.idleTimer = none) := by
  decide +kernel

theorem wit_InputFilterFollowsTheRawLevel :
    w.power = .RUNNING ∧ (w.active.b.filterTimes.get 0).toNat ≠ 0 ∧
    (let d := w.dins.get 0; d.raw = .OPEN ∧ d.raw ≠ .CLOSED ∧ d.filtered ≠ some .CLOSED ∧ d.timer ≠ none) ∧
    (let d : DinRecord := ⟨.OPEN, some .CLOSED, none⟩; d.raw ≠ .CLOSED ∧ d.filtered = some .CLOSED ∧ d.timer = none) ∧
    (({ w with active := { w.active with b := { w.active.b with filterTimes := Vector.replicate 8 0 } } } :
        State).active.b.filterTimes.get 0).toNat = 0 := by decide +kernel

/-- Channel A with one sample in its window and both channels valid or not. -/
def wRope (v : List SampleEntry) : State := { w with pos := { w.pos with chan := { w.pos.chan with a := { ChannelState.start with window := v } } } }

theorem wit_DiscardedSampleMovesNothing :
    (let s := wRope [⟨1000, 50⟩]
     acceptedFrom s hSheaveA (.sample ⟨.A, 1000, 50, .NORMAL⟩) (net.get 5) ∧
       newest (s.pos.chan.get .A).window = some ⟨1000, 50⟩) ∧
    acceptedFrom w hSheaveA (.sample ⟨.A, 1000, 50, .HEAD_FAULT⟩) (net.get 5) ∧
    (∀ n ∈ [1, 2],
      let s := wRope [⟨1000, 50⟩]
      let s := { s with pos := { s.pos with chan := { s.pos.chan with a := { s.pos.chan.a with rejects := n } } } }
      acceptedFrom s hSheaveA (.sample ⟨.A, 301000, 150, .NORMAL⟩) (net.get 5) ∧
        newest (s.pos.chan.get .A).window = some ⟨1000, 50⟩ ∧ (s.pos.chan.get .A).rejects = n ∧
        25000 < (301000#32 - 1000#32).toInt.natAbs * (channelScale s.active.b .A).toNat * 10 / (150#16 - 50#16).toNat) := by
  unfold acceptedFrom; decide +kernel

/-- The greatest dt, 2000 units of 0.1 ms, at 25000 mm/s with counts of 250 µm: the greatest travel that is accepted. -/
theorem wit_DrivingSampleMovesTheRope :
    let s := { wRope [⟨1000, 50⟩, ⟨1000, 100⟩] with
      active := { w.active with b := { w.active.b with nodes := net, channels := #v[⟨250, 0⟩, ⟨250, 1⟩] } } }
    let p : SampleP := ⟨.A, 1000 + 20000, 100 + 2000, .NORMAL⟩
    acceptedFrom s hSheaveA (.sample p) (net.get 5) ∧ newest (s.pos.chan.get .A).window = some ⟨1000, 100⟩ ∧
      drivingChannel s.pos = some .A ∧ (p.stamp - 100#16).toNat ≠ 0 ∧ (p.stamp - 100#16).toNat ≤ 2000 ∧
      (p.count - 1000#32).toInt.natAbs * (channelScale s.active.b .A).toNat * 10 / (p.stamp - 100#16).toNat ≤ 25000 := by
  unfold acceptedFrom; decide +kernel

/-- A gap begins at dt 2001; channel B does not drive while A is valid. -/
theorem wit_DrivingSampleMovesTheRope_without_travel :
    (acceptedFrom w hSheaveA (.sample ⟨.A, 1000, 50, .NORMAL⟩) (net.get 5) ∧ newest (w.pos.chan.get .A).window = none) ∧
    (let s := wRope [⟨1000, 50⟩]
     acceptedFrom s hSheaveA (.sample ⟨.A, 1000, 2051, .NORMAL⟩) (net.get 5) ∧ 2000 < (2051#16 - 50#16).toNat) ∧
    (let s := wRope [⟨1000, 50⟩, ⟨1000, 150⟩]
     let s := { s with pos := { s.pos with chan := { s.pos.chan with b := { ChannelState.start with window := [⟨7, 50⟩] } } } }
     acceptedFrom s hSheaveB (.sample ⟨.B, 7, 150, .NORMAL⟩) (net.get 6) ∧ newest (s.pos.chan.get .B).window = some ⟨7, 50⟩ ∧
      drivingChannel s.pos = some .A ∧ (7#32 - 7#32).toInt.natAbs * (channelScale s.active.b .B).toNat * 10 / 100 ≤ 25000) := by
  unfold acceptedFrom; decide +kernel

theorem wit_SilenceAndStandstillTimers :
    (let s := { w with pos := { w.pos with standstillTimer := some 1, chan := { w.pos.chan with
        a := { ChannelState.start with window := [⟨1, 1⟩, ⟨1, 2⟩], silence := some 1 } } } }
     s.power = .RUNNING ∧ (s.pos.chan.get .A).silence ≠ none ∧ drivingChannel s.pos ≠ none ∧ s.pos.standstillTimer ≠ none) := by
  decide +kernel

/-- All three fault timers run; in service in the state HELD. -/
def wFault (st : TripState) : State := { w with
  trip := { w.trip with state := st }
  pos := { w.pos with discrepancyTimer := some 1, cars := { w.pos.cars with one := { w.pos.cars.one with slipTimer := some 1 } } } }

theorem wit_FaultTimersRaiseTheirCauses :
    (∀ s ∈ [wFault .IDLE, wFault .HELD], s.power = .RUNNING ∧ s.pos.lineSampleTimer ≠ none ∧ s.pos.discrepancyTimer ≠ none ∧
      (s.pos.cars.get .car1).slipTimer ≠ none) ∧
    (wFault .IDLE).inService = false ∧ (wFault .HELD).inService = true ∧ .SAMPLE_LOSS ∉ w.brake.active ∧
    .CHANNEL_DISCREPANCY ∉ w.brake.active ∧ .SLIP ∉ w.brake.active := by decide +kernel

/-- Marker 0 stands at 20 000 mm. -/
def wMarker : State := { w with active := { w.active with b := { w.active.b with
  markers := vset w.active.b.markers 0 ⟨1, 20000⟩, pairSum := 1520000 } } }

theorem wit_CarReportsSetRecordAndPosition :
    (acceptedFrom w hCar1 (.carReport ⟨.car1, 0x8000, 0xFF, .PASSED, 0xFFFF, .READY⟩) (net.get 7) ∧
      markerPos w.active.b 0xFF = none) ∧
    (acceptedFrom w hCar1 (.carReport ⟨.car1, 0x7FFF, 0xFF, .PASSED, 30001, .READY⟩) (net.get 7)) ∧
    (acceptedFrom wMarker hCar1 (.carReport ⟨.car1, 0, 0, .STANDING, 0, .READY⟩) (net.get 7) ∧
      markerPos wMarker.active.b 0 = some 20000 ∧ (wMarker.pos.cars.get .car1).referenced = false ∧
      (wMarker.pos.cars.get .car2).referenced = false) := by unfold acceptedFrom; decide +kernel

theorem wit_CarTimersForgetReports :
    (let s := { w with pos := { w.pos with cars := { w.pos.cars with one :=
        { w.pos.cars.one with reportTimer := some 1, loadTimer := some 1 } } } }
     s.power = .RUNNING ∧ (s.pos.cars.get .car1).reportTimer ≠ none ∧ (s.pos.cars.get .car1).loadTimer ≠ none ∧
      s.pos.standstill = false ∧ .CAR_LINK_LOST ∉ s.brake.active) ∧ (w.pos.cars.get .car1).loadTimer = none := by
  decide +kernel

/-- RUNNING UP with v_perm 8000 mm/s and `last` last forwarded. -/
def wRun (last : Option Nat) : State := { w with
  trip := { w.trip with state := .RUNNING }
  speed := { w.speed with vPerm := 8000 }
  filter := { w.filter with lastForwarded := last } }
/-- The header of a DEMAND from the console to the drive. -/
def hDemand : Header := ⟨.C, 0x10, 0x01⟩

/-- The rows of the table of R44: each is met by a code. The limit is 1601 (0x641). -/
theorem wit_ConsoleDemandIsClamped :
    (acceptedFrom (wRun none) hDemand (.demand ⟨0, 80, .DOWN, 0⟩) (net.get 0) ∧ quiet (wRun none) = true ∧
      (wRun none).filter.substitution = false ∧ Dir.DOWN ≠ (wRun none).trip.dir) ∧
    (∀ x ∈ ([(none, 0), (some 1601, 0), (none, 0xFFF), (none, 0xFFE), (none, 1)] : List (Option Nat × BitVec 16)),
      acceptedFrom (wRun x.1) hDemand (.demand ⟨x.2, 80, .UP, 0⟩) (net.get 0) ∧ quiet (wRun x.1) = true ∧
        (wRun x.1).trip.dir = .UP ∧ (wRun x.1).trip.state = .RUNNING ∧ (wRun x.1).filter.lastForwarded = x.1) ∧
    (let s := { w with filter := { w.filter with substitution := true } }
     acceptedFrom s hDemand (.demand ⟨0, 80, .UP, 0⟩) (net.get 0) ∧ quiet s = true ∧ s.filter.substitution = true) := by
  unfold acceptedFrom; decide +kernel

theorem wit_LostDemandIsSubstituted :
    ∀ st ∈ [TripState.DEPARTING, .RUNNING, .STOPPING, .HELD],
      let s := { w with trip := { w.trip with state := st }, filter := { w.filter with timer := some 1 } }
      s.power = .RUNNING ∧ s.filter.timer ≠ none ∧ s.agenda = [] ∧ s.trip.state = st := by decide +kernel

theorem wit_DemandLostAndRisesStopTheTrip :
    ((wRun none).trip.state = .RUNNING ∧ (wRun none).pos.standstill = false) ∧
    ({ wRun none with pos := { w.pos with standstill := true } } : State).pos.standstill = true ∧
    ({ w with trip := { w.trip with state := .DEPARTING } } : State).trip.state = .DEPARTING ∧
    (w.trip.state ≠ .RUNNING ∧ w.trip.state ≠ .DEPARTING) ∧
    (∀ new ∈ [Stage.HOLD, .SERVICE, .EMERGENCY, .RAIL], stageRank .RELEASED < stageRank new) ∧
    w.trip.state = .IDLE ∧ ({ w with trip := { w.trip with state := .TRIPPED } } : State).trip.state = .TRIPPED ∧
    ((wRun none).trip.state ≠ .IDLE ∧ (wRun none).trip.state ≠ .TRIPPED) ∧
    (stageRank .EMERGENCY ≤ stageRank .RAIL ∧ Stage.EMERGENCY ≠ .HOLD) := by decide +kernel

/-- The brake supervisor with an order outstanding. -/
def wOrder (o : BrakeOrder) : State := { w with brake := { w.brake with outstanding := some o } }

theorem wit_BrakeAnswersAreTakenOrStale :
    (acceptedFrom w hBrake (.brakeState ⟨2, .HOLD⟩) (net.get 4) ∧ quiet w = true ∧
      w.brake.outstanding = some ⟨1, .EMERGENCY, none⟩ ∧ (1#8 ≠ 2#8)) ∧
    (acceptedFrom w hBrake (.brakeState ⟨1, .EMERGENCY⟩) (net.get 4) ∧ w.agenda = []) ∧
    (acceptedFrom w hBrake (.brakeState ⟨1, .RAIL⟩) (net.get 4) ∧ 1 ≤ stageRank .EMERGENCY ∧ stageRank .EMERGENCY < stageRank .RAIL) ∧
    (∀ st ∈ [Stage.RELEASED, .SERVICE, .EMERGENCY],
      acceptedFrom (wOrder ⟨1, st, none⟩) hBrake (.brakeState ⟨1, .HOLD⟩) (net.get 4) ∧
        (wOrder ⟨1, st, none⟩).brake.outstanding = some ⟨1, st, none⟩ ∧
        ¬ (.HOLD = st ∨ (1 ≤ stageRank st ∧ stageRank st < stageRank .HOLD))) ∧
    (acceptedFrom (wOrder ⟨1, .RELEASED, none⟩) hBrake (.brakeState ⟨1, .RELEASED⟩) (net.get 4) ∧
      (wOrder ⟨1, .RELEASED, none⟩).brake.outstanding = some ⟨1, .RELEASED, none⟩) := by unfold acceptedFrom; decide +kernel

theorem wit_UnansweredOrdersAndChecksRaiseTheStage :
    (∀ st ∈ [Stage.RELEASED, .HOLD, .SERVICE, .EMERGENCY, .RAIL],
      let s := wOrder ⟨1, st, some 1⟩
      s.power = .RUNNING ∧ s.brake.outstanding = some ⟨1, st, some 1⟩ ∧ (⟨1, st, some 1⟩ : BrakeOrder).window ≠ none) ∧
    (let s := { w with brake := { w.brake with decel := some ⟨8000, 1500, 1⟩ }, pos := { w.pos with measured := 8000 } }
     s.power = .RUNNING ∧ s.brake.decel = some ⟨8000, 1500, 1⟩ ∧ s.pos.standstill = false ∧
      (s.params.standstillSpeed.toNat : Int) < s.pos.measured.natAbs ∧
      (8000 : Int) - ((1500 / 2 : Nat) : Int) < s.pos.measured.natAbs) ∧
    (quiet w = true ∧ w.brake.decel = some ⟨0, 1500, 500⟩ ∧ ¬ (w.params.standstillSpeed.toNat : Int) < w.pos.measured.natAbs) ∧
    (let b : Supervisor := { w.brake with commanded := .HOLD }
     stageRank b.commanded < 3 ∧ demandedStage b = .EMERGENCY) ∧
    (let s := { w with brake := { w.brake with decel := none } }
     stageInForce s = true ∧ s.brake.commanded = .EMERGENCY ∧ causeStage .ROLLBACK = .EMERGENCY ∧ .ROLLBACK ∉ s.brake.active) ∧
    (let b : Supervisor := { w.brake with active := [], latchE := none, latchR := some .SLIP }
     demandedStage b ≠ b.commanded ∧ demandedStage b ≠ .EMERGENCY) := by decide +kernel

/-- At standstill with the given active causes and latch R. -/
def wStill (active : List Cause) (r : Option Cause) : State := { w with
  pos := { w.pos with standstill := true }, brake := { w.brake with active := active, latchR := r } }

theorem wit_BrakeResetClearsTheLatches :
    (acceptedFrom w hConsole (.lineRequest 1 .brakeReset) (net.get 0) ∧ w.pos.standstill = false ∧ quiet w = true) ∧
    (let s := wStill [.ESTOP] none
     acceptedFrom s hConsole (.lineRequest 1 .brakeReset) (net.get 0) ∧ s.pos.standstill = true ∧ quiet s = true ∧
      .ESTOP ∈ s.brake.active ∧ causeStage .ESTOP = .EMERGENCY) ∧
    (∀ r ∈ [none, some Cause.SLIP],
      let s := wStill [] r
      acceptedFrom s hConsole (.lineRequest 1 .brakeReset) (net.get 0) ∧ s.pos.standstill = true ∧ s.brake.active = [] ∧
        s.brake.latchR = r) := by unfold acceptedFrom; decide +kernel

/-- Both cars linked with their rail brakes READY, at standstill, latch R set, latch E as given. -/
def wRail (e : Option Cause) : State := { wStill [] (some .SLIP) with
  pos := { w.pos with standstill := true, cars :=
    ⟨{ CarRecord.start with linkUp := true, rail := some .READY }, { CarRecord.start with linkUp := true, rail := some .READY }⟩ }
  brake := { w.brake with active := [], latchR := some .SLIP, latchE := e } }
/-- WRITE_ALL_LOCK set. -/
def wLocked : State := { w with mgmt := { w.mgmt with locks := ⟨false, false, true⟩ } }

theorem wit_RailResetClearsLatchR :
    (acceptedFrom wLocked hMaint (.mgmtControl 1 8 0) (net.get 1) ∧ wLocked.mgmt.locks.writeAll = true ∧ quiet wLocked = true) ∧
    (acceptedFrom w hConsole (.mgmtControl 1 8 0) (net.get 0) ∧ w.mgmt.locks.writeAll = false ∧ nodeRole (net.get 0) = .CONSOLE ∧
      quiet w = true) ∧
    (acceptedFrom w hMaint (.mgmtControl 1 8 0) (net.get 1) ∧ nodeRole (net.get 1) = .MAINT ∧ ¬ w.pos.standstill = true) ∧
    (∀ e ∈ [none, some Cause.START],
      let s := wRail e
      acceptedFrom s hMaint (.mgmtControl 1 8 0) (net.get 1) ∧ s.mgmt.locks.writeAll = false ∧ s.pos.standstill = true ∧
        (∀ c ∈ s.brake.active, causeStage c ≠ .RAIL) ∧
        (s.pos.cars.one.linkUp = true ∧ s.pos.cars.one.rail = some .READY) ∧
        (s.pos.cars.two.linkUp = true ∧ s.pos.cars.two.rail = some .READY) ∧ s.brake.latchS = none ∧ s.brake.latchE = e) := by
  unfold acceptedFrom; decide +kernel
/-! ### Calls, holds and departures -/

/-- The line of the worked examples of chapter 1: halts 0 and 1 at 20 000 and 1 500 000 mm, halts 2 and 3 between them; the program of the
gates at halt 0; a window of 150 mm. -/
def lineB : GroupB := { State.reset.active.b with
  halts := #v[⟨1, 20000, 150, 2, 0xF, 1⟩, ⟨1, 1500000, 150, 2, 0xF, 1⟩, ⟨1, 660000, 150, 0, 0xE, 0⟩, ⟨1, 860020, 150, 1, 0xF, 0⟩,
    ⟨1, 1100000, 150, 0, 0xE, 0⟩, ⟨0, 0, 0, 0, 0, 0⟩]
  markers := vset (vset (vset (vset (Vector.replicate 32 ⟨0, 0⟩) 3 ⟨1, 20000⟩) 7 ⟨1, 1500120⟩) 12 ⟨1, 742000⟩) 20 ⟨1, 400000⟩
  envelope := vset (vset (Vector.replicate 32 ⟨0, 0, 0⟩) 0 ⟨1, 0, 3000⟩) 1 ⟨1, 40000, 8000⟩
  pairSum := 1520000
  channels := #v[⟨250, 0⟩, ⟨250, 1⟩]
  nodes := net }

/-- Gate 0 is an entry gate at halt 0, gate 1 an exit gate there; halts 0 and 1 accept calls in state 0 of their programs. -/
def lineA : GroupA := { State.reset.active.a with
  gates := vset (vset (Vector.replicate 16 ⟨0, 0, 0, 6⟩) 0 ⟨1, 0, 0, 6⟩) 1 ⟨1, 0, 1, 6⟩
  capacity := #v[60, 60] }

/-- A car of the example at `mm`, referenced or not. -/
def carAt (mm : Int) (r : Bool) : CarRecord := { CarRecord.start with accumulator := BitVec.ofInt 48 (mm * 1000), referenced := r }

/-- The line in a trip state with a plan, car 1 at the lower terminus and car 2 at the upper one. -/
def wTrip (st : TripState) (plan : List Stop) : State := { w with
  active := ⟨lineA, lineB⟩
  staged := ⟨lineA, lineB⟩
  trip := { w.trip with state := st, plan := plan }
  pos := { w.pos with cars := ⟨carAt 20000 true, carAt 1500000 true⟩ } }
/-- The same at standstill. -/
def wStand (st : TripState) (plan : List Stop) : State :=
  { wTrip st plan with pos := { (wTrip st plan).pos with standstill := true } }

/-- Nine stops of car 1 at halts that the table leaves out. -/
def nine : List Stop := List.replicate 9 ⟨⟨.car1, 5, .CAR⟩, none⟩

/-- Car 1 stands at 20 000 mm: halt 0 lies at distance 0, at most its window; halt 2 lies at 640 000 mm, ahead; halt 5 is absent. -/
theorem wit_CallsAreTestedInOrder :
    w.trip.state = .IDLE ∧
    (let s := wTrip .RUNNING []
     s.trip.state = .RUNNING ∧ haltPresent s.active.b 5 = false ∧ haltPresent s.active.b 0 = true ∧ s.trip.hold = .NONE ∧
      (s.pos.cars.get .car1).referenced = true ∧ outputSet s 0 bitCallsAccepted = false ∧
      pairDistance s .car1 0 ≤ platformWindow s.active.b 0 ∧ platformWindow s.active.b 2 < pairDistance s .car1 2 ∧
      ((.car1, 2) : CarId × Halt) ∉ planPairs s.trip.plan ∧
      ¬ isqrt (2 * s.params.serviceDecel.toNat *
          min 8000000 (max 0 (pairDistance s .car1 2 - s.params.stopMargin.toNat)).toNat) <
        s.pos.measured.natAbs + s.params.callMargin.toNat ∧
      (planWith s ⟨.car1, 2, .CONSOLE⟩ (pairDistance s .car1 2)).isSome) ∧
    (let s := { wTrip .RUNNING [] with pos := { w.pos with measured := 40000, cars := ⟨carAt 20000 true, carAt 1500000 true⟩ } }
     isqrt (2 * s.params.serviceDecel.toNat * min 8000000 (max 0 (pairDistance s .car1 2 - s.params.stopMargin.toNat)).toNat) <
        s.pos.measured.natAbs + s.params.callMargin.toNat) ∧
    ((.car1, 5) : CarId × Halt) ∈ planPairs (wTrip .RUNNING nine).trip.plan ∧
    planWith (wTrip .RUNNING nine) ⟨.car1, 2, .CAR⟩ (pairDistance (wTrip .RUNNING nine) .car1 2) = none ∧
    ({ (wTrip .PARKED []) with trip := { (wTrip .PARKED []).trip with hold := .SOFT } } : State).trip.hold ≠ .NONE ∧
    (carAt 0 false).referenced = false := by decide +kernel

/-- Both cars of a pair share a stop when the other car's halt lies at the same distance: here 50 mm apart, the most there may be. -/
theorem wit_PlanTakesPairsAndTheTerminiStop :
    (let s := wTrip .RUNNING [⟨⟨.car1, 2, .CAR⟩, none⟩]
     let x : Stop := ⟨⟨.car1, 2, .CAR⟩, none⟩
     s.trip.plan = [] ++ x :: [] ∧ x.second = none ∧ x.first.car ≠ .car2 ∧ stopDistance s x = some 640000 ∧
      ((640000 - 640050 : Int).natAbs ≤ 50 ∧ ¬ (640000 - 640051 : Int).natAbs ≤ 50) ∧
      planWith s ⟨.car2, 3, .CAR⟩ 640050 = some [⟨x.first, some ⟨.car2, 3, .CAR⟩⟩] ∧
      (s.trip.plan.filter fun y => !isTermini y) = [x] ++ [] ∧
      planWith s ⟨.car2, 3, .CAR⟩ 640051 = some [x, ⟨⟨.car2, 3, .CAR⟩, none⟩]) ∧
    9 ≤ (wTrip .RUNNING nine).trip.plan.length ∧
    [terminiStop .UP].any isTermini = true ∧ (nine.any isTermini = false ∧ nine.length ≤ 9) ∧
    ([] : List Stop).any isTermini = false := by decide +kernel

theorem wit_CallsAreAnsweredForTheirCar :
    (acceptedFrom w hConsole (.lineRequest 4 (.call .car1 2)) (net.get 0) ∧
      (callOutcome w .car1 (haltOfByte 2) .CONSOLE).2 = none ∧ quiet w = true) ∧
    (let s := wTrip .PARKED []
     acceptedFrom s hConsole (.lineRequest 4 (.call .car1 2)) (net.get 0) ∧ (callOutcome s .car1 (haltOfByte 2) .CONSOLE).2.isSome ∧
      acceptedFrom s hCar1 (.call ⟨4, 2, .NONE⟩) (net.get 7) ∧ nodeRole (net.get 7) ≠ .GATE ∧
      (callOutcome s .car1 (haltOfByte 2) .CAR).2.isSome) ∧
    (acceptedFrom w hCar1 (.call ⟨4, 2, .NONE⟩) (net.get 7) ∧ (callOutcome w .car1 (haltOfByte 2) .CAR).2 = none) ∧
    (acceptedFrom w hGate0 (.call ⟨4, 2, .UPHILL⟩) (net.get 9) ∧ nodeRole (net.get 9) = .GATE ∧ gatePresent w.active.a 0 = false) ∧
    (let s := wTrip .PARKED []
     acceptedFrom s hGate0 (.call ⟨4, 0, .DOWNHILL⟩) (net.get 9) ∧ gatePresent s.active.a 0 = true ∧ nodeGate (net.get 9) = 0 ∧
      (callOutcome s .car2 (some 0) .PLATFORM).2 = none ∧ quiet s = true) ∧
    (let s := { wTrip .PARKED [] with seqs := Vector.replicate 6 ⟨0, 0, 0x10, none, false, false, false, 0⟩ }
     acceptedFrom s hGate0 (.call ⟨4, 0, .DOWNHILL⟩) (net.get 9) ∧ s.trip.dir = .UP ∧
      (callOutcome s .car2 (some 0) .PLATFORM).2.isSome) := by unfold acceptedFrom; decide +kernel

theorem wit_CancelCallTakesThePairOut :
    (acceptedFrom w hConsole (.lineRequest 5 (.cancelCall .car1 2)) (net.get 0) ∧ quiet w = true ∧
      (w.trip.plan.flatMap stopPairs).find? (fun p => (p.car == .car1) && decide (p.halt.val = 2)) = none) ∧
    (∀ src ∈ [Source.CAR, .CONSOLE],
      let s := wTrip .PARKED [⟨⟨.car1, 2, src⟩, none⟩]
      acceptedFrom s hConsole (.lineRequest 5 (.cancelCall .car1 2)) (net.get 0) ∧ quiet s = true ∧
        (s.trip.plan.flatMap stopPairs).find? (fun p => (p.car == .car1) && decide (p.halt.val = 2)) = some ⟨.car1, 2, src⟩) := by
  unfold acceptedFrom; decide +kernel

theorem wit_HoldsStopTheTrip :
    (acceptedFrom w hConsole (.lineRequest 1 .holdSoft) (net.get 0) ∧ acceptedFrom w hConsole (.lineRequest 1 .holdHard) (net.get 0) ∧
      w.trip.state = .IDLE ∧ quiet w = true) ∧
    (∀ st ∈ [TripState.PARKED, .READY, .DEPARTING, .RUNNING],
      let s := wTrip st []
      acceptedFrom s hConsole (.lineRequest 1 .holdSoft) (net.get 0) ∧ acceptedFrom s hConsole (.lineRequest 1 .holdHard) (net.get 0) ∧
        s.trip.state = st ∧ st ≠ .IDLE ∧ s.pos.standstill = false) ∧
    ((wStand .RUNNING []).pos.standstill = true ∧
      acceptedFrom (wStand .RUNNING []) hConsole (.lineRequest 1 .holdHard) (net.get 0)) := by unfold acceptedFrom; decide +kernel

/-- In mode CREEP with the maintenance key input OPEN. -/
def wKey (st : TripState) : State := { wTrip st [] with
  trip := { (wTrip st []).trip with mode := .CREEP }
  dins := vset w.dins 1 ⟨.OPEN, some .OPEN, none⟩ }
/-- With a hold request. -/
def wHold (st : TripState) : State := { wTrip st [] with trip := { (wTrip st []).trip with hold := .SOFT } }

theorem wit_DepartureRequestsAreRefusedInOrder :
    (∀ s ∈ [w, wKey .PARKED, wHold .PARKED, wTrip .AT_STOP []], quiet s = true ∧
      acceptedFrom s hConsole (.lineRequest 1 .dispatch) (net.get 0) ∧ acceptedFrom s hConsole (.lineRequest 1 .resume) (net.get 0)) ∧
    (w.trip.state ≠ .PARKED ∧ w.trip.state ≠ .AT_STOP ∧ w.trip.state ≠ .HELD) ∧
    ((wKey .PARKED).trip.state = .PARKED ∧ (wKey .PARKED).trip.mode = .CREEP ∧ dinLevel (wKey .PARKED) 1 = .OPEN) ∧
    ((wHold .PARKED).trip.state = .PARKED ∧ (wHold .PARKED).trip.mode = .NORMAL ∧ (wHold .PARKED).trip.hold ≠ .NONE) ∧
    ((wTrip .AT_STOP []).trip.state = .AT_STOP ∧ (wTrip .AT_STOP []).trip.hold = .NONE ∧ (wTrip .AT_STOP []).trip.plan = []) := by
  unfold acceptedFrom; decide +kernel

/-- All doors locked, no latch, DIN0 closed, the drive ready: the conditions of R86 but for the trip. -/
def wGo (st : TripState) (plan : List Stop) : State :=
  let d : SideDoors := { SideDoors.start with doors := Vector.replicate 4 ⟨.LOCKED, none⟩ }
  let c : CarDoors := { CarDoors.start 0 none with sides := ⟨d, d⟩ }
  { wTrip st plan with
    doors := ⟨c, c⟩
    brake := { w.brake with active := [], latchE := none }
    dins := vset w.dins 0 ⟨.CLOSED, some .CLOSED, none⟩
    trip := { (wTrip st plan).trip with lastDrive := some ⟨true, true⟩, origin := some .PARKED } }

theorem wit_DepartureRequestsLeadToReady :
    (∀ s ∈ [wTrip .PARKED [], wTrip .AT_STOP nine, wTrip .HELD nine, wTrip .HELD [], wGo .PARKED []],
      ¬ (s.trip.mode = .CREEP ∧ dinLevel s 1 = .OPEN) ∧ s.trip.hold = .NONE ∧
      acceptedFrom s hConsole (.lineRequest 1 .dispatch) (net.get 0) ∧ acceptedFrom s hConsole (.lineRequest 1 .resume) (net.get 0)) ∧
    (wTrip .PARKED []).trip.state = .PARKED ∧ (wTrip .AT_STOP nine).trip.state = .AT_STOP ∧ (wTrip .AT_STOP nine).trip.plan ≠ [] ∧
    (wTrip .HELD nine).trip.state = .HELD ∧ departureReady (wTrip .READY [terminiStop .UP]) = false ∧
    departureReady (wGo .READY [terminiStop .UP]) = true ∧
    (let s := wGo .PARKED []
     (∀ k ∈ [CarId.car1, .car2], (∀ sd ∈ [Side.LEFT, .RIGHT], ∀ c, (((s.doors.get k).sides.get sd).doors.get c).state = .LOCKED) ∧
        s.trip.berth.get k = none ∧ (s.pos.cars.get k).referenced = true) ∧ (∀ v ∈ s.gates.queue, v.state ≠ .WAIT_PASS) ∧
      s.brake.latchS = none ∧ s.brake.latchE = none ∧ s.brake.latchR = none ∧
      placeTermini s.trip.dir s.trip.plan ≠ [] ∧ (s.dins.get 0).filtered = some .CLOSED ∧
      s.trip.lastDrive = some ⟨true, true⟩) := by unfold acceptedFrom; decide +kernel

theorem wit_CapModeAndFlagsAreSetOnRequest_cap :
    (let s := w
     acceptedFrom s hConsole (.lineRequest 1 (.setCap 9999)) (net.get 0) ∧ quiet s = true ∧
      clampNat s.params.creepSpeed.toNat s.params.designMax.toNat 9999 < s.trip.lineCap ∧ s.pos.standstill = false) ∧
    (acceptedFrom w hConsole (.lineRequest 1 (.setCap 10000)) (net.get 0) ∧
      ¬ clampNat w.params.creepSpeed.toNat w.params.designMax.toNat 10000 < w.trip.lineCap) ∧
    (let s := { w with trip := { w.trip with lineCap := 9999 } }
     acceptedFrom s hConsole (.lineRequest 1 (.setCap 10000)) (net.get 0) ∧
      clampNat s.params.creepSpeed.toNat s.params.designMax.toNat 10000 ≠ s.trip.lineCap) := by unfold acceptedFrom; decide +kernel

theorem wit_CapModeAndFlagsAreSetOnRequest :
    (∀ s ∈ [w, wTrip .RUNNING [], wTrip .PARKED [], wStand .HELD []],
      acceptedFrom s hConsole (.lineRequest 1 (.setMode .CREEP)) (net.get 0) ∧ quiet s = true) ∧
    ((wTrip .RUNNING []).trip.state ≠ .IDLE ∧ (wTrip .RUNNING []).trip.state ≠ .PARKED ∧ (wTrip .RUNNING []).trip.state ≠ .HELD) ∧
    ((wTrip .PARKED []).trip.state = .PARKED ∧ (wTrip .PARKED []).pos.standstill = false) ∧
    ((wStand .HELD []).pos.standstill = true ∧ dinLevel (wKey .PARKED) 1 = .OPEN) ∧
    (acceptedFrom (wKey .IDLE) hConsole (.lineRequest 1 (.setMode .CREEP)) (net.get 0) ∧ (wKey .IDLE).trip.state = .IDLE) ∧
    ({ w with dins := vset w.dins 1 ⟨.CLOSED, some .CLOSED, none⟩ } : State).trip.state = .IDLE ∧
    dinLevel { w with dins := vset w.dins 1 ⟨.CLOSED, some .CLOSED, none⟩ } 1 ≠ .OPEN ∧
    (acceptedFrom w hConsole (.lineRequest 1 (.setFlag 4 .SET)) (net.get 0) ∧ 4 ≤ (4#8).toNat) ∧
    (acceptedFrom w hConsole (.lineRequest 1 (.setFlag 3 .SET)) (net.get 0) ∧ (3#8).toNat = (3 : Fin 4).val) := by
  unfold acceptedFrom; decide +kernel

/-- The line out of service at standstill, without latches, both cars referenced or not. -/
def wEnter (r : Bool) : State := { wStand .IDLE [] with
  brake := { w.brake with active := [], latchE := none }
  pos := { (wStand .IDLE []).pos with cars := ⟨carAt 20000 r, carAt 1500000 r⟩ } }

theorem wit_EnterServiceParksOrHolds :
    (∀ s ∈ [w, wTrip .PARKED [], wTrip .IDLE [], wStand .IDLE [], wEnter false, wEnter true],
      acceptedFrom s hConsole (.lineRequest 1 .enterService) (net.get 0) ∧ quiet s = true) ∧
    (wTrip .PARKED []).trip.state ≠ .IDLE ∧
    (w.trip.state = .IDLE ∧ invalidTables w.active w.mgmt.ownAddress ≠ none) ∧
    (let s := wTrip .IDLE []
     s.trip.state = .IDLE ∧ invalidTables s.active s.mgmt.ownAddress = none ∧ s.pos.standstill = false) ∧
    (let s := wStand .IDLE []
     invalidTables s.active s.mgmt.ownAddress = none ∧ s.pos.standstill = true ∧ anyLatch s.brake = true) ∧
    (let s := wEnter false
     invalidTables s.active s.mgmt.ownAddress = none ∧ s.pos.standstill = true ∧ anyLatch s.brake = false ∧
      (s.pos.cars.get .car1).referenced = false) ∧
    (let s := wEnter true
     s.trip.state = .IDLE ∧ invalidTables s.active s.mgmt.ownAddress = none ∧ s.pos.standstill = true ∧
      anyLatch s.brake = false ∧ (s.pos.cars.get .car1).referenced = true ∧ (s.pos.cars.get .car2).referenced = true) := by
  unfold acceptedFrom; decide +kernel

theorem wit_LeaveServiceGoesIdle :
    (acceptedFrom w hConsole (.lineRequest 1 .leaveService) (net.get 0) ∧ quiet w = true ∧ w.trip.state ≠ .PARKED ∧
      w.trip.state ≠ .HELD) ∧
    (∀ b ∈ [false, true],
      let s := { wTrip .PARKED [] with mgmt := { w.mgmt with commitA := ⟨b, .none⟩ } }
      acceptedFrom s hConsole (.lineRequest 1 .leaveService) (net.get 0) ∧ s.trip.state = .PARKED ∧
        s.mgmt.commitA.pending = b) := by unfold acceptedFrom; decide +kernel

theorem wit_UnknownRequestsAndStatusAreAnswered :
    (acceptedFrom w hConsole (.lineRequest 1 (.unknown 12)) (net.get 0) ∧ quiet w = true) ∧
    (w.power = .RUNNING ∧ w.trip.statusTimer ≠ none ∧ firstRole w.active.b .CONSOLE = some (net.get 0)) ∧
    (State.reset.trip.statusTimer ≠ none ∧ firstRole State.reset.active.b .CONSOLE = none) ∧
    ({ w with trip := { w.trip with statusTimer := none } } : State).trip.statusTimer = none := by
  unfold acceptedFrom; decide +kernel

/-- DEPARTING with the torque proof timer running. -/
def wProof (s : State) : State := { s with trip := { s.trip with state := .DEPARTING, torqueTimer := some 1 } }

theorem wit_DriveStateProvesTorque :
    acceptedFrom w hDrive (.driveState ⟨true, true⟩) (net.get 3) ∧ w.trip.state ≠ .DEPARTING ∧
    (acceptedFrom (wProof w) hDrive (.driveState ⟨false, true⟩) (net.get 3) ∧ (wProof w).trip.state = .DEPARTING) ∧
    (acceptedFrom (wProof w) hDrive (.driveState ⟨true, true⟩) (net.get 3) ∧ (wProof w).trip.torqueTimer ≠ none ∧
      allLocked (wProof w) = false ∧ anyLatch (wProof w).brake = true) ∧
    (let s := wProof (wGo .READY [])
     acceptedFrom s hDrive (.driveState ⟨true, true⟩) (net.get 3) ∧ s.trip.state = .DEPARTING ∧ s.trip.torqueTimer ≠ none ∧
      allLocked s = true ∧ anyLatch s.brake = false) := by unfold acceptedFrom; decide +kernel

theorem wit_DepartureTimersReturnToTheOrigin :
    (let s := { w with trip := { w.trip with state := .READY, readyTimer := some 1 } }
     s.power = .RUNNING ∧ s.trip.state = .READY ∧ s.trip.readyTimer ≠ none) ∧
    ((wProof w).power = .RUNNING ∧ (wProof w).trip.state = .DEPARTING ∧ (wProof w).trip.torqueTimer ≠ none) ∧
    (w.power = .RUNNING ∧ w.trip.state ≠ .READY ∧ w.trip.state ≠ .DEPARTING ∧ quiet w = true) := by decide +kernel
/-! ### Doors, sequencers and gates -/

/-- Car 1 with one door record in a state. -/
def wRecord (r : DoorRecord) : State := { w with doors := { w.doors with one := { w.doors.one with
  sides := { w.doors.one.sides with left := { w.doors.one.sides.left with doors := vset w.doors.one.sides.left.doors 0 r } } } } }
/-- A DOOR_STATE of car 1 with one report for every door. -/
def doorsAll (r : DoorReport) (t : Byte) : DoorStateP := ⟨.car1, .ANSWER, t, Vector.replicate 4 r, Vector.replicate 4 r⟩

theorem wit_DoorStateSetsTheRecords :
    (∀ r ∈ [DoorReport.LOCKED, .RELEASED, .OPEN, .FAULT], acceptedFrom wDoor hCar1 (.doorState (doorsAll r 3)) (net.get 7)) ∧
    (((wRecord ⟨.CLOSING, some 1⟩).doors.get .car1).sides.get .LEFT).doors.get 0 = ⟨.CLOSING, some 1⟩ ∧
    ((((w.doors.get .car1).sides.get .LEFT).doors.get 0).state ≠ .FAULT ∧
      (((w.doors.get .car1).sides.get .LEFT).doors.get 0).state ≠ .CLOSING) ∧
    ((doorsAll .LOCKED 3).mark = .ANSWER ∧ ((wDoor.doors.get .car1).sides.get .LEFT).outstanding = some ⟨3, none⟩ ∧
      (doorsAll .LOCKED 3).token = 3) := by unfold acceptedFrom; decide +kernel

/-- Car 1 berthed at halt 0, whose doors may be released on both sides, with one state for every door and one released set. -/
def wBerth (st : DoorState) (rel : Compartments) (o : Option Outstanding) (perm : Bool) : State :=
  let d : SideDoors := ⟨Vector.replicate 4 ⟨st, none⟩, rel, o⟩
  { wTrip .AT_STOP [] with
    trip := { (wTrip .AT_STOP []).trip with berth := ⟨some 0, none⟩ }
    doors := { w.doors with one := { w.doors.one with sides := ⟨d, d⟩ } }
    seqs := vset w.seqs 0 ⟨0, 4, if perm then 4 else 0, none, false, false, false, 0⟩ }

theorem wit_DoorStateSetsTheRecords_interlock :
    (∀ x ∈ [(true, 0xF#4), (false, 0x0#4)], let s := wBerth .LOCKED 0 none x.1
      permittedSet s .car1 .LEFT = x.2 ∧ firstRole s.active.b (carRole .car1) = some (net.get 7) ∧
        (s.doors.get .car1).queued = none) ∧
    (let d := (((wBerth .LOCKED 0 none true).doors.get .car1).sides.get .LEFT)
     d.outstanding = none ∧ (d.doors.get 3).state = .LOCKED ∧ d.released.getLsbD 3 = false) ∧
    (let d := (((wBerth .OPEN 0xF none false).doors.get .car1).sides.get .LEFT)
     d.outstanding = none ∧ (d.doors.get 0).state = .OPEN ∧ d.released.getLsbD 0 = true) ∧
    (((wBerth .RELEASED 0xF (some ⟨3, some 1⟩) false).doors.get .car1).sides.get .LEFT).outstanding = some ⟨3, some 1⟩ := by
  decide +kernel

theorem wit_DoorTimersFindFaults :
    (let s := { w with doors := { w.doors with one := { w.doors.one with
        sides := { w.doors.one.sides with left := { SideDoors.start with outstanding := some ⟨3, some 1⟩ } } } } }
     s.power = .RUNNING ∧ ((s.doors.get .car1).sides.get .LEFT).outstanding = some ⟨3, some 1⟩ ∧
      (s.doors.get .car1).queued = none ∧ firstRole s.active.b (carRole .car1) = some (net.get 7)) ∧
    ((wDoor.doors.get .car1).queued = some dOrder ∧ firstRole State.reset.active.b (carRole .car1) = none) ∧
    (w.power = .RUNNING ∧ ((w.doors.get .car1).sides.get .LEFT).outstanding = none ∧ quiet w = true) ∧
    (let r := (((wRecord ⟨.CLOSING, some 1⟩).doors.get .car1).sides.get .LEFT).doors.get 0
     r.state = .CLOSING ∧ r.closeTimer ≠ none) ∧
    (((w.doors.get .car1).sides.get .LEFT).doors.get 0).state ≠ .CLOSING := by decide +kernel

/-- A program of two states that exchange while DIN2 is accepted as closed, with a reset slot on its level or none. -/
def twoStates (reset : Byte) : Program := { Program.factory with
  stateCount := 2
  initial := 0
  outputs := #v[0x40, 0x8F, 0, 0, 0, 0, 0, 0]
  slots := vset (vset (Vector.replicate 24 ⟨0, 0, 0, 0⟩) 0 ⟨1, 17, 0, 2⟩) 3 ⟨1, 17, 0, 1⟩
  reset := ⟨reset, 17, 0⟩ }
/-- A record in state 1 of it. -/
def rec1 (n : Nat) (resetHeld cycling : Bool) : SeqRecord := ⟨1, 0x8F, 0x40, none, false, resetHeld, cycling, n⟩

/-- Slot 0 is the first true one in state 1; transitions 7 and 8 are the two sides of the ninth. -/
theorem wit_StationTimersMoveTheirRecords_pass :
    (let p := twoStates 0
     (∀ i : Fin 24, (yes (p.slots.get i).enabled = true ∧ (p.slots.get i).source.getLsbD 1 = true ∧
        (0x20000#32).getLsbD (min 31 (p.slots.get i).condition.toNat) ≠ yes (p.slots.get i).polarity) → i = 0) ∧
      (p.slots.get 0).source.getLsbD 1 = true ∧ (0x20000#32).getLsbD 17 ≠ yes (p.slots.get 0).polarity ∧
      (rec1 7 false false).transitions < 8 ∧ 8 ≤ (rec1 8 false false).transitions) ∧
    (yes (twoStates 1).reset.enabled = true ∧ (0x20000#32).getLsbD 17 ≠ yes (twoStates 1).reset.polarity ∧
      yes (twoStates 0).reset.enabled = false ∧ (rec1 0 true true).resetHeld = true ∧ (rec1 0 false true).cyclingHold = true ∧
      (rec1 0 false false).resetHeld = false ∧ (rec1 0 false false).cyclingHold = false) ∧
    ((0x40#8).getLsbD 6 ≠ (0x8F#8).getLsbD 6 ∧ (0x40#8).getLsbD 5 = (0x8F#8).getLsbD 5) := by decide +kernel

theorem wit_StationTimersMoveTheirRecords :
    (let s := { w with seqs := vset w.seqs 5 ⟨0, 0, 0, some 1, false, false, false, 0⟩ }
     s.power = .RUNNING ∧ s.agenda = [] ∧ (s.seqs.get 5).timer ≠ none) ∧ ((w.seqs.get 5).timer = none ∧ quiet w = true) ∧
    (let e : PulseEntry := ⟨1, 0, 2, 3, 0, 40⟩
     yes e.enabled = true ∧ refEventOf e = some (.berthed 3) ∧ refEventOf e ≠ some (.berthed 2) ∧ e.start = 0) ∧
    (∀ st ∈ [PulseState.IDLE, .WAITING, .ACTIVE],
      let s := { w with pulses := vset w.pulses 15 ⟨st, none⟩ }
      s.power = .RUNNING ∧ (s.pulses.get 15).state = st) := by decide +kernel

/-- An entry in use of gate 0. -/
def ventry (st : EntryState) (slot : SlotId) (n : Byte) : VEntry :=
  ⟨slot, st, 0, 0, 77, 1, n, some 9, none, none, none, some 1⟩
/-- The gate unit at halt 0: a window, the queue, gate 0 at fault or not, bank 1 with one entry for token 77 or not. -/
def wGate (win : Option Window) (q : List VEntry) (fault : Bool) (bank : List CacheEntry) : State := { wTrip .PARKED [] with
  gates := { GateUnit.start with
    records := vset GateUnit.start.records 0 ⟨true, fault, none⟩
    windows := vset GateUnit.start.windows 0 win
    queue := q
    bank0 := bank
    bank1 := bank } }
/-- An open window with a budget of one, or of none. -/
def room1 : Window := ⟨true, ⟨true, false⟩, 60, 26, 33, 0⟩
def room0 : Window := ⟨true, ⟨true, false⟩, 60, 26, 34, 0⟩
/-- A usable cache entry of token 77, class 1, with one ride left, valid for the present second, the last. -/
def cached : CacheEntry := ⟨77, 1, .ADMIT, some 1, some 1, none, false, false⟩
/-- Request 5 of gate 0 or of gate 1. -/
def ask : GateRequestP := ⟨5, 1, 77⟩
/-- All 16 entries in use, by a gate, in a state. -/
def full (g : GateId) (st : EntryState) : List VEntry := all16.map fun i => { ventry st i 4 with gate := g }

theorem wit_GateRequestsAreRefusedAdmittedOrAsked :
    (acceptedFrom w hGate0 (.gateRequest ask) (net.get 9) ∧ quiet w = true ∧ gatePresent w.active.a (nodeGate (net.get 9)) = false) ∧
    (let s := wTrip .PARKED []
     acceptedFrom s hGate1 (.gateRequest ask) (net.get 10) ∧ quiet s = true ∧ nodeGate (net.get 10) = 1 ∧
      gatePresent s.active.a 1 = true ∧ gateIsExit s.active.a 1 = true) ∧
    (∀ s ∈ [wGate none [ventry .ASKING 3 5] false [], wGate none [ventry .WAIT_PASS 3 4] true [],
        wGate none [] false [], wGate (some room0) [] false [], wGate (some room1) [] false [cached],
        wGate (some room1) [] false []],
      acceptedFrom s hGate0 (.gateRequest ask) (net.get 9) ∧ quiet s = true ∧ nodeGate (net.get 9) = 0 ∧
        gatePresent s.active.a 0 = true ∧ gateIsExit s.active.a 0 = false ∧ gateHalt s.active.a 0 = 0) ∧
    (windowBudget room0 = 0 ∧ windowBudget room1 = 1) ∧
    freeSlot (wGate (some room1) [] false []).gates = some 0 ∧
    (∀ s ∈ [wGate none [ventry .ASKING 3 4] false [], wGate none (full 0 .MERGED) false [],
        wGate (some room1) (full 2 .WAIT_PASS) false [], wGate (some room1) (full 0 .MERGED) false [],
        wGate (some room1) [{ ventry .ASKING 3 4 with gate := 2 }] false [],
        { wGate (some room1) [] false [] with gates := { (wGate (some room1) [] false []).gates with serverLost := true } }],
      acceptedFrom s hGate0 (.gateRequest ask) (net.get 9) ∧ quiet s = true ∧ (∀ v ∈ s.gates.queue, ¬ (v.gate = 0 ∧ v.number = ask.number))) ∧
    (freeSlot (wGate none [ventry .ASKING 3 4] false []).gates = some 0 ∧ (ventry .ASKING 3 4).state ≠ .WAIT_PASS ∧
      (∀ st ∈ [EntryState.WAIT_PASS, .MERGED], freeSlot (wGate none (full 0 st) false []).gates = none ∧ freeSlot (wGate none (full 2 st) false []).gates = none) ∧
      (∀ v ∈ full 2 .WAIT_PASS, ¬ (v.gate = 0 ∧ v.state ≠ .WAIT_PASS)) ∧ (∃ v ∈ full 0 .MERGED, v.gate = 0 ∧ v.state ≠ .WAIT_PASS)) ∧
    (cacheHit 1 w.localTime { cached with verdict := .REFUSE .SERVER 3 } = true ∧ cacheHit 1 w.localTime { cached with rides := some 0 } = true ∧
      cacheHit 2 w.localTime cached = false ∧ passback (wGate (some room1) [{ ventry .WAIT_PASS 3 4 with gate := 2, verdict := some .ADMIT }] false []) 0 77 none = true) ∧
    (let s := wGate (some room1) [] false [cached]
     cacheFind s.active.a s.gates 77 = some cached ∧ cacheHit (codeAt 15 ask.cls) s.localTime cached = true ∧
      cached.verdict = .ADMIT ∧ cached.rides ≠ some 0 ∧ passback s 0 77 cached.lastAdmitted = false) ∧
    (let s := wGate (some room1) [ventry .WAIT_PASS 3 4] false []
     cacheFind s.active.a s.gates 77 = none ∧ s.gates.serverLost = false ∧ freeSlot s.gates = some 0 ∧
      (∀ v ∈ s.gates.queue, v.slot ≠ 0 ∧ ¬ (v.state = .ASKING ∧ v.token = ask.token))) := by
  refine ⟨?_, ?_, ?_, ?_, ?_, ?_, ?_, ?_, ?_, ?_⟩ <;> first | decide +kernel | (unfold acceptedFrom; decide +kernel)

/-- A FARE_ANSWER for query 9 and token 77. -/
def fare (v : FareVerdict) : FareAnswerP := ⟨9, 77, 1, v, 0, 0xFFFF, 10⟩

theorem wit_FareAnswersAndDeadlinesDecide :
    (let m := { ventry .MERGED 4 6 with mergedTo := some 3, query := none, deadline := none }
     let s := wGate (some room1) [ventry .ASKING 3 5, m] false []
     slotsDistinct s = true ∧ acceptedFrom s hFare (.fareAnswer (fare .ADMIT)) (net.get 2) ∧ s.gates.queue = [ventry .ASKING 3 5, m] ∧
      m.state = .MERGED ∧ m.mergedTo = some 3 ∧ m.token = (fare .ADMIT).token ∧
      budgetVerdict s 0 .ADMIT = .ADMIT ∧ s.power = .RUNNING ∧ entryAt s.gates 3 = some (ventry .ASKING 3 5)) ∧
    (∀ v ∈ [FareVerdict.ADMIT, .REFUSE], acceptedFrom w hFare (.fareAnswer (fare v)) (net.get 2)) ∧ w.gates.queue = [] ∧
    (let s := wGate (some room1) [ventry .ASKING 3 5] false []
     acceptedFrom s hFare (.fareAnswer (fare .ADMIT)) (net.get 2) ∧ s.gates.queue = [ventry .ASKING 3 5] ∧
      (ventry .ASKING 3 5).state = .ASKING ∧ (ventry .ASKING 3 5).query = some (fare .ADMIT).query ∧
      (ventry .ASKING 3 5).token = (fare .ADMIT).token ∧
      s.power = .RUNNING ∧ entryAt s.gates 3 = some (ventry .ASKING 3 5) ∧ (ventry .ASKING 3 5).deadline ≠ none) ∧
    (let g := (wGate (some room1) [ventry .ASKING 3 5] false []).gates
     min 3 ({ g with timeouts := 2 }.timeouts + 1) = 3 ∧ g.serverLost = false) ∧
    (entryAt w.gates 3 = none ∧ quiet w = true) := by unfold acceptedFrom; decide +kernel

theorem wit_PassagesEndReservations :
    (acceptedFrom w hGate0 (.gatePassage ⟨5, .passed⟩) (net.get 9) ∧ gatePresent w.active.a (nodeGate (net.get 9)) = false ∧
      quiet w = true) ∧
    (let s := wTrip .PARKED []
     acceptedFrom s hGate1 (.gatePassage ⟨5, .passed⟩) (net.get 10) ∧ gateIsExit s.active.a (nodeGate (net.get 10)) = true ∧
      quiet s = true ∧ acceptedFrom s hGate0 (.gatePassage ⟨5, .expired⟩) (net.get 9) ∧
      acceptedFrom s hGate0 (.gatePassage ⟨5, .passed⟩) (net.get 9) ∧ s.gates.queue = [] ∧
      gatePresent s.active.a (nodeGate (net.get 9)) = true ∧ gateIsExit s.active.a (nodeGate (net.get 9)) = false) ∧
    (let s := wGate (some room1) [ventry .WAIT_PASS 3 5] false []
     (∀ o ∈ [Passage.passed, .expired], acceptedFrom s hGate0 (.gatePassage ⟨5, o⟩) (net.get 9)) ∧
      s.gates.queue.find? (fun v => (v.gate == 0) && (v.state == .WAIT_PASS) && (v.number == 5)) = some (ventry .WAIT_PASS 3 5) ∧
      s.power = .RUNNING ∧ entryAt s.gates 3 = some (ventry .WAIT_PASS 3 5) ∧ (ventry .WAIT_PASS 3 5).deadline ≠ none) ∧
    (0 < ({ room1 with reserved := 1 } : Window).reserved ∧ ¬ 0 < room1.reserved) ∧
    (∀ c ∈ [cached, { cached with stale := true }],
      let s := wGate (some room1) [{ ventry .WAIT_PASS 3 5 with decidedBy := some .LOCAL }] false [c]
      acceptedFrom s hGate0 (.gatePassage ⟨5, .passed⟩) (net.get 9) ∧ cacheFind s.active.a s.gates 77 = some c ∧
        firstRole s.active.b .FARE_SERVER = some (net.get 2) ∧ (s.ports.get (nodeSide (net.get 2))).normal.length < 32) ∧
    entryAt w.gates 3 = none := by unfold acceptedFrom; decide +kernel

/-- Halts 0 and 1 each with a window, the cars berthed at 0 and 2; halt 2 has none; an asker at halt 0 with a merged entry at halt 1. -/
def wBoard : State :=
  let m (i : SlotId) : VEntry := { ventry .MERGED i 6 with gate := 3, halt := 1, query := none, mergedTo := some 3, deadline := none }
  let s := wGate (some room1) [ventry .ASKING 3 5, m 4, m 5] false []
  { s with
    trip := { s.trip with berth := ⟨some 0, some 2⟩ }
    gates := { s.gates with windows := vset s.gates.windows 1 (some room0) } }

theorem wit_BoardingWindowsOpenAndClose :
    (wBoard.gates.windows.get 0 = some room1 ∧ wBoard.gates.windows.get 2 = none ∧ 0 < wBoard.active.a.fare.personMass.toNat ∧
      wBoard.trip.berth.get .car1 = some 0 ∧ wBoard.trip.berth.get .car2 = some 2 ∧ (∀ k ∈ [CarId.car1, .car2], wBoard.trip.berth.get k ≠ some 1)) ∧
    ((wBoard.gates.records.get 0).heard = true ∧ (wBoard.gates.records.get 1).heard = false) ∧
    ((2#6).getLsbD 1 = true ∧ (1#6).getLsbD 0 = true ∧ (wBerth .LOCKED 0 none false).trip.berth.get .car1 = some 0 ∧
      ({ wBoard with seqs := Vector.replicate 6 ⟨0, 1, 1, none, false, false, false, 0⟩ } : State).seqs.get 2 =
        ⟨0, 1, 1, none, false, false, false, 0⟩) ∧
    (slotsDistinct wBoard = true ∧ (ventry .ASKING 3 5).state = .ASKING ∧
      wBoard.gates.queue.map (fun v => decide (v.state = .MERGED ∧ v.mergedTo = some 3 ∧ v.halt = 1)) = [false, true, true]) := by
  decide +kernel

/-- R156: a close-out at halt 0 asks on for the merged entry at halt 1. -/
theorem test_a_close_out_passes_its_query_on :
    ((closeOut (fun x => x == 0) wBoard).gates.queue.map fun v => (v.slot, v.state, v.query, v.mergedTo)) =
      [(4, .ASKING, some 9, none), (5, .MERGED, none, some 4)] := by decide +kernel

/-! ### Management and power -/

/-- A read and a write of a segment of one record. -/
def rd (bank item index seg : Byte) : MgmtReadP := ⟨1, bank, item, index, seg, false⟩
def wr (bank item index seg : Byte) : MgmtWriteP := ⟨1, bank, item, index, seg, Vector.replicate 24 0⟩
/-- With lock flags. -/
def wLocks (l : Locks) : State := { w with mgmt := { w.mgmt with locks := l } }

/-- Record (3, 3, 0) is one segment long: segment 0 is its last, segment 1 is past it. -/
theorem wit_RecordsAreReadAndWritten :
    (acceptedFrom w hConsole (.mgmtRead (rd 5 4 0 0)) (net.get 0) ∧ nodeRole (net.get 0) = .CONSOLE) ∧
    (acceptedFrom w hMaint (.mgmtRead (rd 6 0 0 0)) (net.get 1) ∧ readBytes (heardOn .C w) 6 0 0 false = none) ∧
    (∀ l ∈ [(⟨false, false, false⟩ : Locks), ⟨true, false, false⟩, ⟨false, true, false⟩],
      let s := wLocks l
      acceptedFrom s hMaint (.mgmtRead (rd 3 3 0 0)) (net.get 1) ∧ quiet s = true ∧ (readBytes (heardOn .C s) 3 3 0 false).isSome ∧
        (readBytes (heardOn .C s) 3 3 0 false).map segmentCount = some 1 ∧ s.mgmt.locks.read = l.read ∧
        acceptedFrom s hMaint (.mgmtWrite (wr 3 3 0 0)) (net.get 1) ∧ (writableBytes s 3 3 0).map segmentCount = some 1 ∧
        s.mgmt.locks.write = l.write ∧ s.mgmt.locks.writeAll = false ∧ s.mgmt.commitA.pending = false) ∧
    (acceptedFrom w hMaint (.mgmtRead (rd 5 1 0 0)) (net.get 1) ∧ (readBytes (heardOn .C w) 5 1 0 false).isSome) ∧
    (acceptedFrom wLocked hMaint (.mgmtWrite (wr 3 3 0 0)) (net.get 1) ∧ quiet wLocked = true ∧ wLocked.mgmt.locks.writeAll = true) ∧
    (acceptedFrom w hConsole (.mgmtWrite (wr 5 1 0 0)) (net.get 0) ∧ acceptedFrom w hMaint (.mgmtWrite (wr 4 0 0 0)) (net.get 1) ∧
      writableBytes w 4 0 0 = none) ∧
    (acceptedFrom w hMaint (.mgmtWrite (wr 5 1 0 0)) (net.get 1) ∧ (writableBytes w 5 1 0).map segmentCount = some 1 ∧
      acceptedFrom w hMaint (.mgmtWrite (wr 5 4 0 0)) (net.get 1) ∧ (writableBytes w 5 4 0).map segmentCount = some 1) ∧
    (let s := { w with mgmt := { w.mgmt with commitA := ⟨true, .none⟩ } }
     acceptedFrom s hMaint (.mgmtWrite (wr 2 1 0 0)) (net.get 1) ∧ quiet s = true ∧ (writableBytes s 2 1 0).map segmentCount = some 1 ∧
      s.mgmt.locks.write = false ∧ s.mgmt.commitA.pending = true) := by
  refine ⟨?_, ?_, ?_, ?_, ?_, ?_, ?_, ?_⟩ <;> first | decide +kernel | (unfold acceptedFrom; decide +kernel)

/-- The line with a staged generation of its own, in a trip state. -/
def wStaged (st : TripState) (t : Tables) : State := { wTrip st [] with staged := t }

theorem wit_CommitAppliesTheStagedGroup :
    (acceptedFrom wLocked hMaint (.mgmtControl 1 0 0) (net.get 1) ∧ quiet wLocked = true ∧ wLocked.mgmt.locks.writeAll = true) ∧
    (acceptedFrom w hMaint (.mgmtControl 1 0 2) (net.get 1) ∧ quiet w = true) ∧
    (let s := { w with mgmt := { w.mgmt with commitA := ⟨true, .none⟩ } }
     acceptedFrom s hMaint (.mgmtControl 1 0 0) (net.get 1) ∧ quiet s = true ∧ s.mgmt.commitA.pending = true) ∧
    (let bad : GroupA := { lineA with capacity := #v[0, 0], notify := 0xFF000000 }
     let s := wStaged .IDLE ⟨bad, State.reset.active.b⟩
     acceptedFrom s hMaint (.mgmtControl 1 0 0) (net.get 1) ∧ s.mgmt.commitA.pending = false ∧ (invalidA bad s.active.b).isSome ∧
      acceptedFrom s hMaint (.mgmtControl 1 0 1) (net.get 1) ∧ (invalidB s.staged.b s.active.a s.mgmt.ownAddress).isSome) ∧
    (∀ st ∈ [TripState.PARKED, .IDLE],
      let s := wStaged st ⟨lineA, lineB⟩
      acceptedFrom s hMaint (.mgmtControl 1 0 0) (net.get 1) ∧ acceptedFrom s hMaint (.mgmtControl 1 0 1) (net.get 1) ∧
        quiet s = true ∧ s.mgmt.locks.writeAll = false ∧ s.trip.state = st ∧ invalidA s.staged.a s.active.b = none ∧
        invalidB s.staged.b s.active.a s.mgmt.ownAddress = none) := by unfold acceptedFrom; decide +kernel

theorem wit_AbandonRestoresTheStagedGroup :
    (acceptedFrom wLocked hMaint (.mgmtControl 1 1 0) (net.get 1) ∧ quiet wLocked = true ∧ wLocked.mgmt.locks.writeAll = true) ∧
    (∀ a ∈ [0#8, 1#8, 2#8], acceptedFrom w hMaint (.mgmtControl 1 1 a) (net.get 1)) ∧ quiet w = true ∧
    w.mgmt.locks.writeAll = false := by unfold acceptedFrom; decide +kernel

theorem wit_OperationsHaveOneEffectEach :
    (∀ op ∈ [4#8, 6#8, 7#8, 9#8, 10#8], acceptedFrom wLocked hMaint (.mgmtControl 1 op 0) (net.get 1) ∧
      acceptedFrom w hMaint (.mgmtControl 1 op 0) (net.get 1)) ∧ quiet wLocked = true ∧ quiet w = true ∧
    wLocked.mgmt.locks.writeAll = true ∧ w.mgmt.locks.writeAll = false ∧ nodeRole (net.get 1) ≠ .CONSOLE ∧
    (∀ a ∈ [0#8, 1#8, 2#8], acceptedFrom w hMaint (.mgmtControl 1 4 a) (net.get 1)) ∧
    ((w.ports.get .C).link = .UP ∧ sourceEntry w hMaint 0x12 = some (net.get 1) ∧ 3 ≤ (3#8).toNat ∧ w.power = .RUNNING ∧ w.agenda = []) ∧
    (acceptedFrom w hConsole (.mgmtControl 1 4 0) (net.get 0) ∧ nodeRole (net.get 0) = .CONSOLE) ∧
    (acceptedFrom w hMaint (.mgmtControl 1 9 16) (net.get 1) ∧ 16 ≤ (16#8).toNat) ∧
    (acceptedFrom w hMaint (.mgmtControl 1 9 15) (net.get 1) ∧ (15#8).toNat = (15 : GateId).val) := by
  refine ⟨?_, ?_, ?_, ?_, ?_, ?_, ?_, ?_, ?_, ?_, ?_⟩ <;> first | decide +kernel | (unfold acceptedFrom; decide +kernel)

theorem wit_NextNoticeTakesTheHighestPriority :
    (acceptedFrom w hConsole (.mgmtControl 1 5 0) (net.get 0) ∧ quiet w = true ∧ (w.mgmt.notices.get 1).pending = true ∧
      (∀ j, j < (1 : Fin 24) → (w.mgmt.notices.get j).pending = false)) ∧
    (let s := { w with mgmt := { w.mgmt with notices := Vector.replicate 24 NoticeRecord.clear } }
     acceptedFrom s hConsole (.mgmtControl 1 5 0) (net.get 0) ∧ quiet s = true ∧ ∀ i, (s.mgmt.notices.get i).pending = false) := by
  unfold acceptedFrom; decide +kernel

/-- A store in flight, begun by the maintenance node. -/
def flight : StoreFlight := ⟨⟨w.active, ⟨false, false, false⟩, 0xF0⟩, 1, 0x02, .C⟩
def wFlight : State := { w with mgmt := { w.mgmt with flight := some flight } }

theorem wit_StoreAndReloadCarryTheTables :
    (∀ op ∈ [2#8, 3#8], acceptedFrom wLocked hMaint (.mgmtControl 1 op 0) (net.get 1) ∧
      acceptedFrom wFlight hMaint (.mgmtControl 1 op 0) (net.get 1) ∧ acceptedFrom w hMaint (.mgmtControl 1 op 0) (net.get 1) ∧
      acceptedFrom w hConsole (.mgmtControl 1 op 0) (net.get 0)) ∧
    (quiet wLocked = true ∧ quiet wFlight = true ∧ quiet w = true ∧ w.agenda = [] ∧ wLocked.agenda = []) ∧
    (wFlight.mgmt.flight = some flight ∧ w.mgmt.flight = none ∧ wFlight.power = .RUNNING) ∧
    (nodeRole (net.get 0) = .CONSOLE ∧ nodeRole (net.get 1) ≠ .CONSOLE ∧ w.pos.standstill = false) ∧
    (let s := { wStand .IDLE [] with brake := { w.brake with commanded := .HOLD } }
     acceptedFrom s hMaint (.mgmtControl 1 3 0) (net.get 1) ∧ s.trip.state = .IDLE ∧ s.pos.standstill = true ∧
      s.brake.commanded = .HOLD ∧ s.mgmt.flight = none ∧ s.mgmt.locks.writeAll = false ∧
      ({ s with trip := { s.trip with dir := .DOWN } } : State).trip.dir ≠ .UP) := by
  refine ⟨?_, ?_, ?_, ?_, ?_⟩ <;> first | decide +kernel | (unfold acceptedFrom; decide +kernel)

theorem wit_StartUpSetsEveryBlock :
    w.resetLow = false ∧ ({ w with resetLow := true } : State).resetLow = true ∧ w.mgmt.flight = none ∧ wFlight.mgmt.flight ≠ none ∧ w.power ≠ .HELD_IN_RESET ∧ w.power ≠ .OFF ∧
    (loadStore w.mgmt.store).2 ≠ .STORE ∧ ({ w with power := .HELD_IN_RESET } : State).power = .HELD_IN_RESET ∧
    ({ w with power := .OFF } : State).power = .OFF := by decide +kernel

/-! ### The whole part -/

/-- For StageStaysInForce, UrgentKeysStayDistinct, PlanStaysWellFormed, OnePassageAtATime and BoundedQueuesAndCounts: a state that meets
every invariant, from which the step changes the state. -/
theorem wit_InvariantsThatEveryStepKeeps :
    let s := { w with pending := [.rawLevelChange 0 .CLOSED] }
    stageInForce s = true ∧ urgentQueuesOk s = true ∧ planOk s = true ∧ slotsDistinct s = true ∧ onePassPerGate s = true ∧
      normalQueuesOk s = true ∧ noticeCountsOk s = true ∧ windowsWithinRoom s = true ∧
      windowsWithinRoom (wGate (some room0) [] false []) = true ∧ (got (step s)).map (fun t => decide (t = s)) = some false := by
  decide +kernel

theorem wit_GroupBChangesOnlyOutOfService :
    let s := wStaged .IDLE ⟨lineA, { lineB with pairSum := 1520001 }⟩
    (got (exec (.commit hMaint 1 1) s)).map (fun t => decide (t.active.b ≠ s.active.b)) = some true := by decide +kernel

theorem wit_LocksStaySet :
    let s := wLocks ⟨true, true, true⟩
    (got (exec (.setLock hMaint 1 0) s)).map (fun t => t.mgmt.locks) = some s.mgmt.locks ∧
      readPayload fUnknown.kind fUnknown.payload = some (.lineRequest 0 .dispatch) := by decide +kernel

theorem wit_RecordsReadBackAsWritten :
    (tableBytes ⟨lineA, lineB⟩ 3 3 0).isSome ∧ (tableBytes ⟨lineA, lineB⟩ 0 0 5).isSome ∧ (tableBytes ⟨lineA, lineB⟩ 0 5 47).isSome ∧
    (([.demand ⟨0, 0, .UP, 0⟩, .brakeOrder 1 .HOLD, .doorOrder .car1 dOrder, .gateSetMode true, .gateAdmitOne 0, .gateRefuse 0 .FULL 0,
      .fareQuery 0 0 0 0 0, .fareUse 0 0 0 0 0 .LOCAL, .lineAnswer 0 0 .ACCEPTED, .lineStatus (statusBytes w), .notice .SLIP 0 0,
      .mgmtAnswer 0 0x10 .OK (detail []), .driveState ⟨true, true⟩, .brakeState ⟨1, .HOLD⟩] : List Content).map
        fun c => (sentFrame ⟨0x01, 0xF0, none, c⟩).length) = [5, 2, 6, 5, 5, 5, 13, 16, 4, 32, 6, 32, 2, 2] := by decide +kernel
/-! ## Well-formedness -/

theorem test_a_wrong_check_is_ill_formed : ({ fTransit with check := 0 } |> Instr.transitFrame .C).wellFormed = false := by decide +kernel
theorem test_a_wrong_length_is_ill_formed :
    (Instr.unacceptedFrame .C (let f : RawFrame := ⟨1, 2, 8, 3, [0], 0⟩; { f with check := crc16 (rawCovered f) })).wellFormed = false := by
  decide +kernel
theorem test_a_long_frame_is_ill_formed :
    (Instr.frameWhileSyncing .C (frameOf 0xF0 0x01 0x80 (List.replicate 33 0))).wellFormed = false := by decide +kernel
theorem test_kind_7F_is_no_transit_kind : (Instr.transitFrame .C (frameOf 0x41 0x40 0x7F [])).wellFormed = false := by decide +kernel
theorem test_request_11_is_no_unknown_request : (Instr.unknownRequest hConsole 1 11).wellFormed = false := by decide +kernel
theorem test_operation_9_is_no_unknown_operation : (Instr.unknownMgmtOperation hMaint 1 9 0).wellFormed = false := by decide +kernel
theorem test_well_formed_terms :
    ((Instr.transitFrame .C fTransit).wellFormed && (Instr.unacceptedFrame .C fUnknown).wellFormed &&
      (Instr.unknownRequest hConsole 1 12).wellFormed && (Instr.unknownMgmtOperation hMaint 1 10 0).wellFormed &&
      Instr.powerOn.wellFormed) = true := by decide +kernel

theorem test_no_word_spells_a_command : decodeTableWord 8 0 = none ∧ decodeTableWord 0 0 = none := by decide

/-! ## Worked examples of the manual -/

/-- R188: a power-on of a part with nothing valid in its store gives the state after reset. -/
theorem test_powerOn_gives_reset : got (exec .powerOn State.reset) = some State.reset := by decide +kernel

/-- The published check values of the two polynomials of R190 and R194, over the characters 1 to 9. -/
theorem test_check_values :
    crc16 [0x31, 0x32, 0x33, 0x34, 0x35, 0x36, 0x37, 0x38, 0x39] = 0x29B1 ∧
    crc32 [0x31, 0x32, 0x33, 0x34, 0x35, 0x36, 0x37, 0x38, 0x39] = 0xCBF43926 := by decide +kernel

/-- Chapter 1, one channel's window. -/
def win (v : List SampleEntry) : State :=
  { wTrip .IDLE [] with pos := { w.pos with chan := { w.pos.chan with a := { ChannelState.start with window := v } } } }
def fromA (s : State) (count : BitVec 32) (stamp : BitVec 16) : Option (List SampleEntry × Travel × Int × Nat × Nat) :=
  (got (exec (.sample hSheaveA ⟨.A, count, stamp, .NORMAL⟩) s)).map fun t =>
    (t.pos.chan.a.window, t.pos.ropeTravel, t.pos.measured, t.pos.chan.a.duplicates, t.pos.chan.a.gaps)
theorem test_window_arrival_2 : fromA (win [⟨50000, 1000⟩]) 50320 1100 = some ([⟨50000, 1000⟩, ⟨50320, 1100⟩], 0, 8000, 0, 0) := by
  decide +kernel
theorem test_window_arrival_4 : fromA (win [⟨50320, 1100⟩, ⟨50640, 1200⟩]) 50640 1200 =
    some ([⟨50320, 1100⟩, ⟨50640, 1200⟩], 0, 0, 1, 0) := by decide +kernel
theorem test_window_arrival_6 :
    fromA (win [⟨50000, 1000⟩, ⟨50320, 1100⟩, ⟨50640, 1200⟩, ⟨50960, 1300⟩]) 51290 1400 =
      some ([⟨50320, 1100⟩, ⟨50640, 1200⟩, ⟨50960, 1300⟩, ⟨51290, 1400⟩], 82500, 8083, 0, 0) := by decide +kernel
theorem test_window_arrival_7 : fromA (win [⟨50960, 1300⟩, ⟨51290, 1400⟩]) 51900 3500 = some ([⟨51900, 3500⟩], 0, 0, 0, 1) := by
  decide +kernel

/-- Chapter 1, referencing and correction: car 1 reports a marker, with both accumulators in µm as given. -/
def marker (r : Bool) (a1 a2 : Int) (id : Byte) (k : MarkerKind) : Option (Int × Int × Bool × Bool × Option Cause) :=
  let car (a : Int) : CarRecord := { CarRecord.start with accumulator := BitVec.ofInt 48 a, referenced := r }
  let s := { wTrip .IDLE [] with
    pos := { w.pos with cars := ⟨car a1, car a2⟩ }
    brake := { w.brake with active := [], latchE := none } }
  (got (exec (.carReport hCar1 ⟨.car1, 0, id, k, 0xFFFF, .READY⟩) s)).map fun t =>
    (t.pos.cars.one.accumulator.toInt, t.pos.cars.two.accumulator.toInt, t.pos.cars.one.referenced, t.pos.cars.two.referenced,
      t.brake.latchE)
theorem test_marker_references : marker false 0 0 3 .STANDING = some (20000000, 1500000000, true, true, none) := by decide +kernel
theorem test_marker_corrects : marker true 742380400 777739600 12 .PASSED = some (742000000, 777739600, true, true, none) := by
  decide +kernel
theorem test_marker_beyond_the_limit :
    marker true 400700000 1119419600 20 .PASSED = some (400700000, 1119419600, false, true, some .POSITION) := by decide +kernel

/-- Chapter 2: the six segments, a running trip UP to the termini at a position of car 1, both cars referenced. -/
def six : Vector EnvelopeEntry 32 := Vector.ofFn fun i : Fin 32 =>
  match i.val with
  | 0 => ⟨1, 0, 3000⟩
  | 1 => ⟨1, 40000, 8000⟩
  | 2 => ⟨1, 420000, 10000⟩
  | 3 => ⟨1, 700000, 7000⟩
  | 4 => ⟨1, 820000, 10000⟩
  | 5 => ⟨1, 1460000, 3000⟩
  | _ => ⟨0, 0, 0⟩
def run (st : TripState) (p1 : Int) (v : Int) : State := { wTrip st [terminiStop .UP] with
  active := ⟨lineA, { lineB with envelope := six }⟩
  brake := { Supervisor.start 41 with commanded := .RELEASED, wantsRelease := true }
  doors := (wGo st []).doors
  speed := { w.speed with vPerm := 8000 }
  dins := vset w.dins 0 ⟨.CLOSED, some .CLOSED, none⟩
  trip := { (wTrip st [terminiStop .UP]).trip with lineCap := 9000 }
  pos := { w.pos with measured := v, cars := ⟨carAt p1 true, carAt (1520000 - p1) true⟩ } }
def record (p1 : Int) : Nat × Nat × Option Int × Option Nat × Option Nat × LimitTerm :=
  let t := recompute true (run .RUNNING p1 0)
  (t.speed.vPerm, permittedCode t, t.speed.targetDistance, t.speed.rawCurve, t.speed.curve, t.speed.limiting)
/-- In RUNNING the head stop gives 1 480 000 mm for both cars; before the first segment and at a segment's start are its boundaries. -/
theorem wit_PermittedCodeStandsForThePermittedSpeed :
    (w.trip.state ≠ .RUNNING ∧ w.trip.state ≠ .STOPPING) ∧
    (let s := { run .RUNNING 20000 0 with trip := { (run .RUNNING 20000 0).trip with mode := .CREEP } }
     s.trip.state = .RUNNING ∧ s.trip.mode ≠ .NORMAL ∧
      ({ s with pos := w.pos } : State).pos.cars.one.referenced = false) ∧
    (let s := run .RUNNING 20000 0
     s.trip.mode = .NORMAL ∧ (s.pos.cars.get .car1).referenced = true ∧ s.trip.plan.head? = some (terminiStop .UP) ∧
      stopDistance s (terminiStop .UP) = some 1480000 ∧ ({ s with trip := { s.trip with plan := [] } } : State).trip.plan = []) ∧
    (let s := run .STOPPING 20000 0
     s.trip.state = .STOPPING ∧ s.trip.virtualStop = none ∧
      ({ s with trip := { s.trip with virtualStop := some 5 } } : State).trip.virtualStop = some 5) ∧
    (let b := (run .RUNNING 0 0).active.b
     (⟨1, 40000, 8000⟩ : EnvelopeEntry) ∈ segments b ∧ (segments b).Pairwise (fun x y => x.start.toNat < y.start.toNat) ∧
      (∀ x ∈ segments b, (x.start.toNat : Int) ≤ 40000 → x.start.toNat ≤ 40000) ∧
      (∀ x ∈ segments b, (-1 : Int) < x.start.toNat) ∧ (segments b).head? = some ⟨1, 0, 3000⟩) := by decide +kernel

/-- RUNNING with the first stop of the plan reached at standstill; the cars at the termini, or car 1 between halts. -/
def atStop (plan : List Stop) (p1 : Int) : State := { run .RUNNING p1 0 with
  trip := { (run .RUNNING p1 0).trip with plan := plan }, pos := { (run .RUNNING p1 0).pos with standstill := true } }

/-- A stop point 150 mm away, halt 0's window, is reached; one 151 mm away is not. -/
theorem wit_TripsRunArriveAndRecover :
    ((∀ o ∈ [some Origin.PARKED, some .HELD], (∀ b ∈ [false, true],
      let s := { wGo .DEPARTING [] with trip := { (wGo .DEPARTING []).trip with origin := o }, mgmt := { w.mgmt with commitA := ⟨b, .none⟩ } }
      s.trip.state = .DEPARTING ∧ s.trip.origin = o ∧ s.mgmt.commitA.pending = b ∧ ∀ v ∈ s.gates.queue, v.state ≠ .WAIT_PASS)) ∧
      w.trip.state ≠ .DEPARTING) ∧
    (∀ d ∈ [(150 : Int), -150], let s := atStop [⟨⟨.car1, 0, .CAR⟩, none⟩] (20000 + d)
      s.trip.state = .RUNNING ∧ s.pos.standstill = true ∧ (s.pos.cars.get .car1).referenced = true ∧
        ((stopPoint s.active.b 0 - (s.pos.cars.get .car1).accumulator.toInt / 1000).natAbs : Int) ≤ platformWindow s.active.b 0) ∧
    ¬ ((20000 - 20151 : Int).natAbs : Int) ≤ platformWindow lineB 0 ∧
    (let s := atStop [terminiStop .UP] 1500000
     s.trip.plan = terminiStop .UP :: [] ∧ (testArrival s).trip.state = .PARKED ∧ (testArrival s).trip.dir = .DOWN) ∧
    (∀ p ∈ [(20000 : Int), 500000], let s := { atStop [] p with trip := { (atStop [] p).trip with state := .TRIPPED } }
     1 ≤ stageRank .EMERGENCY ∧ s.trip.state = .TRIPPED ∧ s.trip.plan = [] ∧
      (withinWindow s.active.b 0 p = true ↔ p = 20000) ∧ (∀ k ∈ [CarId.car1, .car2], (s.pos.cars.get k).referenced = true)) := by decide +kernel

/-- A DEMAND held on port F. -/
def held (st : TripState) (code : BitVec 16) (dir : Dir) : State :=
  let s := run st 1234567 8000
  { s with ports := ⟨s.ports.c, { s.ports.f with urgent := [⟨0x10, 0x01, some .DRIVE, .demand ⟨code, 80, dir, 0⟩⟩] }⟩ }

/-- Codes 1601 and 1602 are the two sides of the limit for v_perm 8000. -/
theorem wit_ResultsAreComparedAndSent :
    (∀ s ∈ [run .RUNNING 1234567 25000],
     0 + s.params.warningMargin.toNat < s.pos.measured.natAbs ∧ s.brake.warning = false ∧
      0 + s.params.emergencyMargin.toNat < s.pos.measured.natAbs ∧ .OVERSPEED_EMERGENCY ∉ s.brake.active ∧
      s.params.designMax.toNat * 115 / 100 < s.pos.measured.natAbs ∧ .OVERSPEED_SERVICE ∉ s.brake.active) ∧
    ((queuedDemand (held .RUNNING 1601 .UP)).map (fun x => (x.2.code, x.2.dir)) = some (1601, .UP) ∧
      (queuedDemand (held .RUNNING 1602 .UP)).map (fun x => x.2.code) = some 1602) ∧
    ((queuedDemand (run .RUNNING 1234567 8000)).isNone ∧ (run .RUNNING 1234567 8000).filter.substitution = false) ∧
    (let s := { held .STOPPING 1601 .UP with filter := { w.filter with substitution := true } }
     s.filter.substitution = true ∧ firstRole s.active.b .DRIVE = some (net.get 3) ∧ s.trip.state = .STOPPING ∧ s.brake.latchS = none) ∧
    (Dir.UP = (held .RUNNING 1601 .UP).trip.dir ∧ Dir.DOWN ≠ (held .RUNNING 1601 .UP).trip.dir) := by decide +kernel

theorem test_record_on_the_line : record 1234567 = (8000, 0x641, some 265433, some 20596, some 20596, .ENVELOPE_2) := by decide +kernel
theorem test_record_near_the_station : record 1463000 = (3000, 0x259, some 37000, some 7662, some 7662, .ENVELOPE_1) := by decide +kernel
theorem test_record_past_the_halt : record 1500100 = (250, 0x033, some (-100), some 0, some 250, .CURVE) := by decide +kernel
theorem test_overrun_is_raised_past_the_limit :
    (recompute true (run .RUNNING 1500650 0)).speed.overrunRaised = false ∧
    (recompute true (run .RUNNING 1500651 0)).speed.overrunRaised = true := by decide +kernel
theorem test_virtual_stop : (virtualStopFor { run .RUNNING 1234567 8000 with
    pos := { (run .RUNNING 1234567 8000).pos with ropeTravel := 1214567000 } }).toInt = 1254867000 := by decide +kernel

/-- Chapter 3, demands during a run, with last forwarded and v_perm: what is forwarded and counted. -/
def demanded (v last : Nat) (code : BitVec 16) (accel : Byte) (dir : Dir) : Option (List Content × Option Nat × Nat × Nat) :=
  let s := { run .RUNNING 1234567 8000 with
    speed := { w.speed with vPerm := v }, filter := { w.filter with lastForwarded := some last } }
  (got (exec (.demand hDemand ⟨code, accel, dir, 0⟩) s)).map fun t =>
    (t.ports.f.urgent.map OutFrame.content, t.filter.lastForwarded, t.filter.clamps, t.filter.rewrites)
theorem test_demand_is_clamped : demanded 8000 0x641 0x6A5 80 .UP = some ([.demand ⟨0x641, 80, .UP, 2⟩], some 0x641, 1, 0) := by
  decide +kernel
theorem test_demand_holds : demanded 5656 0x641 0 150 .UP = some ([.demand ⟨0x46C, 100, .UP, 2⟩], some 0x46C, 1, 0) := by decide +kernel
theorem test_demand_is_rewritten : demanded 5656 1 0x3E9 80 .DOWN = some ([.demand ⟨0x001, 80, .UP, 2⟩], some 1, 1, 1) := by
  decide +kernel

/-- Chapter 4, overspeed during a run: one sample gives 8520 mm/s. -/
theorem test_overspeed_orders_SERVICE :
    (let s := run .RUNNING 1234567 8480
     let s := { s with pos := { s.pos with chan := { s.pos.chan with a := { ChannelState.start with window := [⟨50000, 1000⟩, ⟨53408, 2000⟩] } } } }
     (got (exec (.sample hSheaveA ⟨.A, 56816, 3000, .NORMAL⟩) s)).map fun t =>
      (t.pos.measured, t.brake.active, t.brake.latchS, t.brake.commanded, t.brake.outstanding)) =
    some (8520, [.OVERSPEED_SERVICE], some .OVERSPEED_SERVICE, .SERVICE, some ⟨42, .SERVICE, none⟩) := by decide +kernel
theorem test_overspeed_stops_the_trip :
    (let s := run .RUNNING 1234567 8480
     let s := { s with pos := { s.pos with chan := { s.pos.chan with a := { ChannelState.start with window := [⟨50000, 1000⟩, ⟨53408, 2000⟩] } } } }
     (got (exec (.sample hSheaveA ⟨.A, 56816, 3000, .NORMAL⟩) s)).map fun t =>
      (t.trip.state, (t.trip.virtualStop.getD 0 - t.pos.ropeTravel).toInt, t.speed.vPerm,
        (t.mgmt.notices.get (noticeIndex .SERVICE_STAGE)).pending)) = some (.STOPPING, 45669000, 8000, true) := by decide +kernel

/-- Chapter 5, calls during a run. -/
def callAt (plan : List Stop) (k : CarId) (h : Halt) (src : Source) : LineAnswer × Option (List (CarId × Halt)) :=
  let s := { run .RUNNING 300000 8000 with
    active := ⟨lineA, { lineB with halts := vset lineB.halts 5 ⟨1, 1200000, 150, 2, 0xF, 0⟩ }⟩
    seqs := Vector.replicate 6 ⟨0, 0, 0x10, none, false, false, false, 0⟩ }
  let o := callOutcome { s with trip := { s.trip with plan := plan } } k (some h) src
  (o.1, o.2.map planPairs)
def planA : List Stop := [⟨⟨.car1, 2, .CONSOLE⟩, none⟩, terminiStop .UP]
theorem test_call_too_late : callAt [terminiStop .UP] .car2 5 .CONSOLE = (.TOO_LATE, none) := by decide +kernel
theorem test_call_behind : callAt [terminiStop .UP] .car1 0 .CAR = (.REFUSED .HALT_NOT_AHEAD, none) := by decide +kernel
theorem test_call_inserted : callAt [terminiStop .UP] .car1 2 .CONSOLE =
    (.ACCEPTED, some [(.car1, 2), (.car1, 1), (.car2, 0)]) := by decide +kernel
theorem test_call_joins : callAt planA .car2 3 .CAR = (.ACCEPTED, some [(.car1, 2), (.car2, 3), (.car1, 1), (.car2, 0)]) := by
  decide +kernel
theorem test_call_in_front : callAt planA .car2 4 .PLATFORM = (.ACCEPTED, some [(.car2, 4), (.car1, 2), (.car1, 1), (.car2, 0)]) := by
  decide +kernel
theorem test_call_curves :
    [curveAt (run .RUNNING 0 0).params 20000, curveAt (run .RUNNING 0 0).params 360000, curveAt (run .RUNNING 0 0).params 120000] =
      [5614, 23989, 13839] := by decide +kernel

/-- Chapter 6, a lost answer: the window of order 24 expires, with LEFT 2, 3, 4 released. -/
theorem test_lost_door_answer :
    (let d : SideDoors := ⟨Vector.replicate 4 ⟨.LOCKED, none⟩, 0xE, some ⟨24, some 1⟩⟩
     let s := { wTrip .AT_STOP [terminiStop .UP] with doors := { w.doors with two := ⟨⟨d, { SideDoors.start with
        doors := Vector.replicate 4 ⟨.LOCKED, none⟩ }⟩, 24, true, false, none⟩ } }
     (got (exec (.doorAnswerWindowExpiry .car2 .LEFT) s)).map fun t =>
      (t.doors.two.sides.left.doors.toList.map DoorRecord.state, t.doors.two.sides.left.outstanding, t.doors.two.linkFault,
        t.doors.two.token, t.doors.two.queued)) =
    some ([.UNKNOWN, .UNKNOWN, .UNKNOWN, .UNKNOWN], none, true, 25, some ⟨25, 0, 0xE, 0, 0⟩) := by decide +kernel

/-- Chapter 7, a program that cycles: DIN2's closed level is accepted. -/
theorem test_a_cycling_program_is_held :
    (let p : Program := { Program.factory with
      stateCount := 2
      initial := 0
      outputs := #v[0x40, 0x80, 0, 0, 0, 0, 0, 0]
      slots := vset (vset (Vector.replicate 24 ⟨0, 0, 0, 0⟩) 0 ⟨1, 17, 0, 2⟩) 3 ⟨1, 17, 0, 1⟩
      reset := ⟨0, 0, 0⟩ }
     let s := { w with
      active := { w.active with a := { w.active.a with programs := vset w.active.a.programs 2 p } }
      dins := vset w.dins 2 ⟨.CLOSED, some .OPEN, some 1⟩ }
     (got (exec (.inputFilterExpiry 2) s)).map fun t =>
      ((t.seqs.get 2).state, (t.seqs.get 2).cyclingHold, (t.mgmt.notices.get (noticeIndex .SEQUENCER_CYCLING)).pending)) =
    some (0, true, true) := by decide +kernel

/-- R124, R125: the entry to a state makes STATE_TIMER_DONE fall, and the fall is announced; R129: a reset slot does not end a hold in a
later pass of its answer, and ends it in the next answer's first pass. -/
theorem test_a_fall_of_the_state_timer_is_announced :
    (let s := { w with
      active := { w.active with a := { w.active.a with programs := vset w.active.a.programs 2 (twoStates 0) } }
      seqs := vset w.seqs 2 ⟨1, 0x8F, 0x8F, none, true, false, false, 0⟩ }
     (seqPass tellTrip (Vector.replicate 6 0x20000#32) true 2 s).agenda.any fun a => match a with
      | .outside v _ => (v.get 2).getLsbD 6
      | _ => false) = true := by decide +kernel
theorem test_a_hold_lasts_for_its_answer :
    ((passRecord (twoStates 1) 0x20000#32 false (rec1 8 false true)).1 = rec1 8 false true) ∧
    (passRecord (twoStates 1) 0x20000#32 true (rec1 8 false true)).1.cyclingHold = false := by decide +kernel

/-- Chapter 8: car 2 with capacity 60 and 2040 kg leaves a budget of 34; with no load reported, none. -/
theorem test_window_budget : [windowBudget ⟨true, ⟨false, true⟩, 60, 26, 0, 0⟩, windowBudget ⟨true, ⟨false, true⟩, 60, 60, 0, 0⟩] = [34, 0] := by
  decide +kernel

/-- Chapter 8, the fare server falls silent: the deadline of query 9 with class 1, whose policy is OFFLINE_ADMIT. -/
def silent : State :=
  let s := wGate (some ⟨true, ⟨true, false⟩, 60, 20, 0, 0⟩) [ventry .ASKING 3 5] false []
  { s with active := { s.active with a := { s.active.a with classPolicy := vset (Vector.replicate 16 1) 1 0 } } }
theorem test_an_offline_decision : (got (exec (.fareDeadlineExpiry 3) silent)).map (fun t =>
    (t.gates.timeouts, t.gates.queue.map fun v =>
      (v.state == .WAIT_PASS) && (v.verdict == some .ADMIT) && (v.decidedBy == some .OFFLINE))) = some (1, [true]) := by decide +kernel

/-- Chapter 9, a bouncing emergency-stop loop: at 2 the raw level goes back to the filtered one, at 8 the filter time has passed. -/
def loop (d : DinRecord) : State := { run .HELD 20000 0 with dins := vset w.dins 0 d }
theorem test_loop_at_2 : (got (exec (.rawLevelChange 0 .CLOSED) (loop ⟨.OPEN, some .CLOSED, some 3⟩))).map (fun t =>
    (t.dins.get 0, t.brake.latchE)) = some (⟨.CLOSED, some .CLOSED, none⟩, none) := by decide +kernel
theorem test_loop_at_8 : (got (exec (.inputFilterExpiry 0) (loop ⟨.OPEN, some .CLOSED, some 0⟩))).map (fun t =>
    (t.dins.get 0, t.brake.active, t.brake.latchE)) = some (⟨.OPEN, some .OPEN, none⟩, [.ESTOP], some .ESTOP) := by decide +kernel

/-- Chapter 10, reading the notice set: the answer to NEXT_NOTICE at 1010 and what is left. -/
theorem test_next_notice :
    (let one (t : Nat) : NoticeRecord := ⟨true, 1, some t, some t⟩
     let v := vset (vset (vset (Vector.replicate 24 NoticeRecord.clear) (noticeIndex .EMERGENCY_STAGE) (one 1000))
      (noticeIndex .SAMPLE_LOSS) (one 1000)) (noticeIndex .PORT_DOWN) ⟨true, 2, some 1000, some 1004⟩
     (got (exec (.nextNotice hConsole 9 0) { w with mgmt := { w.mgmt with notices := v } })).map fun t =>
      (t.ports.c.normal.map OutFrame.content, (t.mgmt.notices.get (noticeIndex .EMERGENCY_STAGE)).pending)) =
    some ([.mgmtAnswer 9 0x12 .OK ([2, 1, 0, 0, 0x03, 0xE8, 0, 0, 0x03, 0xE8, 2] ++ List.replicate 18 0)], false) := by decide +kernel

/-- Chapter 11, a store cut short: power fails while a store is in flight, and the next start-up falls back to the factory tables. -/
theorem test_a_store_cut_short :
    (((got (exec .powerLoss wFlight)).bind fun t => got (exec .powerOn t)).map fun t => (t.active == Tables.factory, t.mgmt.loadedFrom)) =
    some (true, .CHECK_FAILED) := by decide +kernel

/-- R188: a part whose RESET pin is low is held at power-on, and the pin's release starts it up. -/
theorem test_a_low_reset_pin_holds :
    (let off := { w with power := .OFF, resetLow := true }
     ((got (exec .powerOn off)).map fun t => (t.power, t.sigDriven)) = some (.HELD_IN_RESET, false) ∧
      (((got (exec .powerOn off)).bind fun t => got (exec (.resetPin .released) t)).map State.power) = some .RUNNING) := by
  decide +kernel

/-- Chapter 12: the bytes of an order, of two answers and of a refusal that are sent, and of a set and a clear console flag. -/
theorem test_sent_payloads :
    ([.brakeOrder 42 .SERVICE, .lineAnswer 7 9 (.REFUSED .NOT_REFERENCED), .lineAnswer 7 0 .DEFERRED, .gateRefuse 3 .CLOSED 9] :
        List Content).map contentBytes = [[42, 2], [7, 9, 3, 6], [7, 0, 1, 0], [2, 0, 3, 2, 0]] ∧
    [true, false].map flagByte = [[0], [1]] := by decide +kernel

/-! ## Witnesses and worked values of the position unit, the overrun, the rollback monitor and auto-dispatch -/

/-- An accepted level of DIN0 that opens or closes the loop, and one of DIN1. -/
theorem wit_InputFilterFollowsTheRawLevel_changes :
    (let d := (loop ⟨.OPEN, some .CLOSED, some 0⟩).dins.get 0
     d.timer ≠ none ∧ d.filtered = some .CLOSED ∧ d.raw = .OPEN ∧ .ESTOP ∉ (loop d).brake.active) ∧
    (let d : DinRecord := ⟨.CLOSED, some .OPEN, some 0⟩; (loop d).power = .RUNNING ∧ ((loop d).dins.get 0).timer ≠ none) ∧
    (let s := { loop ⟨.CLOSED, some .CLOSED, none⟩ with dins := vset w.dins 1 ⟨.CLOSED, some .OPEN, some 0⟩ }
     s.power = .RUNNING ∧ (s.dins.get 1).timer ≠ none ∧ (s.dins.get 1).raw = .CLOSED ∧ (s.dins.get 1).filtered = some .OPEN) := by
  decide +kernel

/-- Chapter 1: both channels valid, A at 8000 mm/s and B, with its next sample, at the given counts each 100 units of 0.1 ms. -/
def both (step : Nat) (timer : Timer) : State :=
  let win (x : Nat) : List SampleEntry := [⟨50000, 1000⟩, ⟨50000 + BitVec.ofNat 32 x, 1100⟩]
  let s := run .RUNNING 300000 8000
  { s with pos := { s.pos with
      discrepancyTimer := timer
      cars := { s.pos.cars with one := { s.pos.cars.one with linkUp := true, speed := some 7700 } }
      chan := ⟨{ ChannelState.start with window := win 320 }, { ChannelState.start with window := [⟨0, 1000⟩, ⟨0 - BitVec.ofNat 32 step, 1100⟩] }⟩ } }
def sampleB (step : Nat) : Instr := .sample hSheaveB ⟨.B, 0 - BitVec.ofNat 32 (2 * step), 1200, .NORMAL⟩
/-- R19: 7875 mm/s of B lies within the tolerance of 260 mm/s and stops the timer; 7700 lies beyond it and starts one. -/
theorem test_discrepancy :
    (got (exec (sampleB 315) (both 315 (some 3)))).map (fun t => (t.pos.measured, t.pos.discrepancyTimer)) = some (8000, none) ∧
    (got (exec (sampleB 308) (both 308 none))).map (fun t => (t.pos.measured, t.pos.discrepancyTimer)) = some (8000, some 100) := by
  decide +kernel
/-- R20: a car at 7700 mm/s is 300 from 8000, within; at 7699 its slip timer starts. -/
theorem test_slip :
    ([7700, 7699].map fun (v : Nat) => (got (exec (.carReport hCar1 ⟨.car1, BitVec.ofNat 16 v, 0xFF, .PASSED, 0xFFFF, .READY⟩)
      (both 315 none))).map fun t => t.pos.cars.one.slipTimer) = [some none, some (some 200)] := by decide +kernel

theorem wit_DrivingSampleMovesTheRope_speeds :
    (let s := both 308 none
     acceptedFrom s hSheaveA (.sample ⟨.A, 50640, 1200, .NORMAL⟩) (net.get 5) ∧ drivingChannel s.pos = some .A ∧
       (∀ k ∈ [CarId.car1, .car2], (s.pos.cars.get k).referenced = true) ∧ (s.pos.cars.get .car1).linkUp = true ∧
       (s.pos.cars.get .car2).linkUp = false ∧ s.params.standstillSpeed.toNat < s.pos.measured.natAbs) ∧
    (let s := wRope [⟨1000, 50⟩, ⟨1000, 100⟩]
     acceptedFrom s hSheaveA (.sample ⟨.A, 1000, 150, .HEAD_FAULT⟩) (net.get 5) ∧
       2 ≤ (s.pos.chan.get .A).window.length ∧ s.pos.standstill = false ∧ s.pos.standstillTimer = none) := by
  unfold acceptedFrom; decide +kernel

/-- Both cars on the line, `error` µm from marker 12, the pair `off` µm from its sum, the last marker as given. -/
def near (error off : Int) (r1 r2 : Bool) (last : Option (Nat × MarkerKind)) : State :=
  let s := run .RUNNING 742000 0
  let car (a : Int) (r : Bool) : CarRecord := { CarRecord.start with accumulator := BitVec.ofInt 48 a, referenced := r }
  { s with pos := { s.pos with cars := ⟨{ car (742000000 - error) r1 with lastMarker := last }, car (778000000 + off) r2⟩ } }

/-- The correction limit is 500 mm and the pair tolerance 1000 mm: each is met and passed by 1 µm. -/
theorem wit_CarReportsSetRecordAndPosition_markers :
    (let s := near 0 0 true true none
     acceptedFrom s hCar1 (.carReport ⟨.car1, 0, 12, .PASSED, 0, .READY⟩) (net.get 7) ∧ markerPos s.active.b 12 = some 742000 ∧
       s.params.correctionLimit.toNat * 1000 = 500000 ∧ s.params.pairTolerance.toNat * 1000 = 1000000 ∧
       (s.active.b.pairSum.toNat : Int) * 1000 = 742000 * 1000 + (s.pos.cars.get .car2).accumulator.toInt) ∧
    (near 0 0 true true (some (12, .PASSED))).pos.cars.one.lastMarker = some (12, .PASSED) ∧
    (near 500000 0 true true none).pos.cars.one.accumulator.toInt = 742000 * 1000 - 500000 ∧
    (near 500001 0 true true none).pos.cars.one.accumulator.toInt = 742000 * 1000 - 500001 ∧
    (near 0 0 false true none).pos.cars.one.referenced = false ∧ (near 0 0 false true none).pos.cars.two.referenced = true := by
  unfold acceptedFrom; decide +kernel
/-- A correction of 500 mm with a pair check that just holds, and that just fails. -/
theorem test_pair_check :
    ([1000000, 1000001].map fun (off : Int) => (got (exec (.carReport hCar1 ⟨.car1, 0, 12, .PASSED, 0, .READY⟩)
        (near 500000 off true true none))).map fun t =>
      (t.pos.cars.one.accumulator.toInt, t.pos.cars.one.referenced, t.pos.cars.two.referenced, t.brake.latchE)) =
    [some (742000000, true, true, none), some (742000000, false, false, some .POSITION)] := by decide +kernel
/-- A passing that was seen before is ignored. -/
theorem test_a_passing_counts_once :
    (got (exec (.carReport hCar1 ⟨.car1, 0, 12, .PASSED, 0, .READY⟩) (near 7 0 true true (some (12, .PASSED))))).map
      (fun t => t.pos.cars.one.accumulator.toInt) = some 741999993 := by decide +kernel

/-- The overrun of the head stop with the field no and yes; head stops that change, join and enter RUNNING. -/
theorem wit_PermittedCodeStandsForThePermittedSpeed_overrun :
    (let s := run .RUNNING 1500651 0
     s.trip.state = .RUNNING ∧ s.speed.overrunRaised = false ∧ (s.trip.plan.head?.map stopPairs).map (List.map StopPair.halt) = some [1, 0] ∧
       s.trip.mode = .NORMAL ∧ (s.pos.cars.get .car1).referenced = true ∧
       stopPoint s.active.b 1 - 1500651 < -(platformWindow s.active.b 1 + (s.params.overrunAllowance.toNat : Int)) ∧
       (recompute true { s with speed := { s.speed with overrunRaised := true } }).brake = s.brake ∧
       (recompute true s).brake.latchE = some .OVERRUN) ∧
    (let a := run .HELD 20000 0
     (a.trip.plan ≠ [] ∧ a.trip.state ≠ .RUNNING) ∧ (run .RUNNING 20000 0).trip.state = .RUNNING ∧
       planA.head? ≠ a.trip.plan.head? ∧ planA ≠ []) := by decide +kernel

/-- A release with the base `back` µm ahead of the rope in the trip direction. -/
def released (back : Int) : State :=
  let s := run .RUNNING 300000 0
  { s with brake := { s.brake with rollback := some (s.pos.ropeTravel + BitVec.ofInt 48 back) } }
theorem wit_ResultsAreComparedAndSent_rollback :
    (∀ back ∈ [(-1 : Int), 0, 100000, 100001], let s := released back
      stageInForce s = true ∧ s.brake.commanded = .RELEASED ∧ s.brake.rollback = some (s.pos.ropeTravel + BitVec.ofInt 48 back) ∧
        s.pos.measured.natAbs ≤ 8000 ∧ s.trip.dir = .UP ∧ s.params.rollbackLimit.toNat * 1000 = 100000) ∧
    (let s := { released 0 with doors := w.doors, pos := { (released 0).pos with measured := 31 } }
     s.params.standstillSpeed.toNat < s.pos.measured.natAbs ∧ .DOORS_NOT_LOCKED ∉ s.brake.active ∧
       (((s.doors.get .car1).sides.get .LEFT).doors.get 0).state ≠ .LOCKED) ∧
    (let b : Supervisor := { Supervisor.start 41 with latchE := none, active := [], commanded := .HOLD, wantsRelease := true }
     demandedStage b = .RELEASED ∧ demandedStage { b with wantsRelease := false, latchS := some .CHANNEL_DISCREPANCY } = .SERVICE) := by
  decide +kernel
/-- R57: an advance moves the base; the limit is 100 mm. -/
theorem test_rollback :
    ([(-1 : Int), 100000, 100001].map fun back => let t := brakeCompare true 8000 (released back)
      (t.brake.rollback.map fun b => (b - (released back).pos.ropeTravel).toInt, t.brake.latchE)) =
    [(some 0, none), (some 100000, none), (none, some .ROLLBACK)] := by decide +kernel

/-- Car 1 berthed at halt 0 and car 2 at halt 1, with DEPART_REQUEST at halt 0 and, or not, at halt 1. -/
def asked (st : TripState) (plan : List Stop) (second : Bool) : State :=
  let s := wGo st plan
  { s with
    trip := { s.trip with berth := ⟨some 0, some 1⟩ }
    seqs := vset (vset s.seqs 0 { s.seqs.get 0 with published := 8 }) 1 { s.seqs.get 1 with published := if second then 8 else 0 } }
theorem wit_DepartureRequestsLeadToReady_auto :
    (∀ st ∈ [TripState.PARKED, .AT_STOP], let s := asked st nine true
      s.trip.state = st ∧ s.trip.plan ≠ [] ∧ s.trip.hold = .NONE ∧ s.trip.mode = .NORMAL ∧ s.trip.berth.get .car1 = some 0 ∧
        (s.seqs.get 0).published.getLsbD 3 = true ∧ (s.seqs.get 1).published.getLsbD 3 = true) ∧
    ((asked .PARKED [] false).seqs.get 1).published.getLsbD 3 = false ∧ (8#8 : Byte).getLsbD 0 = false ∧ (8#8 : Byte).getLsbD 3 = true := by
  decide +kernel
/-- R85: a departure without request, and none while one berthed halt does not ask. -/
theorem test_auto_dispatch :
    [(testAuto (asked .PARKED [] true)).trip.state, (testAuto (asked .PARKED [] false)).trip.state,
      (testAuto (asked .AT_STOP [] true)).trip.state] = [.DEPARTING, .PARKED, .AT_STOP] := by decide +kernel

/-- R91: car 1 at halt 0 sets UP, at halt 1 DOWN; elsewhere the line is held and the direction stays. -/
theorem test_entering_service_sets_the_direction :
    ([((20000 : Int), (1500000 : Int)), (1500000, 20000), (660000, 860000)].map fun (a, b) =>
      let s := { wEnter true with trip := { w.trip with dir := .DOWN }, pos := { (wEnter true).pos with cars := ⟨carAt a true, carAt b true⟩ } }
      (got (exec (.enterService hConsole 1) s)).map fun t => (t.trip.state, t.trip.dir)) =
    [some (.PARKED, .UP), some (.PARKED, .DOWN), some (.HELD, .DOWN)] := by decide +kernel

/-- R107: an order that is still queued, and one evaluation that withdraws what it releases. -/
theorem wit_DoorStateSetsTheRecords_queued :
    (let s := { wBerth .OPEN 0xF (some ⟨3, none⟩) false with doors := { (wBerth .OPEN 0xF (some ⟨3, none⟩) false).doors with
        one := { (wBerth .OPEN 0xF (some ⟨3, none⟩) false).doors.one with queued := some ⟨3, 0xF, 0, 0, 0⟩ } } }
     (s.doors.get .car1).queued = some ⟨3, 0xF, 0, 0, 0⟩ ∧ ((s.doors.get .car1).sides.get .LEFT).outstanding = some ⟨3, none⟩ ∧
       (((s.doors.get .car1).sides.get .LEFT).doors.get 0).state = .OPEN ∧
       (evaluateDoors .car1 s).doors.one.queued.map (fun o => (o.releaseLeft, o.withdrawLeft, o.withdrawRight)) = some (0, 0xF, 0xF)) := by
  decide +kernel

/-- R70: a reset that finds the trip released and the latches clear raises the stage to HOLD, and the answer is all that is placed. -/
theorem test_a_reset_under_release :
    (let s := run .RUNNING 300000 0
     let s := { s with pos := { s.pos with standstill := true } }
     (got (exec (.brakeReset hConsole 9) s)).map fun t => (t.brake.commanded, t.ports.c.normal.map OutFrame.content)) =
    some (.HOLD, [.lineAnswer 9 6 .ACCEPTED]) := by decide +kernel

/-- LINE_STATUS of a trip UP to the termini at 8000 mm/s, by the layout of R191: RUNNING is 4; in service with both cars referenced;
1 234 567 and 285 433 mm; no berths; halts 1 and 0 ahead; one stop; 8000 mm/s and its code; RELEASED without latches; doors locked; no window. -/
theorem test_line_status :
    statusBytes (run .RUNNING 1234567 8000) =
      [4, 25, 0, 0, 0x12, 0xD6, 0x87, 0x04, 0x5A, 0xF9, 0xFF, 0xFF, 0x01, 1, 0x1F, 0x40, 0x06, 0x41, 0, 0] ++ List.replicate 12 0xFF := by
  decide +kernel
theorem wit_UnknownRequestsAndStatusAreAnswered_fields :
    (let s := run .RUNNING 1234567 8000
     s.trip.plan.length ≤ 9 ∧ -32768 ≤ s.pos.measured ∧ s.pos.measured ≤ 32767) ∧
    (let s := wGate (some room1) [] false []
     s.gates.windows.get 0 = some room1 ∧ room1.capacity - room1.base - room1.admitted - room1.reserved ≤ 1023 ∧
       s.gates.windows.get 1 = none) := by decide +kernel

/-- The five verdicts of R148 and R150, and of R153: a token in flight, one admitted 119 s ago and not 120 s ago, a class that is admitted
offline, a budget of one and of none. -/
theorem wit_FareAnswersAndDeadlinesDecide_verdicts :
    (let flight := { ventry .WAIT_PASS 5 4 with gate := 2, verdict := some .ADMIT }
     let s := wGate (some room1) [ventry .ASKING 3 5, flight] false []
     flight ∈ s.gates.queue ∧ flight.slot ≠ 3 ∧ flight.token = (fare .ADMIT).token ∧ slotsDistinct s = true) ∧
    (let s (now : Nat) := { wGate (some room1) [ventry .ASKING 3 5] false [{ cached with lastAdmitted := some 0 }] with localMs := now * 1000 }
     (cacheFind (s 119).active.a (s 119).gates 77).bind CacheEntry.lastAdmitted = some 0 ∧
       (s 119).localTime - 0 < (s 119).active.a.fare.passback.toNat ∧ ¬ (s 120).localTime - 0 < (s 120).active.a.fare.passback.toNat) ∧
    ((silent.active.a.classPolicy.get 1 = 0#8 ∧ silent.active.a.classPolicy.get 2 ≠ 0#8) ∧ (ventry .ASKING 3 5).cls = 1) ∧
    (room1.base + room1.admitted + room1.reserved < room1.capacity ∧ ¬ room0.base + room0.admitted + room0.reserved < room0.capacity) ∧
    ((fare .ADMIT).rides ≠ 0#16 ∧ { fare .ADMIT with rides := 0 }.rides = 0#16 ∧ (fare .REFUSE).verdict ≠ .ADMIT) := by decide +kernel

end Sys2Proof.Tests
end

section
/-!
PROOFS. The nine tests on a call, one lemma per row of the table (R80), and CANCEL_CALL (R82), from how a request is
answered and what removing a pair leaves of a plan.
-/

namespace Sys2Proof.Machine

/-! ## The tests on a call, in the order of their table (R80) -/

/-- The first test of R80: the trip states that take a call. -/
def takesCalls (st : TripState) : Prop := st = .PARKED ∨ st = .READY ∨ st = .AT_STOP ∨ st = .RUNNING

/-- The pair of a call has passed the tests of R80 that stand before those on its distance. -/
structure CallAdmitted (s : State) (k : CarId) (x : Halt) (src : Source) : Prop where
  taken      : takesCalls s.trip.state
  present    : haltPresent s.active.b x = true
  free       : s.trip.hold = .NONE
  opened     : ¬ (src = .PLATFORM ∧ outputSet s x bitCallsAccepted = false)
  referenced : (s.pos.cars.get k).referenced = true

/-- Whether a running trip is too fast to stop at a pair at distance `d` (R80, R30). -/
abbrev callLate (s : State) (d : Int) : Prop :=
  s.trip.state = .RUNNING ∧ curveAt s.params d < s.pos.measured.natAbs + s.params.callMargin.toNat

/-- The model cuts a negative distance to 0 in its conversion to `Nat`. -/
theorem curveAt_eq (p : Params) (d : Int) :
    curveAt p d = isqrt (2 * p.serviceDecel.toNat * min 8000000 (max 0 (d - p.stopMargin.toNat)).toNat) := by
  have h : (max 0 (d - (p.stopMargin.toNat : Int))).toNat = (d - p.stopMargin.toNat).toNat := by omega
  rw [h, curveAt]

/-- The model's search of a plan for a pair finds it exactly when the plan lists it. -/
theorem any_stopHolds_iff (k : CarId) (x : Halt) (plan : List Stop) :
    plan.any (stopHolds k x) = true ↔ (k, x) ∈ planPairs plan := by
  simp only [planPairs, stopHolds, List.any_eq_true, List.mem_map, List.mem_flatMap, Bool.and_eq_true, beq_iff_eq, Prod.mk.injEq]
  constructor
  · rintro ⟨st, hst, p, hp, hpair⟩
    exact ⟨p, ⟨st, hst, hp⟩, hpair⟩
  · rintro ⟨p, ⟨st, hst, hp⟩, hpair⟩
    exact ⟨st, hst, p, hp, hpair⟩

/-- The model's test of the trip state, as a proposition. -/
theorem untaken_iff (st : TripState) :
    (!((st == .PARKED) || (st == .READY) || (st == .AT_STOP) || (st == .RUNNING))) = true ↔ ¬ takesCalls st := by
  cases st <;> simp [takesCalls]

section
variable {s : State} {k : CarId} {x : Halt} {src : Source}

theorem callOutcome_of_untaken (h : ¬ takesCalls s.trip.state) (halt : Option Halt) :
    callOutcome s k halt src = (.REFUSED .WRONG_STATE, none) := by
  unfold callOutcome
  exact if_pos ((untaken_iff _).mpr h)

theorem callOutcome_of_no_halt (h : takesCalls s.trip.state) :
    callOutcome s k none src = (.REFUSED .HALT_ABSENT, none) := by
  unfold callOutcome
  exact if_neg (fun u => (untaken_iff _).mp u h)

/-- A call in a trip state that takes it goes on to the tests on its halt. -/
theorem callOutcome_of_taken (h : takesCalls s.trip.state) : callOutcome s k (some x) src =
    if !haltPresent s.active.b x then (.REFUSED .HALT_ABSENT, none)
    else if s.trip.hold ≠ .NONE then (.REFUSED .HOLD_ACTIVE, none)
    else if src = .PLATFORM ∧ ¬ outputSet s x bitCallsAccepted then (.REFUSED .CALLS_CLOSED, none)
    else if !(s.car k).referenced then (.REFUSED .NOT_REFERENCED, none)
    else if pairDistance s k x ≤ platformWindow s.active.b x then (.REFUSED .HALT_NOT_AHEAD, none)
    else if s.trip.plan.any (stopHolds k x) then (.ACCEPTED, none)
    else if callLate s (pairDistance s k x) then (.TOO_LATE, none)
    else ((planWith s ⟨k, x, src⟩ (pairDistance s k x)).elim (.REFUSED .PLAN_FULL, none) fun plan => (.ACCEPTED, some plan)) := by
  unfold callOutcome
  rw [if_neg fun u => (untaken_iff _).mp u h]
  dsimp only [callLate, State.speedNow]
  cases planWith s ⟨k, x, src⟩ (pairDistance s k x) <;> rfl

theorem callOutcome_of_absent (h : takesCalls s.trip.state) (hx : haltPresent s.active.b x = false) :
    callOutcome s k (some x) src = (.REFUSED .HALT_ABSENT, none) := by
  simp [callOutcome_of_taken h, hx]

theorem callOutcome_of_hold (h : takesCalls s.trip.state) (hx : haltPresent s.active.b x = true)
    (hh : s.trip.hold ≠ .NONE) : callOutcome s k (some x) src = (.REFUSED .HOLD_ACTIVE, none) := by
  simp [callOutcome_of_taken h, hx, hh]

theorem callOutcome_of_closed (h : takesCalls s.trip.state) (hx : haltPresent s.active.b x = true)
    (hh : s.trip.hold = .NONE) (hc : src = .PLATFORM ∧ outputSet s x bitCallsAccepted = false) :
    callOutcome s k (some x) src = (.REFUSED .CALLS_CLOSED, none) := by
  simp [callOutcome_of_taken h, hx, hh, hc]

theorem callOutcome_of_unreferenced (h : takesCalls s.trip.state) (hx : haltPresent s.active.b x = true)
    (hh : s.trip.hold = .NONE) (hc : ¬ (src = .PLATFORM ∧ outputSet s x bitCallsAccepted = false))
    (hr : (s.pos.cars.get k).referenced ≠ true) :
    callOutcome s k (some x) src = (.REFUSED .NOT_REFERENCED, none) := by
  simp [callOutcome_of_taken h, hx, hh, hc, State.car, hr]

namespace CallAdmitted

/-- What is left of the table for an admitted pair: the tests on its distance, on the plan and on the speed. -/
theorem callOutcome_eq (h : CallAdmitted s k x src) : callOutcome s k (some x) src =
    if pairDistance s k x ≤ platformWindow s.active.b x then (.REFUSED .HALT_NOT_AHEAD, none)
    else if s.trip.plan.any (stopHolds k x) then (.ACCEPTED, none)
    else if callLate s (pairDistance s k x) then (.TOO_LATE, none)
    else ((planWith s ⟨k, x, src⟩ (pairDistance s k x)).elim (.REFUSED .PLAN_FULL, none) fun plan => (.ACCEPTED, some plan)) := by
  obtain ⟨htaken, hpresent, hfree, hopened, href⟩ := h
  simp [callOutcome_of_taken htaken, hpresent, hfree, hopened, State.car, href]

theorem callOutcome_of_not_ahead (h : CallAdmitted s k x src)
    (hd : pairDistance s k x ≤ platformWindow s.active.b x) :
    callOutcome s k (some x) src = (.REFUSED .HALT_NOT_AHEAD, none) := by
  rw [h.callOutcome_eq, if_pos hd]

theorem callOutcome_of_planned (h : CallAdmitted s k x src)
    (hd : platformWindow s.active.b x < pairDistance s k x) (hp : (k, x) ∈ planPairs s.trip.plan) :
    callOutcome s k (some x) src = (.ACCEPTED, none) := by
  rw [h.callOutcome_eq, if_neg (not_le.mpr hd), if_pos ((any_stopHolds_iff ..).mpr hp)]

theorem callOutcome_of_late (h : CallAdmitted s k x src)
    (hd : platformWindow s.active.b x < pairDistance s k x) (hp : (k, x) ∉ planPairs s.trip.plan)
    (hl : callLate s (pairDistance s k x)) : callOutcome s k (some x) src = (.TOO_LATE, none) := by
  rw [h.callOutcome_eq, if_neg (not_le.mpr hd), if_neg (mt (any_stopHolds_iff ..).mp hp), if_pos hl]

/-- The last test: a new pair that passes the others gets the answer that the plan has room for. -/
theorem callOutcome_of_new (h : CallAdmitted s k x src)
    (hd : platformWindow s.active.b x < pairDistance s k x) (hp : (k, x) ∉ planPairs s.trip.plan)
    (hl : ¬ callLate s (pairDistance s k x)) : callOutcome s k (some x) src =
      (planWith s ⟨k, x, src⟩ (pairDistance s k x)).elim (.REFUSED .PLAN_FULL, none) fun plan => (.ACCEPTED, some plan) := by
  rw [h.callOutcome_eq, if_neg (not_le.mpr hd), if_neg (mt (any_stopHolds_iff ..).mp hp), if_neg hl]

end CallAdmitted
end

/-- Settles O24: each row of the table of R80 has its lemma, and the rows stand in the order of the tests. -/
theorem callsAreTestedInOrder : Obligations.CallsAreTestedInOrder := by
  unfold Obligations.CallsAreTestedInOrder
  intro s k src
  refine ⟨fun h x => callOutcome_of_untaken h x, fun htaken => ⟨callOutcome_of_no_halt htaken, fun x => ?_⟩⟩
  dsimp only
  rw [← curveAt_eq]
  refine ⟨callOutcome_of_absent htaken, fun hx => ⟨callOutcome_of_hold htaken hx, callOutcome_of_closed htaken hx,
    callOutcome_of_unreferenced htaken hx, fun hfree hopened href => ?_⟩⟩
  have h : CallAdmitted s k x src := ⟨htaken, hx, hfree, hopened, href⟩
  refine ⟨h.callOutcome_of_not_ahead, h.callOutcome_of_planned, h.callOutcome_of_late,
    fun hd hp hl => ⟨fun hfull => ?_, fun plan hplan => ?_⟩⟩
  · rw [h.callOutcome_of_new hd hp hl, hfull, Option.elim_none]
  · rw [h.callOutcome_of_new hd hp hl, hplan, Option.elim_some]

/-! ## Requests and their answers (R97) -/

/-- A request that is refused is answered, and nothing else. -/
theorem request_refused {ans : State → LineAnswer} {s : State} {r : Reason} (h : ans s = .REFUSED r)
    (hdr : Header) (n kind : Byte) (eff : State → State) :
    request hdr n kind ans eff s = answerLine hdr n kind (.REFUSED r) s := by
  simp only [request, h]

/-- A request that is accepted takes effect behind its answer. -/
theorem request_accepted {ans : State → LineAnswer} {s : State} (h : ans s = .ACCEPTED)
    (hdr : Header) (n kind : Byte) (eff : State → State) :
    request hdr n kind ans eff s = eff (answerLine hdr n kind .ACCEPTED s) := by
  simp only [request, h]

/-- A request that a quiet state answers, and nothing else, is settled with its answer. -/
theorem running_request_answered {hdr : Header} {n kind : Byte} {r : LineReq} {e : NodeEntry} {s : State} {a : LineAnswer}
    (hacc : acceptedFrom s hdr (.lineRequest n r) e) (hq : quiet s = true)
    (h : takeRequest hdr n r (heardOn hdr.port s) = answerLine hdr n kind a (heardOn hdr.port s)) :
    running (receivePayload hdr (.lineRequest n r)) s = .next (answerLine hdr n kind a (heardOn hdr.port s)) := by
  rw [running_receive hacc]
  change Host.Outcome.next (settle (react (takeRequest hdr n r) (heardOn hdr.port s))) = _
  rw [settle_react_quiet (heardOn_quiet hdr.port hq)] <;> rw [h] <;> rfl

/-! ## What a removed pair leaves of a plan (R79, R82) -/

theorem stopPairs_length_le (st : Stop) : (stopPairs st).length ≤ 2 := by
  unfold stopPairs
  split <;> simp

/-- A stop without a pair holds its other pairs in their order, and is gone when none is left. -/
theorem stopWithout_map_stopPairs (k : CarId) (h : Halt) (st : Stop) : (stopWithout k h st).map stopPairs =
    (some ((stopPairs st).filter fun p => !((p.car == k) && (p.halt == h)))).filter fun ps => ps ≠ [] := by
  have hlen : ((stopPairs st).filter fun p => !((p.car == k) && (p.halt == h))).length ≤ 2 :=
    (List.length_filter_le ..).trans (stopPairs_length_le st)
  unfold stopWithout
  split
  next heq => rw [heq]; rfl
  next p heq => rw [heq]; rfl
  next p q rest heq =>
    have hrest : rest = [] := by
      rw [heq] at hlen
      exact List.eq_nil_of_length_eq_zero (by simpa using hlen)
    rw [heq, hrest]
    rfl

/-- The stops of a plan without a pair, as their pairs: every stop in its place but those left without pairs. -/
theorem planWithout_map_stopPairs (k : CarId) (h : Halt) (plan : List Stop) : (planWithout k h plan).map stopPairs =
    ((plan.map stopPairs).map fun ps => ps.filter fun p => !((p.car == k) && (p.halt == h))).filter fun ps => ps ≠ [] := by
  unfold planWithout
  rw [List.map_filterMap, ← List.filterMap_eq_filter, List.filterMap_map, List.filterMap_map]
  refine List.filterMap_congr fun st _ => ?_
  rw [stopWithout_map_stopPairs]
  rfl

/-! ## CANCEL_CALL (R82) -/

/-- Whether a pair is the one that a CANCEL_CALL names by a car and a halt byte. -/
def cancelNames (k : CarId) (b : Byte) (p : StopPair) : Bool := (p.car == k) && decide (p.halt.val = b.toNat)

/-- The pair of the plan that a CANCEL_CALL names. -/
def cancelFound (s : State) (k : CarId) (b : Byte) : Option StopPair := (s.trip.plan.flatMap stopPairs).find? (cancelNames k b)

/-- A byte that is no halt names no pair. -/
theorem cancelFound_of_no_halt {b : Byte} (h : haltOfByte b = none) (s : State) (k : CarId) : cancelFound s k b = none := by
  have hb : ¬ b.toNat < 6 := by simpa [haltOfByte] using h
  refine List.find?_eq_none.mpr fun p _ => ?_
  have := p.halt.isLt
  simp only [cancelNames, Bool.and_eq_true, decide_eq_true_eq]
  omega

/-- A byte that is a halt names the pairs of that halt. -/
theorem cancelNames_of_halt {b : Byte} {x : Halt} (h : haltOfByte b = some x) (k : CarId) :
    cancelNames k b = fun p => (p.car == k) && (p.halt == x) := by
  unfold haltOfByte at h
  split at h
  · cases h
    funext p
    simp [cancelNames, Fin.ext_iff, beq_eq_decide]
  · cases h

/-- The answer to CANCEL_CALL, from the pair that it names. -/
theorem cancelAnswer_eq (s : State) (k : CarId) (b : Byte) : cancelAnswer s k (haltOfByte b) =
    (cancelFound s k b).elim (.REFUSED .NOT_FOUND)
      fun p => if p.source = .CONSOLE then .ACCEPTED else .REFUSED .NOT_CONSOLE := by
  cases hb : haltOfByte b with
  | none => rw [cancelFound_of_no_halt hb]; rfl
  | some x =>
    rw [cancelFound, cancelNames_of_halt hb, cancelAnswer]
    cases (s.trip.plan.flatMap stopPairs).find? fun p => (p.car == k) && (p.halt == x) <;> rfl

/-- The effect of CANCEL_CALL on a pair that the plan holds: the plan without it, the announcements of the change, and nothing else. -/
theorem cancelEffect_fields {s : State} {k : CarId} {b : Byte} {p : StopPair} (hp : cancelFound s k b = some p) :
    ∃ plan v l, cancelEffect k (haltOfByte b) s =
        { s with trip := { s.trip with plan := plan }, speed := v, agenda := s.agenda ++ l } ∧
      plan.map stopPairs =
        ((s.trip.plan.map stopPairs).map fun ps => ps.filter fun p => !cancelNames k b p).filter fun ps => ps ≠ [] := by
  cases hb : haltOfByte b with
  | none => rw [cancelFound_of_no_halt hb] at hp; cases hp
  | some x =>
    obtain ⟨v, l, h⟩ := carry_fields (modTrip fun t => { t with plan := planWithout k x t.plan }) s
    rw [cancelNames_of_halt hb]
    exact ⟨_, v, l, h, planWithout_map_stopPairs k x s.trip.plan⟩

section
variable {hdr : Header} {n : Byte} {k : CarId} {b : Byte} {p : StopPair} {s : State}

theorem takeRequest_cancelCall_of_not_found (h : cancelFound s k b = none) :
    takeRequest hdr n (.cancelCall k b) s = answerLine hdr n 2 (.REFUSED .NOT_FOUND) s := by
  have hans : cancelAnswer s k (haltOfByte b) = .REFUSED .NOT_FOUND := by rw [cancelAnswer_eq, h, Option.elim_none]
  exact request_refused (ans := fun s => cancelAnswer s k (haltOfByte b)) hans ..

theorem takeRequest_cancelCall_of_not_console (h : cancelFound s k b = some p) (hp : p.source ≠ .CONSOLE) :
    takeRequest hdr n (.cancelCall k b) s = answerLine hdr n 2 (.REFUSED .NOT_CONSOLE) s := by
  have hans : cancelAnswer s k (haltOfByte b) = .REFUSED .NOT_CONSOLE := by
    rw [cancelAnswer_eq, h, Option.elim_some, if_neg hp]
  exact request_refused (ans := fun s => cancelAnswer s k (haltOfByte b)) hans ..

theorem takeRequest_cancelCall_of_console (h : cancelFound s k b = some p) (hp : p.source = .CONSOLE) :
    takeRequest hdr n (.cancelCall k b) s = cancelEffect k (haltOfByte b) (answerLine hdr n 2 .ACCEPTED s) := by
  have hans : cancelAnswer s k (haltOfByte b) = .ACCEPTED := by rw [cancelAnswer_eq, h, Option.elim_some, if_pos hp]
  exact request_accepted (ans := fun s => cancelAnswer s k (haltOfByte b)) hans ..

/-- An accepted CANCEL_CALL, carried out and announced: its answer, and the plan without the pair. -/
theorem react_cancelCall_of_console (h : cancelFound s k b = some p) (hp : p.source = .CONSOLE) :
    ∃ plan v l, react (takeRequest hdr n (.cancelCall k b)) s =
        { answerLine hdr n 2 .ACCEPTED s with trip := { s.trip with plan := plan }, speed := v, agenda := l } ∧
      plan.map stopPairs =
        ((s.trip.plan.map stopPairs).map fun ps => ps.filter fun p => !cancelNames k b p).filter fun ps => ps ≠ [] := by
  obtain ⟨plan, v, l, heff, hplan⟩ := cancelEffect_fields (s := answerLine hdr n 2 .ACCEPTED s) h
  obtain ⟨l', hreact⟩ := react_eq (takeRequest hdr n (.cancelCall k b)) s
  rw [takeRequest_cancelCall_of_console h hp, heff] at hreact
  exact ⟨plan, v, _, hreact, hplan⟩

/-- An accepted CANCEL_CALL frame is taken as a request, with its announcements carried through (R97, R163). -/
theorem exec_cancelCall {e : NodeEntry} (h : acceptedFrom s hdr (.lineRequest n (.cancelCall k b)) e) :
    exec (.cancelCall hdr n k b) s =
      .next (settle (react (takeRequest hdr n (.cancelCall k b)) (heardOn hdr.port s))) :=
  running_receive h

end

/-- Settles O27: the answer follows the pair that the plan holds, and an accepted request takes that pair out. -/
theorem cancelCallTakesThePairOut : Obligations.CancelCallTakesThePairOut := by
  unfold Obligations.CancelCallTakesThePairOut
  intro hdr n k b e s hacc
  refine ⟨fun hf hq => ?_, fun p hf hsrc hq => ?_, fun p hf hsrc => ?_⟩
  · exact running_request_answered hacc hq (takeRequest_cancelCall_of_not_found hf)
  · exact running_request_answered hacc hq (takeRequest_cancelCall_of_not_console hf hsrc)
  · obtain ⟨plan, v, l, hu, hplan⟩ :=
      react_cancelCall_of_console (hdr := hdr) (n := n) (s := heardOn hdr.port s) hf hsrc
    have hexec := exec_cancelCall hacc
    rw [hu] at hexec
    exact ⟨_, plan, hexec, settle_rest _, rfl, rfl, hplan⟩

end Sys2Proof.Machine
end

section
/-!
PROOFS. ABANDON (R179): the checks that a MGMT_CONTROL operation stands behind (R173), what ABANDON leaves in each of their
cases, and that an operation on the tables and the management agent alone is settled when it has been carried out.
-/

namespace Sys2Proof.Machine

/-! ## The checks of an operation (R173) -/

section
variable {hdr : Header} {tag : Byte} {console maintOnly named : Bool} {f : State → State} {s : State}

/-- Check 1: under WRITE_ALL_LOCK an operation is answered OK and does nothing. -/
theorem guarded_of_locked (h : s.mgmt.locks.writeAll = true) :
    guarded hdr tag console maintOnly named f s = answerControl hdr tag .OK s :=
  if_pos h

/-- Check 3: an argument that names nothing is answered NO_ITEM. -/
theorem guarded_of_unnamed (h : s.mgmt.locks.writeAll = false) :
    guarded hdr tag console maintOnly false f s = answerControl hdr tag .NO_ITEM s := by
  simp [guarded, h]

/-- An operation that is open to every node passes the checks when its argument names something. -/
theorem guarded_of_named (h : s.mgmt.locks.writeAll = false) : guarded hdr tag console false true f s = f s := by
  simp [guarded, h]

end

/-! ## What ABANDON does (R179) -/

section
variable {hdr : Header} {console : Bool} {tag arg : Byte} {s : State}

theorem takeAbandon_of_locked (h : s.mgmt.locks.writeAll = true) :
    takeAbandon hdr console tag arg s = answerControl hdr tag .OK s :=
  guarded_of_locked h

theorem takeAbandon_of_no_group (h : s.mgmt.locks.writeAll = false) (harg : 2 ≤ arg.toNat) :
    takeAbandon hdr console tag arg s = answerControl hdr tag .NO_ITEM s := by
  have hnamed : decide (arg.toNat ≤ 1) = false := decide_eq_false (by omega)
  unfold takeAbandon
  rw [hnamed, guarded_of_unnamed h]

theorem takeAbandon_groupA (h : s.mgmt.locks.writeAll = false) : takeAbandon hdr console tag 0#8 s =
    { answerControl hdr tag .OK s with
      staged := ⟨s.active.a, s.staged.b⟩
      mgmt := { s.mgmt with commitA := ⟨false, s.mgmt.commitA.last⟩ } } :=
  guarded_of_named h

theorem takeAbandon_groupB (h : s.mgmt.locks.writeAll = false) : takeAbandon hdr console tag 1#8 s =
    { answerControl hdr tag .OK s with
      staged := ⟨s.staged.a, s.active.b⟩
      mgmt := { s.mgmt with commitB := ⟨false, s.mgmt.commitB.last⟩ } } :=
  guarded_of_named h

/-! ## From the frame to the settled state -/

/-- The conditions of R86 and R124 read neither the queues of the ports, nor the staged tables, nor the management agent: an event after
a quiet state that changes these alone is settled. -/
theorem settle_react_of_management {f : State → State} {ports : PerPort Port} {staged : Tables} {mgmt : Management}
    (hq : quiet s = true) (h : f s = { s with ports := ports, staged := staged, mgmt := mgmt }) :
    settle (react f s) = f s := by
  apply settle_react_quiet hq <;> simp only [h, bothReferenced, State.car]

/-- An accepted ABANDON is handled as that operation, with its announcements carried through (R163). -/
theorem exec_abandon {e : NodeEntry} (h : acceptedFrom s hdr (.mgmtControl tag 1 arg) e) :
    exec (.abandon hdr tag arg) s =
      .next (settle (react (takeAbandon hdr (nodeRole e == .CONSOLE) tag arg) (heardOn hdr.port s))) :=
  running_receive h

/-- An accepted ABANDON that a quiet state takes leaves what the operation does, and nothing else. -/
theorem exec_abandon_quiet {e : NodeEntry} {ports : PerPort Port} {staged : Tables} {mgmt : Management}
    (hacc : acceptedFrom s hdr (.mgmtControl tag 1 arg) e) (hq : quiet s = true)
    (h : takeAbandon hdr (nodeRole e == .CONSOLE) tag arg (heardOn hdr.port s) =
      { s with ports := ports, staged := staged, mgmt := mgmt }) :
    exec (.abandon hdr tag arg) s = .next { s with ports := ports, staged := staged, mgmt := mgmt } := by
  rw [exec_abandon hacc, settle_react_of_management (heardOn_quiet hdr.port hq) h, h]

end

/-- Settles O47: the outcome of the checks of R173 first, then the staged group and the commit status of each group. -/
theorem abandonRestoresTheStagedGroup : Obligations.AbandonRestoresTheStagedGroup := by
  unfold Obligations.AbandonRestoresTheStagedGroup
  intro hdr tag arg e s hacc hq
  refine ⟨fun hlocked => ?_, fun hfree => ⟨fun hno => ?_, fun hA => ?_, fun hB => ?_⟩⟩
  · exact exec_abandon_quiet hacc hq (takeAbandon_of_locked hlocked)
  · exact exec_abandon_quiet hacc hq (takeAbandon_of_no_group hfree hno)
  · subst hA
    exact exec_abandon_quiet hacc hq (takeAbandon_groupA hfree)
  · subst hB
    exact exec_abandon_quiet hacc hq (takeAbandon_groupB hfree)

end Sys2Proof.Machine
end

section
/-!
PROOFS. What every step keeps (R62, R77, R143, R146, R151, R168, R181): one relation between two states that says that the second
meets each invariant which the first meets, one lemma for each function that a command or an announcement can reach, and from these
the step invariants.
-/

namespace Sys2Proof.Machine

/-! ## The relation -/

/-- What of the configuration a command may replace: the active group B (R178, R188, R189), and the lock flags (R180). -/
structure Replaced where
  groupB : Prop
  locks  : Prop

/-- Every lock that is set in `a` is set in `b` (R180). -/
structure LocksKept (a b : Locks) : Prop where
  read     : a.read = true → b.read = true
  write    : a.write = true → b.write = true
  writeAll : a.writeAll = true → b.writeAll = true

theorem LocksKept.of_eq {a b : Locks} (h : b = a) : LocksKept a b := h ▸ ⟨id, id, id⟩

/-- The state `t` meets each of the step invariants that `s` meets; its active group B is that of `s` and the locks of `s` are set in
it, but for what may be replaced. -/
structure Kept (m : Replaced) (s t : State) : Prop where
  stage   : stageInForce s = true → stageInForce t = true
  urgent  : urgentQueuesOk s = true → urgentQueuesOk t = true
  normal  : normalQueuesOk s = true → normalQueuesOk t = true
  plan    : planOk s = true → planOk t = true
  slots   : slotsDistinct s = true → slotsDistinct t = true
  passes  : slotsDistinct s = true → onePassPerGate s = true → onePassPerGate t = true
  windows : windowsWithinRoom s = true → windowsWithinRoom t = true
  notices : noticeCountsOk s = true → noticeCountsOk t = true
  groupB  : ¬ m.groupB → t.active.b = s.active.b
  locks   : ¬ m.locks → LocksKept s.mgmt.locks t.mgmt.locks

theorem Kept.refl {m : Replaced} (s : State) : Kept m s s :=
  ⟨id, id, id, id, id, fun _ => id, id, id, fun _ => rfl, fun _ => .of_eq rfl⟩

theorem Kept.trans {m : Replaced} {s t u : State} (h : Kept m s t) (g : Kept m t u) : Kept m s u where
  stage hs := g.stage (h.stage hs)
  urgent hs := g.urgent (h.urgent hs)
  normal hs := g.normal (h.normal hs)
  plan hs := g.plan (h.plan hs)
  slots hs := g.slots (h.slots hs)
  passes hs hp := g.passes (h.slots hs) (h.passes hs hp)
  windows hs := g.windows (h.windows hs)
  notices hs := g.notices (h.notices hs)
  groupB hm := (g.groupB hm).trans (h.groupB hm)
  locks hm := ⟨fun x => (g.locks hm).read ((h.locks hm).read x), fun x => (g.locks hm).write ((h.locks hm).write x),
    fun x => (g.locks hm).writeAll ((h.locks hm).writeAll x)⟩

section
variable {m : Replaced} {s t : State}

/-! ## One part of the state replaced -/

/-- What the invariants read of a state. -/
theorem Kept.of_same {u : State} (h : Kept m s t) (hb : u.brake = t.brake) (hp : u.ports = t.ports)
    (ht : u.trip.plan = t.trip.plan) (hq : u.gates.queue = t.gates.queue) (hw : u.gates.windows = t.gates.windows)
    (hn : u.mgmt.notices = t.mgmt.notices) (ha : u.active.b = t.active.b) (hl : u.mgmt.locks = t.mgmt.locks) : Kept m s u := by
  refine h.trans ⟨?_, ?_, ?_, ?_, ?_, ?_, ?_, ?_, fun _ => ha, fun _ => .of_eq hl⟩
  · simp only [stageInForce, hb]; exact id
  · simp only [urgentQueuesOk, hp]; exact id
  · simp only [normalQueuesOk, hp]; exact id
  · simp only [planOk, ht]; exact id
  · simp only [slotsDistinct, hq]; exact id
  · simp only [onePassPerGate, hq]; exact fun _ => id
  · simp only [windowsWithinRoom, hw]; exact id
  · simp only [noticeCountsOk, hn]; exact id

/-- A new supervisor record, in which the stage rule holds where it held before. -/
theorem kept_brake (h : Kept m s t) {b : Supervisor}
    (hb : t.brake.commanded = demandedStage t.brake → b.commanded = demandedStage b) :
    Kept m s { t with brake := b } := by
  refine h.trans ⟨fun hs => ?_, id, id, id, id, fun _ => id, id, id, fun _ => rfl, fun _ => .of_eq rfl⟩
  simp only [stageInForce, beq_iff_eq] at hs ⊢
  exact hb hs

theorem kept_ports (h : Kept m s t) {p : PerPort Port} (hu : urgentQueuesOk t = true → urgentQueuesOk { t with ports := p } = true)
    (hn : normalQueuesOk t = true → normalQueuesOk { t with ports := p } = true) : Kept m s { t with ports := p } :=
  h.trans ⟨id, hu, hn, id, id, fun _ => id, id, id, fun _ => rfl, fun _ => .of_eq rfl⟩

theorem kept_trip (h : Kept m s t) {x : Trip} (hp : planOk t = true → planOk { t with trip := x } = true) :
    Kept m s { t with trip := x } :=
  h.trans ⟨id, id, id, hp, id, fun _ => id, id, id, fun _ => rfl, fun _ => .of_eq rfl⟩

theorem kept_gates (h : Kept m s t) {g : GateUnit} (hs : slotsDistinct t = true → slotsDistinct { t with gates := g } = true)
    (hp : slotsDistinct t = true → onePassPerGate t = true → onePassPerGate { t with gates := g } = true)
    (hw : windowsWithinRoom t = true → windowsWithinRoom { t with gates := g } = true) : Kept m s { t with gates := g } :=
  h.trans ⟨id, id, id, id, hs, hp, hw, id, fun _ => rfl, fun _ => .of_eq rfl⟩

/-- A management agent with other notices or locks. -/
theorem kept_mgmt (h : Kept m s t) {x : Management} (hm : noticeCountsOk t = true → noticeCountsOk { t with mgmt := x } = true)
    (hl : LocksKept t.mgmt.locks x.locks) : Kept m s { t with mgmt := x } :=
  h.trans ⟨id, id, id, id, id, fun _ => id, id, hm, fun _ => rfl, fun _ => hl⟩

theorem kept_pos (h : Kept m s t) {x : Position} : Kept m s { t with pos := x } := h.of_same rfl rfl rfl rfl rfl rfl rfl rfl
theorem kept_speed (h : Kept m s t) {x : SpeedRecord} : Kept m s { t with speed := x } := h.of_same rfl rfl rfl rfl rfl rfl rfl rfl
theorem kept_filter (h : Kept m s t) {x : FilterRecord} : Kept m s { t with filter := x } := h.of_same rfl rfl rfl rfl rfl rfl rfl rfl
theorem kept_doors (h : Kept m s t) {x : PerCar CarDoors} : Kept m s { t with doors := x } := h.of_same rfl rfl rfl rfl rfl rfl rfl rfl
theorem kept_seqs (h : Kept m s t) {x : Vector SeqRecord 6} : Kept m s { t with seqs := x } := h.of_same rfl rfl rfl rfl rfl rfl rfl rfl
theorem kept_pulses (h : Kept m s t) {x : Vector PulseRun 16} : Kept m s { t with pulses := x } := h.of_same rfl rfl rfl rfl rfl rfl rfl rfl
theorem kept_dins (h : Kept m s t) {x : Vector DinRecord 8} : Kept m s { t with dins := x } := h.of_same rfl rfl rfl rfl rfl rfl rfl rfl
theorem kept_staged (h : Kept m s t) {x : Tables} : Kept m s { t with staged := x } := h.of_same rfl rfl rfl rfl rfl rfl rfl rfl
theorem kept_agenda (h : Kept m s t) {x : List Ann} : Kept m s { t with agenda := x } := h.of_same rfl rfl rfl rfl rfl rfl rfl rfl

theorem kept_ite {c : Prop} [Decidable c] {u v : State} (hu : c → Kept m s u) (hv : ¬ c → Kept m s v) :
    Kept m s (if c then u else v) := by
  split
  next hc => exact hu hc
  next hc => exact hv hc

/-- Work that is done only in some states. -/
theorem kept_when {c : Prop} [Decidable c] (f : State → State) (hf : ∀ {u}, Kept m s u → Kept m s (f u)) (h : Kept m s t) :
    Kept m s (if c then f t else t) :=
  kept_ite (fun _ => hf h) fun _ => h

theorem kept_foldl {α : Type} {g : State → α → State} (hg : ∀ t x, Kept m s t → Kept m s (g t x)) (l : List α)
    (h : Kept m s t) : Kept m s (l.foldl g t) := by
  induction l generalizing t with
  | nil => exact h
  | cons x xs ih => exact ih (hg t x h)

/-! ## Shared operations -/

theorem kept_announce {a : Ann} (h : Kept m s t) : Kept m s (announce a t) := kept_agenda h

theorem kept_announceIf {b : Bool} {a : Ann} (h : Kept m s t) : Kept m s (announceIf b a t) :=
  kept_ite (fun _ => kept_announce h) fun _ => h

theorem kept_giveEvent {ev : RefEvent} (h : Kept m s t) : Kept m s (giveEvent ev t) := kept_pulses h

theorem withNormal_urgent (x : OutFrame) (p : Port) : (p.withNormal x).urgent = p.urgent := by
  obtain ⟨-, -, e⟩ | ⟨-, e⟩ | ⟨-, e⟩ := withNormal_cases x p <;> rw [e]

theorem withNormal_length (x : OutFrame) {p : Port} (h : p.normal.length ≤ 32) : (p.withNormal x).normal.length ≤ 32 := by
  obtain ⟨-, -, e⟩ | ⟨hl, e⟩ | ⟨-, e⟩ := withNormal_cases x p <;> rw [e]
  · simpa only [replaceFirst_length] using h
  · simp only [List.length_append, List.length_cons, List.length_nil]; omega
  · exact h

/-- A port whose urgent queue stays, or loses frames at its head, and whose normal queue stays within its bound. -/
theorem kept_modPort {q : PortId} {f : Port → Port} (hu : ∀ p, ∃ n, (f p).urgent = p.urgent.drop n)
    (hn : ∀ p : Port, p.normal.length ≤ 32 → (f p).normal.length ≤ 32) (h : Kept m s t) : Kept m s (modPort q f t) := by
  have hd : ∀ (l : List OutFrame) n, keysDistinct l = true → keysDistinct (l.drop n) = true := by
    intro l n
    induction n generalizing l with
    | zero => exact id
    | succ n ih =>
      cases l with
      | nil => exact id
      | cons x xs => simp only [keysDistinct, Bool.and_eq_true, List.drop_succ_cons]; exact fun hl => ih xs hl.2
  refine kept_ports h (fun hs => ?_) (fun hs => ?_)
  · simp only [urgentQueuesOk, Bool.and_eq_true, List.isEmpty_iff, List.all_eq_true] at hs ⊢
    obtain ⟨⟨hc, hf⟩, hk⟩ := hs
    cases q with
    | C => obtain ⟨n, e⟩ := hu t.ports.c; exact ⟨⟨by simp [PerPort.set, PerPort.get, e, hc], hf⟩, hk⟩
    | F =>
      obtain ⟨n, e⟩ := hu t.ports.f
      simp only [PerPort.set, PerPort.get, e]
      exact ⟨⟨hc, fun x hx => hf x (List.mem_of_mem_drop hx)⟩, hd _ n hk⟩
  · simp only [normalQueuesOk, Bool.and_eq_true, decide_eq_true_eq] at hs ⊢
    cases q with
    | C => exact ⟨hn _ hs.1, hs.2⟩
    | F => exact ⟨hs.1, hn _ hs.2⟩

/-- A port whose queues stay. -/
theorem kept_modPort_same {q : PortId} {f : Port → Port} (hu : ∀ p, (f p).urgent = p.urgent) (hn : ∀ p, (f p).normal = p.normal)
    (h : Kept m s t) : Kept m s (modPort q f t) :=
  kept_modPort (fun p => ⟨0, hu p⟩) (fun p hp => (hn p).symm ▸ hp) h

theorem kept_placeNormal {q : PortId} {x : OutFrame} (h : Kept m s t) : Kept m s (placeNormal q x t) :=
  kept_modPort (fun p => ⟨0, withNormal_urgent x p⟩) (fun _ hp => withNormal_length x hp) h

theorem sameKey_trans {x y z : OutFrame} (h : sameKey x y = true) : sameKey x z = sameKey y z := by
  simp only [sameKey, Bool.and_eq_true, beq_iff_eq] at h
  simp only [sameKey, h.1, h.2]

theorem sameKey_comm (x y : OutFrame) : sameKey x y = sameKey y x := by
  simp only [sameKey, Bool.beq_comm (a := contentKind x.content), BEq.comm (a := x.role)]

/-- Replacing the frame of a key by another one of that key leaves every key where it was. -/
theorem keysDistinct_replaceFirst (x : OutFrame) (l : List OutFrame) (h : keysDistinct l = true) :
    keysDistinct (replaceFirst (sameKey x) x l) = true := by
  have any_eq : ∀ (y : OutFrame) (l : List OutFrame), (replaceFirst (sameKey x) x l).any (sameKey y) = l.any (sameKey y) := by
    intro y l
    induction l with
    | nil => rfl
    | cons z zs ih =>
      unfold replaceFirst
      split
      next hz =>
        simp only [List.any_cons]
        rw [sameKey_comm y x, sameKey_comm y z, sameKey_trans hz]
      next => simp only [List.any_cons, ih]
  induction l with
  | nil => rfl
  | cons y ys ih =>
    simp only [keysDistinct, Bool.and_eq_true, Bool.not_eq_true'] at h
    obtain ⟨hy, hys⟩ := h
    unfold replaceFirst
    split
    next hxy =>
      have e : sameKey x = sameKey y := funext fun z => sameKey_trans hxy
      simp only [keysDistinct, e, hy, hys, Bool.not_false, Bool.and_self]
    next => simp only [keysDistinct, any_eq, hy, ih hys, Bool.not_false, Bool.and_self]

theorem keysDistinct_append (x : OutFrame) (l : List OutFrame) (h : keysDistinct l = true) (hx : l.any (sameKey x) = false) :
    keysDistinct (l ++ [x]) = true := by
  induction l with
  | nil => rfl
  | cons y ys ih =>
    simp only [keysDistinct, Bool.and_eq_true, Bool.not_eq_true'] at h
    simp only [List.any_cons, Bool.or_eq_false_iff] at hx
    simp only [List.cons_append, keysDistinct, List.any_append, List.any_cons, List.any_nil, Bool.or_false, h.1,
      sameKey_comm y x, hx.1, ih h.2 hx.2, Bool.not_false, Bool.and_self]

theorem mem_replaceFirst {α : Type} {p : α → Bool} {x y : α} {l : List α} (h : y ∈ replaceFirst p x l) : y = x ∨ y ∈ l := by
  induction l with
  | nil => cases h
  | cons z zs ih =>
    unfold replaceFirst at h
    split at h
    · rcases List.mem_cons.mp h with rfl | h
      · exact .inl rfl
      · exact .inr (List.mem_cons_of_mem _ h)
    · rcases List.mem_cons.mp h with rfl | h
      · exact .inr List.mem_cons_self
      · exact (ih h).imp id (List.mem_cons_of_mem _)

/-- A frame in an urgent queue: in the place of the held frame of its key, or at the tail (R168). -/
theorem withUrgent_cases (x : OutFrame) (p : Port) : (p.withUrgent x).normal = p.normal ∧
    ((p.withUrgent x).urgent = replaceFirst (sameKey x) x p.urgent ∨
      p.urgent.any (sameKey x) = false ∧ (p.withUrgent x).urgent = p.urgent ++ [x]) := by
  unfold Port.withUrgent
  split
  next => exact ⟨rfl, .inl rfl⟩
  next hn => exact ⟨rfl, .inr ⟨by simpa using hn, rfl⟩⟩

/-- A frame of one of the six keys takes the place of the held one of its key, or the tail (R168). -/
theorem kept_placeUrgent {x : OutFrame} (hx : urgentKeyOk x = true) (h : Kept m s t) : Kept m s (placeUrgent x t) := by
  obtain ⟨hn, hu⟩ := withUrgent_cases x t.ports.f
  refine kept_ports h (fun hs => ?_) (fun hs => ?_)
  · simp only [urgentQueuesOk, Bool.and_eq_true, List.isEmpty_iff, List.all_eq_true] at hs ⊢
    obtain ⟨⟨hc, hf⟩, hk⟩ := hs
    rcases hu with hu | ⟨hno, hu⟩ <;> simp only [PerPort.set, PerPort.get, hu]
    · exact ⟨⟨hc, fun y hy => (mem_replaceFirst hy).elim (fun e => e ▸ hx) (hf y)⟩, keysDistinct_replaceFirst x _ hk⟩
    · refine ⟨⟨hc, fun y hy => ?_⟩, keysDistinct_append x _ hk hno⟩
      rcases List.mem_append.mp hy with hy | hy
      · exact hf y hy
      · rw [List.mem_singleton.mp hy]; exact hx
  · simp only [normalQueuesOk, Bool.and_eq_true, decide_eq_true_eq] at hs ⊢
    exact ⟨hs.1, hn.symm ▸ hs.2⟩

theorem kept_sendNormal {r : Role} {c : Content} (h : Kept m s t) : Kept m s (sendNormal r c t) := by
  unfold sendNormal
  split
  · exact h
  · exact kept_placeNormal h

theorem kept_sendGate {g : GateId} {c : Content} (h : Kept m s t) : Kept m s (sendGate g c t) := by
  unfold sendGate
  split
  · exact h
  · exact kept_placeNormal h

theorem kept_sendUrgent {r : Role} {c : Content} (hk : ∀ dst src, urgentKeyOk ⟨dst, src, some r, c⟩ = true) (h : Kept m s t) :
    Kept m s (sendUrgent r c t) := by
  unfold sendUrgent
  split
  · exact h
  · exact kept_placeUrgent (hk _ _) h

/-- New notice records whose counts stop at 255 where the old ones did. -/
theorem kept_notices (h : Kept m s t) {v : Vector NoticeRecord 24}
    (hv : (∀ i, (t.mgmt.notices.get i).count ≤ 255) → ∀ i, (v.get i).count ≤ 255) :
    Kept m s { t with mgmt := { t.mgmt with notices := v } } := by
  have e : ∀ w : Vector NoticeRecord 24, (w.toList.all fun r => decide (r.count ≤ 255)) = true ↔ ∀ i, (w.get i).count ≤ 255 := by
    intro w
    simp only [List.all_eq_true, decide_eq_true_eq, Vector.mem_toList_iff, Vector.mem_iff_getElem]
    exact ⟨fun hw i => hw _ ⟨i.1, i.2, rfl⟩, fun hw x ⟨i, hi, hx⟩ => hx ▸ hw ⟨i, hi⟩⟩
  exact kept_mgmt h (fun hs => (e v).mpr (hv ((e _).mp hs))) (.of_eq rfl)

theorem kept_vset_notice (h : Kept m s t) {i : Fin 24} {r : NoticeRecord} (hr : r.count ≤ 255) :
    Kept m s { t with mgmt := { t.mgmt with notices := vset t.mgmt.notices i r } } := by
  refine kept_notices h fun hv j => ?_
  by_cases hj : j = i
  · rw [hj, vset_get_self]; exact hr
  · rw [vset_get_ne _ _ hj]; exact hv j

theorem kept_occur {n : Notice} (h : Kept m s t) : Kept m s (occur n t) := by
  have hr : ((t.mgmt.notices.get (noticeIndex n)).occurred t.localTime).count ≤ 255 := by
    simp only [NoticeRecord.occurred]; split <;> omega
  unfold occur
  dsimp only
  split
  · exact kept_sendNormal (kept_vset_notice h hr)
  · exact kept_vset_notice h hr

theorem kept_answerLine {hdr : Header} {n k : Byte} {a : LineAnswer} (h : Kept m s t) : Kept m s (answerLine hdr n k a t) :=
  kept_placeNormal h

theorem kept_answerMgmt {hdr : Header} {tag k : Byte} {c : MgmtCode} {d : List Byte} (h : Kept m s t) :
    Kept m s (answerMgmt hdr tag k c d t) :=
  kept_placeNormal h

theorem kept_answerControl {hdr : Header} {tag : Byte} {c : MgmtCode} (h : Kept m s t) : Kept m s (answerControl hdr tag c t) :=
  kept_answerMgmt h

/-! ## Announced changes -/

theorem kept_announceConditions {a : State} (h : Kept m s t) : Kept m s (announceConditions a t) := by
  obtain ⟨l, e⟩ := announceConditions_eq a t
  rw [e]; exact kept_agenda h

theorem kept_watch {f : State → State} (hf : Kept m s (f t)) : Kept m s (watch f t) := kept_announceConditions hf

theorem kept_react {f : State → State} (hf : Kept m s (f t)) : Kept m s (react f t) := by
  obtain ⟨l, e⟩ := react_eq f t
  rw [e]; exact kept_agenda hf

theorem kept_carry {f : State → State} (hf : Kept m s (f t)) : Kept m s (carry f t) := by
  obtain ⟨v, l, e⟩ := carry_fields f t
  rw [e]; exact hf.of_same rfl rfl rfl rfl rfl rfl rfl rfl

/-! ## Brake supervisor (chapter 4) -/

/-- What of a supervisor record R62 reads. -/
theorem demandedStage_congr {a b : Supervisor} (h1 : b.active = a.active) (h2 : b.latchS = a.latchS) (h3 : b.latchE = a.latchE)
    (h4 : b.latchR = a.latchR) (h5 : b.wantsRelease = a.wantsRelease) : demandedStage b = demandedStage a := by
  simp only [demandedStage, requestStage, latchStage, h1, h2, h3, h4, h5]

/-- A supervisor record that differs in nothing that R62 reads. -/
theorem kept_brake_same (h : Kept m s t) {b : Supervisor} (h0 : b.commanded = t.brake.commanded) (h1 : b.active = t.brake.active)
    (h2 : b.latchS = t.brake.latchS) (h3 : b.latchE = t.brake.latchE) (h4 : b.latchR = t.brake.latchR)
    (h5 : b.wantsRelease = t.brake.wantsRelease) : Kept m s { t with brake := b } :=
  kept_brake h fun e => by rw [demandedStage_congr h1 h2 h3 h4 h5, h0, e]

/-- An update of the supervisor record that the stage rule follows: what is kept is kept by the two together. -/
theorem kept_placeBrakeOrder {old new : Stage} (h : Kept m s t) : Kept m s (placeBrakeOrder old new t) := by
  have hk : ∀ (n : Byte) r, r = .BRAKE ∨ r = .CAR_1 ∨ r = .CAR_2 → ∀ dst src, urgentKeyOk ⟨dst, src, some r, .brakeOrder n new⟩ = true := by
    rintro n r (rfl | rfl | rfl) dst src <;> rfl
  unfold placeBrakeOrder
  dsimp only
  have h1 := kept_sendUrgent (hk (t.brake.counter + 1#8) .BRAKE (.inl rfl))
    (kept_brake_same h (b := { t.brake with counter := t.brake.counter + 1#8, outstanding := some ⟨t.brake.counter + 1#8, new, none⟩ })
      rfl rfl rfl rfl rfl rfl)
  refine kept_ite (fun _ => ?_) fun _ => h1
  exact kept_sendUrgent (hk _ _ (.inr (.inr rfl))) (kept_sendUrgent (hk _ _ (.inr (.inl rfl))) h1)

/-- Work under whose end the stage rule holds, whatever supervisor record it began with. -/
theorem Kept.of_brake {u : State} (b : Supervisor) (h : Kept m s t) (g : Kept m { t with brake := b } u)
    (hu : u.brake.commanded = demandedStage u.brake) : Kept m s u :=
  h.trans ⟨fun _ => by simp only [stageInForce, hu, beq_self_eq_true], g.urgent, g.normal, g.plan, g.slots, g.passes, g.windows, g.notices,
    g.groupB, g.locks⟩

theorem kept_decel (h : Kept m s t) (d : Option DecelCheck) : Kept m s { t with brake := { t.brake with decel := d } } :=
  kept_brake_same h rfl rfl rfl rfl rfl rfl

theorem stageRule_commanded (s : State) : (stageRule s).brake.commanded = demandedStage (stageRule s).brake := by
  obtain ⟨c, o, r, d, p, v, l, e⟩ := stageRule_fields s
  rw [e]
  exact (demandedStage_congr rfl rfl rfl rfl rfl).symm

theorem kept_stageNotice {old new : Stage} (h : Kept m s t) : Kept m s (stageNotice old new t) := by
  unfold stageNotice
  split
  · cases new
    · exact h
    · exact h
    · exact kept_occur h
    · exact kept_occur h
    · exact kept_occur h
  · exact h

/-- The stage rule, after any change of the supervisor record (R62). -/
theorem kept_stageRule {b : Supervisor} (h : Kept m s t) : Kept m s (stageRule { t with brake := b }) := by
  refine h.of_brake { b with commanded := demandedStage b } ?_ (stageRule_commanded _)
  unfold stageRule
  dsimp only
  split
  next e => rw [e]; exact Kept.refl _
  next =>
    refine kept_stageNotice (kept_announce (kept_announce (kept_announce ?_)))
    exact kept_brake_same (kept_placeBrakeOrder (Kept.refl _)) rfl rfl rfl rfl rfl rfl

/-- Causes that become active or are raised, after any change of the supervisor record (R55, R61). -/
theorem kept_causesAct {b : Supervisor} {cs : List (Cause × Stage)} (h : Kept m s t) :
    Kept m s (causesAct cs { t with brake := b }) := by
  obtain ⟨x, y, z, v, e, -⟩ := setLatches_fields cs { t with brake := b }
  have hr : Kept m s (stageRule { t with
      brake := { b with latchS := x, latchE := y, latchR := z }, pulses := v }) :=
    kept_stageRule (t := { t with pulses := v }) (kept_pulses h)
  unfold causesAct
  simp only [e]
  exact kept_announceIf (kept_ite (fun _ => kept_decel hr _) fun _ => hr)

theorem kept_raiseEvent {c : Cause} {st : Stage} (h : Kept m s t) : Kept m s (raiseEvent c st t) := kept_causesAct (b := t.brake) h

theorem kept_changeCauses {on off : List Cause} (h : Kept m s t) : Kept m s (changeCauses on off t) := kept_causesAct h

theorem kept_levelCause {c : Cause} {holds : Bool} (h : Kept m s t) : Kept m s (levelCause c holds t) :=
  kept_ite (fun _ => kept_changeCauses h) fun _ => kept_changeCauses h

theorem kept_evalDoorsCause (h : Kept m s t) : Kept m s (evalDoorsCause t) := kept_levelCause h
theorem kept_evalLinkCause (h : Kept m s t) : Kept m s (evalLinkCause t) := kept_levelCause h
theorem kept_evalEstop (h : Kept m s t) : Kept m s (evalEstop t) := kept_levelCause h

theorem kept_evalWarning {v : Nat} (h : Kept m s t) : Kept m s (evalWarning v t) := by
  have h1 : ∀ w, Kept m s { t with brake := { t.brake with warning := w } } := fun w => kept_brake_same h rfl rfl rfl rfl rfl rfl
  exact kept_ite (fun _ => kept_giveEvent (kept_occur (h1 _))) fun _ => h1 _

theorem kept_examineRollback (h : Kept m s t) : Kept m s (examineRollback t) := by
  have h1 : ∀ r, Kept m s { t with brake := { t.brake with rollback := r } } := fun r => kept_brake_same h rfl rfl rfl rfl rfl rfl
  unfold examineRollback
  split
  · exact h
  · exact kept_ite (fun _ => h1 _) fun _ => kept_ite (fun _ => kept_raiseEvent (kept_occur (h1 _))) fun _ => h

theorem kept_brakeCompare {driving : Bool} {v : Nat} (h : Kept m s t) : Kept m s (brakeCompare driving v t) := by
  have h1 := kept_evalWarning (v := v) h
  exact kept_evalDoorsCause (kept_ite (fun _ => kept_examineRollback (kept_changeCauses h1)) fun _ => kept_changeCauses h1)

theorem kept_requestHold (h : Kept m s t) : Kept m s (requestHold t) := kept_stageRule h

theorem kept_brakeTripEntered {e : TripState} (h : Kept m s t) : Kept m s (brakeTripEntered e t) := by
  cases e
  case RUNNING => exact h
  case STOPPING => exact h
  all_goals exact kept_requestHold h

theorem kept_brakeDoorsChanged (h : Kept m s t) : Kept m s (brakeDoorsChanged t) :=
  kept_ite (fun _ => kept_announce (kept_requestHold (kept_evalDoorsCause h))) fun _ => kept_evalDoorsCause h

theorem kept_requestRelease (h : Kept m s t) : Kept m s (requestRelease t) :=
  kept_ite (fun _ => kept_stageRule h) fun _ => kept_announce h

theorem kept_orderUnanswered {o : BrakeOrder} (h : Kept m s t) : Kept m s (orderUnanswered o t) := by
  have h1 : Kept m s (occur .BRAKE_NO_ANSWER { t with brake := { t.brake with outstanding := none } }) :=
    kept_occur (kept_brake_same h rfl rfl rfl rfl rfl rfl)
  unfold orderUnanswered
  split
  · exact kept_requestHold (kept_announce h1)
  · exact kept_raiseEvent h1
  · exact kept_raiseEvent h1
  · exact kept_raiseEvent h1
  · exact h1

theorem kept_takeBrakeState {p : BrakeStateP} (h : Kept m s t) : Kept m s (takeBrakeState p t) := by
  have hstale : Kept m s { t with brake := { t.brake with stale := satInc t.brake.stale } } := kept_brake_same h rfl rfl rfl rfl rfl rfl
  have htaken : Kept m s { t with brake := { t.brake with outstanding := none, applied := some p.stage } } :=
    kept_brake_same h rfl rfl rfl rfl rfl rfl
  unfold takeBrakeState
  split
  · refine kept_ite (fun _ => kept_ite (fun _ => kept_ite (fun _ => ?_) fun _ => htaken) fun _ => kept_orderUnanswered h) fun _ => hstale
    exact kept_announce (kept_giveEvent htaken)
  · exact hstale

theorem kept_brakeWindowExpires (h : Kept m s t) : Kept m s (brakeWindowExpires t) := by
  unfold brakeWindowExpires
  split
  · exact kept_ite (fun _ => kept_orderUnanswered h) fun _ => h
  · exact h

theorem kept_brakeOrderBegun {n : Byte} (h : Kept m s t) : Kept m s (brakeOrderBegun n t) := by
  unfold brakeOrderBegun
  split
  · exact kept_ite (fun _ => kept_brake_same h rfl rfl rfl rfl rfl rfl) fun _ => h
  · exact h

theorem kept_decelCheckEnds (h : Kept m s t) : Kept m s (decelCheckEnds t) := by
  unfold decelCheckEnds
  split
  · exact h
  · have h1 : Kept m s { t with brake := { t.brake with decel := none } } := kept_brake_same h rfl rfl rfl rfl rfl rfl
    exact kept_ite (fun _ => kept_raiseEvent h1) fun _ => h1

theorem kept_brakeResetEffect (h : Kept m s t) : Kept m s (brakeResetEffect t) := kept_stageRule h
theorem kept_railResetEffect (h : Kept m s t) : Kept m s (railResetEffect t) := kept_stageRule h
theorem kept_raiseStart (h : Kept m s t) : Kept m s (raiseStart t) := kept_evalEstop (kept_raiseEvent h)

/-! ## Speed limit unit and demand filter (chapters 2 and 3) -/

theorem kept_overrunCheck (h : Kept m s t) : Kept m s (overrunCheck t) :=
  kept_ite (fun _ => kept_raiseEvent (kept_occur (kept_speed h))) fun _ => h

theorem kept_recompute {driving : Bool} (h : Kept m s t) : Kept m s (recompute driving t) :=
  kept_announce (kept_announce (kept_overrunCheck (kept_speed h)))

theorem kept_placeDemand {dst src : Byte} {p : DemandP} (h : Kept m s t) : Kept m s (placeDemand dst src p t) :=
  kept_filter (kept_placeUrgent rfl h)

/-- The held DEMAND is found under the key of a DEMAND. -/
theorem queuedDemand_key {f : OutFrame} {p : DemandP} (h : queuedDemand t = some (f, p)) : f.role = some .DRIVE := by
  unfold queuedDemand at h
  split at h
  next g hg =>
    have hk : isDemand g = true := List.find?_some hg
    simp only [isDemand, Bool.and_eq_true, beq_iff_eq] at hk
    split at h
    next => cases h; exact hk.2
    next => cases h
  next => cases h

theorem kept_lowerQueued {f : OutFrame} {p q : DemandP} {code : Nat} {dir : Dir} (hq : queuedDemand t = some (f, q)) (h : Kept m s t) :
    Kept m s (lowerQueued f p code dir t) :=
  kept_filter (kept_placeUrgent (by simp [urgentKeyOk, contentKind, queuedDemand_key hq]) h)

theorem kept_lowerToCode {code : Nat} (h : Kept m s t) : Kept m s (lowerToCode code t) := by
  unfold lowerToCode
  split
  next hq => exact kept_ite (fun _ => kept_lowerQueued hq h) fun _ => h
  next => exact h

theorem kept_lowerForLatchS (h : Kept m s t) : Kept m s (lowerForLatchS t) := by
  refine kept_ite (fun _ => ?_) fun _ => h
  split
  next hq => exact kept_ite (fun _ => h) fun _ => kept_lowerQueued hq h
  next => exact h

theorem kept_turnQueued (h : Kept m s t) : Kept m s (turnQueued t) := by
  unfold turnQueued
  split
  next hq => exact kept_ite (fun _ => h) fun _ => kept_lowerQueued hq h
  next => exact h

theorem kept_substituteDemand {code : Nat} (h : Kept m s t) : Kept m s (substituteDemand code t) := by
  unfold substituteDemand
  split
  · exact h
  · exact kept_placeDemand h

theorem kept_demandTakesCode {driving : Bool} {v : Nat} (h : Kept m s t) : Kept m s (demandTakesCode driving v t) :=
  kept_ite (fun _ => kept_substituteDemand (kept_lowerToCode h)) fun _ => kept_lowerToCode h

theorem kept_demandStateEntered {st : TripState} (h : Kept m s t) : Kept m s (demandStateEntered st t) :=
  kept_ite (fun _ => kept_filter (kept_filter h)) fun _ => kept_filter h

theorem kept_demandTakesTrip {e : Option TripState} (h : Kept m s t) : Kept m s (demandTakesTrip e t) := by
  cases e
  · exact kept_turnQueued h
  · exact kept_turnQueued (kept_demandStateEntered h)

theorem kept_takeDemand {dst src : Byte} {p : DemandP} (h : Kept m s t) : Kept m s (takeDemand dst src p t) := by
  refine kept_ite (fun _ => kept_filter h) fun _ => kept_placeDemand (kept_filter ?_)
  exact kept_ite (fun _ => kept_filter h) fun _ => h

theorem kept_demandTimerExpires (h : Kept m s t) : Kept m s (demandTimerExpires t) := by
  refine kept_ite (fun _ => h) fun _ => ?_
  have h1 : Kept m s { t with filter := { t.filter with timer := none } } := kept_filter h
  split
  · exact kept_announce h1
  · exact kept_announce (kept_occur (kept_filter h1))
  · exact kept_occur (kept_filter h1)
  · exact h1

/-! ## Door unit (chapter 6) -/

theorem kept_modDoors {k : CarId} {f : CarDoors → CarDoors} (h : Kept m s t) : Kept m s (modDoors k f t) := kept_doors h

theorem kept_placeDoorOrder {k : CarId} {o : DoorOrder} (h : Kept m s t) : Kept m s (placeDoorOrder k o t) := by
  unfold placeDoorOrder
  split
  · exact h
  · exact kept_modDoors (kept_placeUrgent (by cases k <;> rfl) h)

theorem kept_giveWithdrawn {k : CarId} {o : DoorOrder} (h : Kept m s t) : Kept m s (giveWithdrawn k o t) := by
  unfold giveWithdrawn
  split
  · exact h
  · exact kept_ite (fun _ => h) fun _ => kept_giveEvent h

theorem kept_buildDoorOrder {k : CarId} {rl wl rr wr : Compartments} (h : Kept m s t) : Kept m s (buildDoorOrder k rl wl rr wr t) :=
  kept_giveWithdrawn (kept_placeDoorOrder (kept_modDoors h))

theorem kept_evaluateDoors {k : CarId} (h : Kept m s t) : Kept m s (evaluateDoors k t) :=
  kept_ite (fun _ => kept_modDoors h) fun _ => kept_buildDoorOrder (kept_modDoors h)

theorem kept_doorEvent {k : CarId} {f : State → State} (hf : Kept m s (f t)) : Kept m s (doorEvent k f t) := kept_announceIf hf

theorem kept_doorEvaluation {k : CarId} (h : Kept m s t) : Kept m s (doorEvaluation k t) := kept_doorEvent (kept_evaluateDoors h)

theorem kept_hearCar {k : CarId} (h : Kept m s t) : Kept m s (hearCar k t) :=
  kept_ite (fun _ => h) fun _ => kept_buildDoorOrder (kept_modDoors h)

theorem kept_carHeardByReport {k : CarId} (h : Kept m s t) : Kept m s (carHeardByReport k t) :=
  kept_ite (fun _ => h) fun _ => kept_doorEvent (kept_evaluateDoors (kept_hearCar h))

theorem kept_occurTimes {x : Notice} {n : Nat} (h : Kept m s t) : Kept m s (occurTimes x n t) := by
  induction n generalizing t with
  | zero => exact h
  | succ n ih => exact ih (kept_occur h)

theorem kept_takeDoorState {k : CarId} {p : DoorStateP} (h : Kept m s t) : Kept m s (takeDoorState k p t) := by
  refine kept_doorEvent (kept_evaluateDoors (kept_hearCar ?_))
  exact kept_ite (fun _ => kept_modDoors (kept_occurTimes (kept_modDoors h))) fun _ => kept_occurTimes (kept_modDoors h)

theorem kept_doorWindowExpires {k : CarId} {sd : Side} (h : Kept m s t) : Kept m s (doorWindowExpires k sd t) :=
  kept_ite (fun _ => kept_doorEvent (kept_evaluateDoors (kept_occur (kept_modDoors (kept_buildDoorOrder (kept_modDoors h))))))
    fun _ => h

theorem kept_closeTimerExpires {k : CarId} {sd : Side} {c : Fin 4} (h : Kept m s t) : Kept m s (closeTimerExpires k sd c t) :=
  kept_ite (fun _ => kept_doorEvent (kept_evaluateDoors (kept_occur (kept_modDoors h)))) fun _ => h

theorem kept_doorLinkLost {k : CarId} (h : Kept m s t) : Kept m s (doorLinkLost k t) := kept_doorEvent (kept_modDoors h)

theorem kept_doorOrderBegun {k : CarId} {token : Byte} (h : Kept m s t) : Kept m s (doorOrderBegun k token t) := by
  unfold doorOrderBegun
  exact kept_modDoors h

/-! ## Position unit (chapter 1) -/

theorem kept_modPos {f : Position → Position} (h : Kept m s t) : Kept m s (modPos f t) := kept_pos h
theorem kept_modCar {k : CarId} {f : CarRecord → CarRecord} (h : Kept m s t) : Kept m s (modCar k f t) := kept_pos h
theorem kept_modChan {ch : Channel} {f : ChannelState → ChannelState} (h : Kept m s t) : Kept m s (modChan ch f t) := kept_pos h

theorem kept_recomputeMeasured (h : Kept m s t) : Kept m s (recomputeMeasured t) :=
  kept_ite (fun _ => kept_modPos (kept_modPos h)) fun _ => kept_ite (fun _ => kept_modPos (kept_modPos h)) fun _ => kept_modPos h

theorem kept_announceCrossing {a : State} (h : Kept m s t) : Kept m s (announceCrossing a t) :=
  kept_ite (fun _ => h) fun _ => kept_announce (kept_announce h)

theorem kept_announceStandstill {a : State} (h : Kept m s t) : Kept m s (announceStandstill a t) :=
  kept_ite (fun _ => h) fun _ => kept_evalLinkCause h

theorem kept_endDiscrepancy (h : Kept m s t) : Kept m s (endDiscrepancy t) := kept_levelCause (kept_modPos h)

theorem kept_discrepancyTest (h : Kept m s t) : Kept m s (discrepancyTest t) := by
  unfold discrepancyTest
  split
  · exact kept_ite (fun _ => kept_ite (fun _ => kept_modPos h) fun _ => h) fun _ => kept_endDiscrepancy h
  · exact kept_endDiscrepancy h

theorem kept_evalSlipCause (h : Kept m s t) : Kept m s (evalSlipCause t) := kept_levelCause h
theorem kept_endSlip {k : CarId} (h : Kept m s t) : Kept m s (endSlip k t) := kept_evalSlipCause (kept_modCar h)

theorem kept_slipTest {k : CarId} (h : Kept m s t) : Kept m s (slipTest k t) := by
  refine kept_ite (fun _ => h) fun _ => ?_
  split
  · exact kept_ite (fun _ => kept_ite (fun _ => kept_modCar h) fun _ => h) fun _ => kept_endSlip h
  · exact kept_endSlip h

theorem kept_endSampleLoss (h : Kept m s t) : Kept m s (endSampleLoss t) := kept_levelCause (kept_modPos h)

theorem kept_addTravel {d : Travel} (h : Kept m s t) : Kept m s (addTravel d t) := kept_modCar (kept_modCar (kept_modPos h))

theorem kept_takeSample {p : SampleP} (h : Kept m s t) : Kept m s (takeSample p t) := by
  refine kept_ite (fun _ => ?_) fun _ => kept_ite (fun _ => kept_modChan h) fun _ => ?_
  · refine kept_announceIf (kept_announceCrossing (kept_announceStandstill ?_))
    refine kept_when (fun u => slipTest .car2 (slipTest .car1 u)) (fun hu => kept_slipTest (kept_slipTest hu)) (kept_discrepancyTest ?_)
    refine kept_when endSampleLoss kept_endSampleLoss (kept_recomputeMeasured ?_)
    exact kept_when (addTravel _) kept_addTravel (kept_modChan (kept_modChan h))
  · exact kept_announceCrossing (kept_announceStandstill (kept_discrepancyTest (kept_recomputeMeasured (kept_modChan h))))

end
end Sys2Proof.Machine
end

section
/-!
PROOFS. What every step keeps, continued: the position unit's events, the gate unit with its windows and its validation queue
(R143, R146, R151), and the sequencers.
-/

namespace Sys2Proof.Machine

section
variable {m : Replaced} {s t : State}

/-! ## Position unit: events and reports (chapter 1) -/

theorem kept_channelSilenceExpires {ch : Channel} (h : Kept m s t) : Kept m s (channelSilenceExpires ch t) := by
  refine kept_ite (fun _ => h) fun _ => kept_ite (fun _ => ?_) fun _ => kept_modChan h
  exact kept_announceCrossing (kept_announceStandstill (kept_discrepancyTest (kept_recomputeMeasured (kept_modChan h))))

theorem kept_standstillTimerExpires (h : Kept m s t) : Kept m s (standstillTimerExpires t) :=
  kept_ite (fun _ => h) fun _ => kept_announce (kept_evalLinkCause (kept_modPos h))

theorem kept_sampleLossBegins (h : Kept m s t) : Kept m s (sampleLossBegins t) :=
  kept_ite (fun _ => h) fun _ => kept_when (levelCause .SAMPLE_LOSS true) kept_levelCause (kept_occur (kept_modPos h))

theorem kept_discrepancyBegins (h : Kept m s t) : Kept m s (discrepancyBegins t) :=
  kept_ite (fun _ => h) fun _ => kept_levelCause (kept_occur (kept_modPos h))

theorem kept_slipBegins {k : CarId} (h : Kept m s t) : Kept m s (slipBegins k t) :=
  kept_ite (fun _ => h) fun _ => kept_evalSlipCause (kept_occur (kept_modCar h))

theorem kept_announceCorrection (h : Kept m s t) : Kept m s (announceCorrection t) := kept_announce (kept_announce h)

theorem kept_positionFault {who : CarId → Bool} (h : Kept m s t) : Kept m s (positionFault who t) := by
  have lose : ∀ (k : CarId) {u : State}, Kept m s u →
      Kept m s (if who k then modCar k (fun c => { c with referenced := false, lastMarker := none }) u else u) :=
    fun k _ hu => kept_when _ kept_modCar hu
  exact kept_announce (kept_raiseEvent (kept_occur (lose .car2 (lose .car1 h))))

theorem kept_pairCheck (h : Kept m s t) : Kept m s (pairCheck t) :=
  kept_ite (fun _ => kept_ite (fun _ => kept_positionFault h) fun _ => h) fun _ => h

theorem kept_takeMarker {k : CarId} {id : Nat} {kind : MarkerKind} {mm : Int} (h : Kept m s t) :
    Kept m s (takeMarker k id kind mm t) := by
  refine kept_ite (fun _ => kept_ite (fun _ => ?_) fun _ => ?_) fun _ => kept_ite (fun _ => h) fun _ =>
    kept_ite (fun _ => kept_positionFault h) fun _ => ?_
  · exact kept_pairCheck (kept_announceCorrection (kept_modCar h))
  · exact kept_pairCheck (kept_announceCorrection (kept_modCar (kept_modCar h)))
  · exact kept_pairCheck (kept_announceCorrection (kept_modCar h))

theorem kept_takeMarkerField {p : CarReportP} (h : Kept m s t) : Kept m s (takeMarkerField p t) := by
  unfold takeMarkerField
  split
  · exact kept_takeMarker h
  · exact h

theorem kept_loss (h : Kept m s t) (l : PerCar Bool) : Kept m s { t with brake := { t.brake with lossInForce := l } } :=
  kept_brake_same h rfl rfl rfl rfl rfl rfl

theorem kept_takeCarReport {p : CarReportP} (h : Kept m s t) : Kept m s (takeCarReport p t) :=
  kept_carHeardByReport (kept_slipTest (kept_takeMarkerField (kept_evalLinkCause (kept_loss (kept_modCar h) _))))

theorem kept_reportTimerExpires {k : CarId} (h : Kept m s t) : Kept m s (reportTimerExpires k t) :=
  kept_ite (fun _ => h) fun _ =>
    kept_doorLinkLost (kept_evalLinkCause (kept_loss (kept_occur (kept_endSlip (kept_modCar h))) _))

theorem kept_loadExpires {k : CarId} (h : Kept m s t) : Kept m s (loadExpires k t) := kept_ite (fun _ => h) fun _ => kept_modCar h

theorem kept_positionTakesGroupB {old new : GroupB} (h : Kept m s t) : Kept m s (positionTakesGroupB old new t) := by
  have empty : ∀ (ch : Channel) {u : State}, Kept m s u →
      Kept m s (if channelSettings old ch = channelSettings new ch then u else modChan ch (fun c => { c with window := [] }) u) :=
    fun _ _ hu => kept_ite (fun _ => hu) fun _ => kept_modChan hu
  have tell : ∀ {u : State} {c : Prop} [Decidable c], Kept m s u → Kept m s (if c then u else
      announceCrossing t (announceStandstill t (discrepancyTest (recomputeMeasured u)))) := fun hu =>
    kept_ite (fun _ => hu) fun _ => kept_announceCrossing (kept_announceStandstill (kept_discrepancyTest (kept_recomputeMeasured hu)))
  exact kept_ite (fun _ => tell (empty .B (empty .A h))) fun _ => kept_modCar (kept_modCar (tell (empty .B (empty .A h))))

/-! ## Gate unit: boarding windows (R141 to R143) -/

/-- The room of a window record holds what is admitted and reserved (R143). -/
def roomKept (w : Window) : Prop := w.admitted + w.reserved ≤ w.capacity - w.base

theorem windowsWithinRoom_iff (s : State) :
    windowsWithinRoom s = true ↔ ∀ h w, s.gates.windows.get h = some w → roomKept w := by
  simp only [windowsWithinRoom, List.all_eq_true, Vector.mem_toList_iff, Vector.mem_iff_getElem, roomKept]
  constructor
  · intro hs h w hw
    simpa using hs (some w) ⟨h.1, h.2, hw⟩
  · rintro hs (_ | w) ⟨i, hi, hx⟩
    · rfl
    · simpa using hs ⟨i, hi⟩ w hx

/-- New windows that stay within their room where the old ones did. -/
theorem kept_windows (h : Kept m s t) {v : Vector (Option Window) 6}
    (hv : (∀ x w, t.gates.windows.get x = some w → roomKept w) → ∀ x w, v.get x = some w → roomKept w) :
    Kept m s { t with gates := { t.gates with windows := v } } :=
  kept_gates h id (fun _ => id) fun hs => (windowsWithinRoom_iff _).mpr (hv ((windowsWithinRoom_iff _).mp hs))

theorem kept_modWindow {x : Halt} {f : Window → Window}
    (hf : ∀ w, t.gates.windows.get x = some w → roomKept w → roomKept (f w)) (h : Kept m s t) : Kept m s (modWindow x f t) := by
  refine kept_windows h fun hv y w hw => ?_
  by_cases hy : y = x
  · subst hy
    rw [vmod_get_self, Option.map_eq_some_iff] at hw
    obtain ⟨w0, hw0, rfl⟩ := hw
    exact hf w0 hw0 (hv _ _ hw0)
  · rw [vmod_get_ne _ _ hy] at hw
    exact hv _ _ hw

theorem kept_openWindow {x : Halt} (h : Kept m s t) : Kept m s (openWindow x t) := by
  unfold openWindow
  split
  · refine kept_windows h fun hv y w hw => ?_
    by_cases hy : y = x
    · subst hy
      rw [vset_get_self] at hw
      cases hw
      exact Nat.zero_le _
    · rw [vset_get_ne _ _ hy] at hw
      exact hv _ _ hw
  · exact kept_modWindow (fun _ _ => id) h

/-! ## Gate unit: modes and the cache (R139, R144) -/

/-- A gate unit whose windows and validation queue stay. -/
theorem kept_modGates_same {f : GateUnit → GateUnit} (hq : (f t.gates).queue = t.gates.queue)
    (hw : (f t.gates).windows = t.gates.windows) (h : Kept m s t) : Kept m s (modGates f t) :=
  h.of_same rfl rfl rfl hq hw rfl rfl rfl

theorem kept_orderMode {g : GateId} (h : Kept m s t) : Kept m s (orderMode g t) := by
  unfold orderMode
  exact kept_modGates_same rfl rfl (kept_sendGate h)

theorem kept_updateMode {g : GateId} (h : Kept m s t) : Kept m s (updateMode g t) := kept_when (orderMode g) kept_orderMode h

theorem kept_updateModesOf {p : GateId → Bool} (h : Kept m s t) : Kept m s (updateModesOf p t) :=
  kept_foldl (fun _ g => kept_when (updateMode g) kept_updateMode) _ h

theorem kept_updateModes (h : Kept m s t) : Kept m s (updateModes t) := kept_updateModesOf h

theorem kept_hearGate {g : GateId} (h : Kept m s t) : Kept m s (hearGate g t) :=
  kept_ite (fun _ => h) fun _ => kept_orderMode (kept_modGates_same rfl rfl h)

/-- The cache's operations leave the queue and the windows. -/
theorem setBankFor_same (a : GroupA) (k : Token) (b : List CacheEntry) (g : GateUnit) :
    (setBankFor a k b g).queue = g.queue ∧ (setBankFor a k b g).windows = g.windows := by
  unfold setBankFor
  split <;> exact ⟨rfl, rfl⟩

theorem cacheTouch_same (a : GroupA) (k : Token) (g : GateUnit) :
    (cacheTouch a k g).queue = g.queue ∧ (cacheTouch a k g).windows = g.windows := by
  unfold cacheTouch
  split
  · exact setBankFor_same ..
  · exact ⟨rfl, rfl⟩

theorem cacheFill_same (a : GroupA) (e : CacheEntry) (g : GateUnit) :
    (cacheFill a e g).queue = g.queue ∧ (cacheFill a e g).windows = g.windows := by
  unfold cacheFill
  dsimp only
  split
  · exact setBankFor_same ..
  · split <;> exact setBankFor_same ..

theorem cacheUpdate_same (a : GroupA) (k : Token) (f : CacheEntry → CacheEntry) (g : GateUnit) :
    (cacheUpdate a k f g).queue = g.queue ∧ (cacheUpdate a k f g).windows = g.windows :=
  setBankFor_same ..

theorem markProvisional_same (a : GroupA) (k : Token) (cls : Nat) (g : GateUnit) :
    (markProvisional a k cls g).queue = g.queue ∧ (markProvisional a k cls g).windows = g.windows := by
  unfold markProvisional
  split
  · exact cacheUpdate_same ..
  · exact cacheFill_same ..

theorem cacheAfterCommit_same (old new : GroupA) (g : GateUnit) :
    (cacheAfterCommit old new g).queue = g.queue ∧ (cacheAfterCommit old new g).windows = g.windows := by
  unfold cacheAfterCommit
  dsimp only
  split <;> exact ⟨rfl, rfl⟩

/-! ## Gate unit: the validation queue (R146, R151) -/

/-- The gates of the entries of a queue in WAIT_PASS. -/
def passGates (q : List VEntry) : List GateId := (q.filter fun v => v.state == .WAIT_PASS).map VEntry.gate

theorem passGates_nodup_iff (q : List VEntry) :
    (passGates q).Nodup ↔ q.Pairwise fun x y => x.state = .WAIT_PASS → y.state = .WAIT_PASS → x.gate ≠ y.gate := by
  simp only [passGates, List.Nodup, List.pairwise_map, List.pairwise_filter, beq_iff_eq]

/-- A new queue with at most one entry in a place and of a gate in WAIT_PASS where the old one was so. -/
theorem kept_queue (h : Kept m s t) {q : List VEntry} {b0 b1 : List CacheEntry}
    (hs : (t.gates.queue.map VEntry.slot).Nodup → (q.map VEntry.slot).Nodup)
    (hp : (t.gates.queue.map VEntry.slot).Nodup → (passGates t.gates.queue).Nodup → (passGates q).Nodup) :
    Kept m s { t with gates := { t.gates with queue := q, bank0 := b0, bank1 := b1 } } := by
  refine kept_gates h ?_ ?_ id
  · simp only [slotsDistinct, decide_eq_true_eq]; exact hs
  · simp only [slotsDistinct, onePassPerGate, decide_eq_true_eq]; exact hp

/-- Entries changed in their places, none to another gate, and none to WAIT_PASS beside another one of its gate there (R146, R151). -/
theorem kept_mapQueue {f : VEntry → VEntry} (hslot : ∀ v, (f v).slot = v.slot) (hgate : ∀ v, (f v).gate = v.gate)
    (hst : (t.gates.queue.map VEntry.slot).Nodup → ∀ x ∈ t.gates.queue, ∀ y ∈ t.gates.queue, x.slot ≠ y.slot → x.gate = y.gate →
      (f x).state = .WAIT_PASS → (f y).state = .WAIT_PASS → x.state = .WAIT_PASS ∧ y.state = .WAIT_PASS) (h : Kept m s t) :
    Kept m s (modGates (fun u => { u with queue := u.queue.map f }) t) := by
  refine kept_queue h (b0 := t.gates.bank0) (b1 := t.gates.bank1) (fun hs => ?_) (fun hs hp => ?_)
  · simpa only [List.map_map, Function.comp_def, hslot] using hs
  · rw [passGates_nodup_iff] at hp ⊢
    refine List.pairwise_map.mpr ((hp.and (List.pairwise_map.mp hs)).imp_of_mem fun {x y} hx hy ⟨hxy, hne⟩ hfx hfy => ?_)
    rw [hgate, hgate]
    intro e
    obtain ⟨hx, hy⟩ := hst hs x hx y hy hne e hfx hfy
    exact hxy hx hy e

/-- What changes of an entry in one place of the queue, its place and its gate staying. -/
theorem modEntry_fields {i : SlotId} {f : VEntry → VEntry} (hslot : ∀ v, (f v).slot = v.slot) (hgate : ∀ v, (f v).gate = v.gate)
    (v : VEntry) : (if v.slot == i then f v else v).slot = v.slot ∧ (if v.slot == i then f v else v).gate = v.gate := by
  split
  · exact ⟨hslot v, hgate v⟩
  · exact ⟨rfl, rfl⟩

theorem kept_modEntry {i : SlotId} {f : VEntry → VEntry} (hslot : ∀ v, (f v).slot = v.slot) (hgate : ∀ v, (f v).gate = v.gate)
    (hst : ∀ v, (f v).state ≠ .WAIT_PASS) (h : Kept m s t) : Kept m s (modGates (modEntry i f) t) := by
  have stays : ∀ v : VEntry, (if v.slot == i then f v else v).state = .WAIT_PASS → v.state = .WAIT_PASS := by
    intro v hv
    split at hv
    · exact absurd hv (hst v)
    · exact hv
  exact kept_mapQueue (fun v => (modEntry_fields hslot hgate v).1) (fun v => (modEntry_fields hslot hgate v).2)
    (fun _ x _ y _ _ _ hx hy => ⟨stays x hx, stays y hy⟩) h

/-- An entry in a free place (R146). -/
theorem kept_addEntry {v : VEntry} {f : GateUnit → GateUnit} (hfree : freeSlot t.gates = some v.slot)
    (hst : v.state ≠ .WAIT_PASS) (hf : ∀ g, (f g).queue = g.queue ∧ (f g).windows = g.windows) (h : Kept m s t) :
    Kept m s (modGates (fun u => f { u with queue := u.queue ++ [v] }) t) := by
  have h1 : Kept m s (modGates (fun u => { u with queue := u.queue ++ [v] }) t) := by
    refine kept_queue h (b0 := t.gates.bank0) (b1 := t.gates.bank1) (fun hs => ?_) (fun hs hp => ?_)
    · have hno := List.find?_some hfree
      simp only [Bool.not_eq_true', List.any_eq_false, beq_iff_eq] at hno
      rw [List.map_append, List.nodup_append]
      refine ⟨hs, List.nodup_singleton _, fun a ha b hb => ?_⟩
      obtain ⟨x, hx, rfl⟩ := List.mem_map.mp ha
      rw [List.mem_singleton.mp hb]
      exact hno x hx
    · simp only [passGates, List.filter_append] at hp ⊢
      rw [List.filter_cons_of_neg (by simpa using hst)]
      simpa using hp
  exact kept_modGates_same (t := modGates (fun u => { u with queue := u.queue ++ [v] }) t) (hf _).1 (hf _).2 h1

theorem kept_freeEntry {v : VEntry} (h : Kept m s t) : Kept m s (modGates (freeEntry v) t) := by
  obtain ⟨b0, b1, e⟩ := freeEntry_fields v t.gates
  unfold modGates
  rw [e]
  refine kept_queue h (fun hs => ?_) (fun _ hp => ?_)
  · exact hs.sublist (List.filter_sublist.map _)
  · exact hp.sublist ((List.filter_sublist.filter _).map _)

theorem kept_sendRefusal {g : GateId} {n : Byte} {r : GateReason} {sr : Byte} (h : Kept m s t) : Kept m s (sendRefusal g n r sr t) :=
  kept_modGates_same (t := sendGate g _ t) rfl rfl (kept_sendGate h)

/-- The delivery of an ADMIT: where no entry of its gate is in WAIT_PASS, this one becomes the only one (R151). -/
theorem kept_admitOne {v : VEntry} {d : Timer} (hv : v ∈ t.gates.queue)
    (hno : ∀ x ∈ t.gates.queue, x.gate = v.gate → x.state ≠ .WAIT_PASS) (h : Kept m s t) :
    Kept m s (modGates (modEntry v.slot fun x => { x with state := .WAIT_PASS, deadline := d }) t) := by
  have stays := modEntry_fields (i := v.slot) (f := fun x => { x with state := .WAIT_PASS, deadline := d }) (fun _ => rfl) fun _ => rfl
  refine kept_mapQueue (fun x => (stays x).1) (fun x => (stays x).2) (fun hs x hx y hy hne e hfx hfy => ?_) h
  have only : ∀ z ∈ t.gates.queue, z.slot = v.slot → z = v := fun z hz ez => List.inj_on_of_nodup_map hs hz hv ez
  by_cases hxv : x.slot = v.slot
  · have hyv : ¬ y.slot = v.slot := fun ey => hne (hxv.trans ey.symm)
    rw [if_neg (by simpa using hyv)] at hfy
    exact absurd hfy (hno y hy (by rw [← e, only x hx hxv]))
  · rw [if_neg (by simpa using hxv)] at hfx
    by_cases hyv : y.slot = v.slot
    · exact absurd hfx (hno x hx (by rw [e, only y hy hyv]))
    · rw [if_neg (by simpa using hyv)] at hfy
      exact ⟨hfx, hfy⟩

theorem kept_deliverGo {g : GateId} {n : Nat} (h : Kept m s t) : Kept m s (deliverGo g n t) := by
  induction n generalizing t with
  | zero => exact h
  | succ n ih =>
    unfold deliverGo
    split
    next => exact h
    next hno =>
      split
      next => exact h
      next v hfind =>
        have hv : v ∈ t.gates.queue := List.mem_of_find?_eq_some hfind
        have hg : v.gate = g := by
          have := List.find?_some hfind
          simp only [Bool.and_eq_true, beq_iff_eq] at this
          exact this.1
        have hno : ∀ x ∈ t.gates.queue, x.gate = v.gate → x.state ≠ .WAIT_PASS := by
          intro x hx e
          simp only [Bool.not_eq_true, List.any_eq_false, Bool.and_eq_true, beq_iff_eq] at hno
          exact fun hst => hno x hx ⟨e.trans hg, hst⟩
        refine kept_ite (fun _ => ?_) fun _ => h
        split
        · obtain ⟨p, e⟩ := sendGate_fields g (.gateAdmitOne v.number) t
          have hsend := kept_sendGate (g := g) (c := .gateAdmitOne v.number) h
          rw [e] at hsend ⊢
          exact kept_admitOne hv hno hsend
        · exact ih (kept_freeEntry (kept_sendRefusal h))
        · exact h

theorem kept_deliver {g : GateId} (h : Kept m s t) : Kept m s (deliver g t) := kept_deliverGo h

/-! ## Gate unit: decisions and requests (R147 to R153) -/

theorem haltBudget_eq {x : Halt} {w : Window} (hw : t.gates.windows.get x = some w) : haltBudget t x = windowBudget w := by
  simp only [haltBudget, hw]

/-- An admission takes a reservation only from a budget (R150). -/
theorem kept_takeVerdict {v : VEntry} {x : Verdict} {by_ : DecidedBy} (h : Kept m s t) : Kept m s (takeVerdict v x by_ t) := by
  refine kept_modEntry (fun _ => rfl) (fun _ => rfl) (fun _ => by simp) (kept_ite (fun hy => ?_) fun _ => h)
  refine kept_modWindow (fun w hw hroom => ?_) h
  have hb : 0 < haltBudget t v.halt := by
    unfold budgetVerdict at hy
    split at hy
    · split at hy
      next hb => exact hb
      next => cases hy
    · cases hy
  rw [haltBudget_eq hw, windowBudget] at hb
  unfold roomKept at hroom ⊢
  dsimp only
  omega

theorem kept_decideHit {v : VEntry} {e : CacheEntry} {by_ : DecidedBy} (h : Kept m s t) : Kept m s (decideHit v e by_ t) :=
  kept_deliver (kept_takeVerdict h)

theorem kept_decideOffline {v : VEntry} (h : Kept m s t) : Kept m s (decideOffline v t) :=
  kept_deliver (kept_when (modGates _) (kept_modGates_same (markProvisional_same ..).1 (markProvisional_same ..).2)
    (kept_takeVerdict h))

theorem kept_refuseRequest {g : GateId} {p : GateRequestP} {r : GateReason} (h : Kept m s t) : Kept m s (refuseRequest g p r t) := by
  refine kept_ite (fun _ => ?_) fun _ => kept_sendRefusal h
  split
  next => exact h
  next hfree => exact kept_addEntry (f := id) hfree (by simp) (fun _ => ⟨rfl, rfl⟩) h

theorem kept_sendQuery {v : VEntry} (h : Kept m s t) : Kept m s (sendQuery v t) :=
  kept_sendNormal (kept_modGates_same rfl rfl h)

theorem kept_handleMiss {v : VEntry} (h : Kept m s t) : Kept m s (handleMiss v t) := by
  refine kept_ite (fun _ => kept_sendQuery (kept_decideOffline h)) fun _ => ?_
  split
  · exact kept_modEntry (fun _ => rfl) (fun _ => rfl) (fun _ => by simp) h
  · exact kept_modEntry (fun _ => rfl) (fun _ => rfl) (fun _ => by simp) (kept_sendQuery h)

theorem kept_admitRequest {g : GateId} {p : GateRequestP} {i : SlotId} (hfree : freeSlot t.gates = some i) (h : Kept m s t) :
    Kept m s (admitRequest g p i t) := by
  have h1 : ∀ v : VEntry, v.slot = i → v.state = .ASKING →
      Kept m s (modGates (fun u => cacheTouch t.active.a p.token { u with queue := u.queue ++ [v] }) t) := fun v hi hv =>
    kept_addEntry (f := cacheTouch t.active.a p.token) (hi ▸ hfree) (by simp [hv]) (cacheTouch_same _ _) h
  unfold admitRequest
  dsimp only
  split
  · exact kept_ite (fun _ => kept_decideHit (h1 _ rfl rfl)) fun _ => kept_handleMiss (h1 _ rfl rfl)
  · exact kept_handleMiss (h1 _ rfl rfl)

theorem kept_takeGateRequest {g : GateId} {p : GateRequestP} (h : Kept m s t) : Kept m s (takeGateRequest g p t) := by
  refine kept_ite (fun _ => kept_sendRefusal h) fun _ => kept_ite (fun _ => h) fun _ => kept_ite (fun _ => kept_refuseRequest h) fun _ =>
    kept_ite (fun _ => kept_refuseRequest h) fun _ => kept_ite (fun _ => kept_refuseRequest h) fun _ => ?_
  split
  next => exact kept_refuseRequest (kept_occur h)
  next hfree => exact kept_admitRequest hfree h

theorem kept_takeFareAnswer {p : FareAnswerP} (h : Kept m s t) : Kept m s (takeFareAnswer p t) := by
  have fill : ∀ c : GateUnit → GateUnit, (∀ g, (c g).queue = g.queue ∧ (c g).windows = g.windows) →
      Kept m s (modGates (fun u => { c u with timeouts := 0, serverLost := false }) t) := fun c hc =>
    kept_modGates_same (hc _).1 (hc _).2 h
  have h1 := fill (cacheFill t.active.a (answeredEntry t p)) (cacheFill_same _ _)
  unfold takeFareAnswer
  dsimp only
  split
  · exact h1
  · exact kept_foldl (fun _ _ => kept_decideHit) _ h1

theorem kept_fareDeadlineExpires {i : SlotId} (h : Kept m s t) : Kept m s (fareDeadlineExpires i t) := by
  unfold fareDeadlineExpires
  split
  · exact h
  · refine kept_ite (fun _ => kept_foldl (fun _ _ => kept_decideOffline) _ (kept_ite (fun _ => ?_) fun _ => ?_)) fun _ => h
    · exact kept_occur (kept_modGates_same rfl rfl (kept_modGates_same rfl rfl h))
    · exact kept_modGates_same rfl rfl h

/-! ## Gate unit: passages, openings and close-outs (R141, R142, R154 to R156) -/

theorem kept_passageFailed {v : VEntry} (h : Kept m s t) : Kept m s (passageFailed v t) :=
  kept_deliver (kept_freeEntry (kept_modWindow (fun w _ hw => by unfold roomKept at hw ⊢; dsimp only; omega) h))

theorem kept_sendUse {v : VEntry} (h : Kept m s t) : Kept m s (sendUse v t) := by
  unfold sendUse
  split
  · exact kept_sendNormal h
  · exact kept_sendNormal h
  · exact h

/-- A passage admits no more than it takes from what was reserved (R143, R154). -/
theorem roomKept_passed {w : Window} (hw : roomKept w) : roomKept w.passed := by
  unfold roomKept Window.passed at *
  dsimp only
  split <;> omega

theorem kept_passagePassed {v : VEntry} (h : Kept m s t) : Kept m s (passagePassed v t) :=
  kept_deliver (kept_freeEntry (kept_sendUse (kept_modGates_same (cacheUpdate_same ..).1 (cacheUpdate_same ..).2
    (kept_modWindow (fun _ _ => roomKept_passed) h))))

theorem kept_unverifiedPassage {g : GateId} (h : Kept m s t) : Kept m s (unverifiedPassage g t) :=
  kept_updateMode (kept_occur (kept_occur (kept_modGates_same rfl rfl h)))

theorem kept_takeGatePassage {g : GateId} {p : GatePassageP} (h : Kept m s t) : Kept m s (takeGatePassage g p t) := by
  refine kept_ite (fun _ => ?_) fun _ => ?_
  · split
    · exact kept_modGates_same rfl rfl h
    · exact h
  · split
    · exact kept_passagePassed h
    · exact kept_passageFailed h
    · exact kept_unverifiedPassage h
    · exact h

theorem kept_passDeadlineExpires {i : SlotId} (h : Kept m s t) : Kept m s (passDeadlineExpires i t) := by
  unfold passDeadlineExpires
  split
  · exact h
  · exact kept_ite (fun _ => kept_passageFailed h) fun _ => h

theorem kept_clearGate {g : GateId} (h : Kept m s t) : Kept m s (clearGate g t) := kept_updateMode (kept_modGates_same rfl rfl h)

/-- A close-out leaves an entry its place and its gate, and takes none to WAIT_PASS (R156). -/
theorem entryAfterCloseOut_fields (hs : Halt → Bool) (q : List VEntry) (v : VEntry) :
    (entryAfterCloseOut hs q v).slot = v.slot ∧ (entryAfterCloseOut hs q v).gate = v.gate ∧
      ((entryAfterCloseOut hs q v).state = .WAIT_PASS → v.state = .WAIT_PASS) := by
  unfold entryAfterCloseOut
  split
  · exact ⟨rfl, rfl, by simp⟩
  · split
    · exact ⟨rfl, rfl, id⟩
    · split
      · split
        · split
          · exact ⟨rfl, rfl, by simp⟩
          · exact ⟨rfl, rfl, id⟩
        · exact ⟨rfl, rfl, id⟩
      · exact ⟨rfl, rfl, id⟩

theorem kept_closeOut {hs : Halt → Bool} (h : Kept m s t) : Kept m s (closeOut hs t) := by
  refine kept_foldl (fun _ _ => kept_deliver) _ ?_
  have close : ∀ (u : State) (x : Halt), Kept m s u →
      Kept m s (if hs x then modWindow x (fun w => { w with isOpen := false }) u else u) :=
    fun _ x hu => kept_when (modWindow x _) (kept_modWindow fun _ _ => id) hu
  have release : ∀ (q : List VEntry) (u : State) (x : Halt), Kept m s u →
      Kept m s (if hs x then modWindow x (fun w => { w with reserved := w.reserved - releasedAt q x }) u else u) :=
    fun q _ x hu => kept_when (modWindow x _) (kept_modWindow fun w _ hw => by unfold roomKept at hw ⊢; dsimp only; omega) hu
  have hq : ∀ (q : List VEntry) (u : State) (l : List Halt), (l.foldl
      (fun s h => if hs h then modWindow h (fun w => { w with reserved := w.reserved - releasedAt q h }) s else s) u).gates.queue =
      u.gates.queue := by
    intro q u l
    induction l generalizing u with
    | nil => rfl
    | cons x xs ih => rw [List.foldl_cons, ih]; split <;> rfl
  have h3 := fun p q => kept_foldl (release q) allHalts (kept_updateModesOf (p := p) (kept_foldl close allHalts h))
  have hmap : ∀ (u : State) (q : List VEntry), u.gates.queue = q → Kept m s u →
      Kept m s (modGates (fun g => { g with queue := q.map (entryAfterCloseOut hs q) }) u) := by
    rintro u q rfl hu
    have stays := fun v => (entryAfterCloseOut_fields hs u.gates.queue v).2.2
    exact kept_mapQueue (fun v => (entryAfterCloseOut_fields hs _ v).1) (fun v => (entryAfterCloseOut_fields hs _ v).2.1)
      (fun _ x _ y _ _ _ hx hy => ⟨stays x hx, stays y hy⟩) hu
  exact hmap _ _ (hq ..) (h3 _ _)

theorem kept_gateTakesTrip {lost gained : BitVec 6} {left : Bool} (h : Kept m s t) : Kept m s (gateTakesTrip lost gained left t) := by
  refine kept_updateModes (kept_foldl (fun _ x => kept_when (openWindow x) kept_openWindow) _ ?_)
  exact kept_ite (fun _ => kept_closeOut h) fun _ => kept_ite (fun _ => kept_closeOut h) fun _ => h

theorem kept_gateTakesOutputs {x : Halt} {rose fell : Bool} (h : Kept m s t) : Kept m s (gateTakesOutputs x rose fell t) :=
  kept_updateModes (kept_when (openWindow x) kept_openWindow (kept_when (closeOut _) kept_closeOut h))

theorem kept_gateEntersRunning (h : Kept m s t) : Kept m s (gateEntersRunning t) := by
  refine kept_windows (kept_closeOut h) fun _ x w hw => ?_
  simp [Vector.get_eq_getElem] at hw

theorem kept_gateTakesGroupA {old new : GroupA} (h : Kept m s t) : Kept m s (gateTakesGroupA old new t) :=
  kept_updateModes (kept_modGates_same (cacheAfterCommit_same ..).1 (cacheAfterCommit_same ..).2 h)

end
end Sys2Proof.Machine
end

section
/-!
PROOFS. What every step keeps, concluded: the sequencers, the trip sequencer with its stop plan (R77), announcements, management,
the commands, and the statements O1, O52 to O58 and O60.
-/

namespace Sys2Proof.Machine

section
variable {m : Replaced} {s t : State}

/-! ## Platform sequencers (chapter 7) -/

theorem kept_modSeq {q : Halt} {f : SeqRecord → SeqRecord} (h : Kept m s t) : Kept m s (modSeq q f t) := kept_seqs h

theorem kept_giveUserEvents {q : Halt} {old new : Byte} (h : Kept m s t) : Kept m s (giveUserEvents q old new t) :=
  kept_foldl (fun _ _ hu => kept_ite (fun _ => hu) fun _ => kept_ite (fun _ => kept_giveEvent hu) fun _ => kept_giveEvent hu) _ h

/-- What the sequencers tell the trip sequencer keeps what every step keeps. -/
abbrev TellKeeps (tell : Halt → Byte → State → State) : Prop :=
  ∀ q b {m : Replaced} {s t : State}, Kept m s t → Kept m s (tell q b t)

variable {tell : Halt → Byte → State → State}

theorem kept_publish (ht : TellKeeps tell) {q : Halt} (h : Kept m s t) : Kept m s (publish tell q t) := by
  refine kept_ite (fun _ => h) fun _ => kept_giveUserEvents (kept_watch (ht _ _ ?_))
  refine kept_when (watch _) (fun hu => kept_watch (kept_gateTakesOutputs hu)) ?_
  exact kept_ite (fun _ => kept_foldl (fun _ _ hu => kept_watch (kept_doorEvaluation hu)) _ (kept_modSeq h)) fun _ => kept_modSeq h

theorem kept_seqPass (ht : TellKeeps tell) {levels : Vector (BitVec 32) 6} {fresh : Bool} {q : Halt} (h : Kept m s t) :
    Kept m s (seqPass tell levels fresh q t) :=
  kept_publish ht (kept_when (occur _) kept_occur (kept_watch (kept_modSeq h)))

theorem kept_answerGo (ht : TellKeeps tell) {levels : Vector (BitVec 32) 6} {n : Nat} {due done : List Halt} (h : Kept m s t) :
    Kept m s (answerGo tell levels n due done t) := by
  induction n generalizing due done t with
  | zero => exact h
  | succ n ih =>
    cases due with
    | nil => exact h
    | cons q rest => exact ih (kept_seqPass ht h)

theorem kept_answerOutside (ht : TellKeeps tell) {changed : Vector (BitVec 32) 6} {due : BitVec 6} (h : Kept m s t) :
    Kept m s (answerOutside tell changed due t) :=
  kept_answerGo ht h

theorem tellNothing_keeps : TellKeeps tellNothing := fun _ _ _ _ _ h => h

theorem kept_stateTimerExpires {q : Halt} (h : Kept m s t) : Kept m s (stateTimerExpires q t) :=
  kept_ite (fun _ => kept_announce (kept_modSeq h)) fun _ => h

theorem kept_applyGroupA (h : Kept m s t) : Kept m s (applyGroupA t) := by
  have h1 : Kept m s { t with
      active := { t.active with a := t.staged.a }
      mgmt := { t.mgmt with commitA := ⟨false, .OK⟩ } } :=
    h.of_same rfl rfl rfl rfl rfl rfl rfl rfl
  exact kept_gateTakesGroupA (kept_pulses (kept_answerOutside tellNothing_keeps (kept_foldl (fun _ _ => kept_modSeq) _ (kept_occur h1))))

theorem kept_applyPendingA (h : Kept m s t) : Kept m s (applyPendingA t) := kept_when applyGroupA kept_applyGroupA h

/-! ## Trip sequencer: the stop plan (R77 to R79) -/

/-- A well-formed plan: at most 9 stops, no pair twice (R77). -/
def planFine (plan : List Stop) : Prop := plan.length ≤ 9 ∧ (planPairs plan).Nodup

theorem planOk_iff (s : State) : planOk s = true ↔ planFine s.trip.plan := by
  simp only [planOk, Bool.and_eq_true, decide_eq_true_eq, planFine]

theorem planFine_nil : planFine [] := ⟨Nat.zero_le _, List.nodup_nil⟩

theorem planPairs_append (a b : List Stop) : planPairs (a ++ b) = planPairs a ++ planPairs b := by
  simp only [planPairs, List.flatMap_append, List.map_append]

theorem planPairs_cons (st : Stop) (l : List Stop) : planPairs (st :: l) = planPairs [st] ++ planPairs l :=
  planPairs_append [st] l

/-- The pairs of fewer stops, in the same order. -/
theorem planPairs_sublist {a b : List Stop} (h : a.Sublist b) : (planPairs a).Sublist (planPairs b) := by
  induction h with
  | slnil => exact .slnil
  | cons x _ ih => rw [planPairs_cons x]; exact ih.trans (List.sublist_append_right ..)
  | @cons_cons a b x _ ih => rw [planPairs_cons x a, planPairs_cons x b]; exact ih.append_left _

theorem planFine_sublist {a b : List Stop} (h : a.Sublist b) (hb : planFine b) : planFine a :=
  ⟨h.length_le.trans hb.1, hb.2.sublist (planPairs_sublist h)⟩

theorem planPairs_perm {a b : List Stop} (h : a.Perm b) : (planPairs a).Perm (planPairs b) :=
  (h.flatMap_right _).map _

/-- A plan without a pair has no more stops, and no other pairs (R79, R82). -/
theorem planWithout_pairs (k : CarId) (x : Halt) (plan : List Stop) :
    (planWithout k x plan).length ≤ plan.length ∧ (planPairs (planWithout k x plan)).Sublist (planPairs plan) ∧
      (k, x) ∉ planPairs (planWithout k x plan) := by
  have key : (planWithout k x plan).flatMap stopPairs =
      (plan.flatMap stopPairs).filter fun p => !((p.car == k) && (p.halt == x)) := by
    rw [List.flatMap_def, planWithout_map_stopPairs, List.flatten_filter_ne_nil, ← List.filter_flatten, List.flatMap_def]
  refine ⟨List.length_filterMap_le .., ?_, fun hm => ?_⟩
  · rw [planPairs, key]
    exact List.filter_sublist.map _
  · rw [planPairs, key] at hm
    obtain ⟨p, hp, e⟩ := List.mem_map.mp hm
    have := (List.mem_filter.mp hp).2
    simp only [Prod.mk.injEq] at e
    simp [e.1, e.2] at this

theorem planFine_without {k : CarId} {x : Halt} {plan : List Stop} (h : planFine plan) : planFine (planWithout k x plan) := by
  obtain ⟨hl, hs, -⟩ := planWithout_pairs k x plan
  exact ⟨hl.trans h.1, h.2.sublist hs⟩

/-- A stop behind a plan of at most 8 stops that holds none of its pairs. -/
theorem planFine_concat {plan : List Stop} {st : Stop} (h : planFine plan) (hl : plan.length ≤ 8)
    (hst : (planPairs [st]).Nodup) (hno : ∀ p ∈ planPairs [st], p ∉ planPairs plan) : planFine (plan ++ [st]) := by
  refine ⟨by simp only [List.length_append, List.length_cons, List.length_nil]; omega, ?_⟩
  rw [planPairs_append, List.nodup_append]
  exact ⟨h.2, hst, fun a ha b hb e => hno b hb (e ▸ ha)⟩

theorem planFine_placeTermini {d : Dir} {plan : List Stop} (h : planFine plan) : planFine (placeTermini d plan) := by
  unfold placeTermini
  split
  · exact h
  · have place : ∀ (k k' : CarId) (x x' : Halt), planPairs [terminiStop d] = [(k, x), (k', x')] → k ≠ k' →
        let rest := planWithout k' x' (planWithout k x plan)
        planFine ((if 9 ≤ rest.length then rest.take 8 else rest) ++ [terminiStop d]) := by
      intro k k' x x' hp hk rest
      have hrest : planFine rest := planFine_without (planFine_without h)
      have hno : ∀ p ∈ planPairs [terminiStop d], p ∉ planPairs rest := by
        intro p hm
        rw [hp] at hm
        rcases List.mem_cons.mp hm with rfl | hm
        · exact fun hc => (planWithout_pairs k x plan).2.2 ((planWithout_pairs k' x' _).2.1.subset hc)
        · rw [List.mem_singleton.mp hm]; exact (planWithout_pairs k' x' _).2.2
      have hst : (planPairs [terminiStop d]).Nodup := by rw [hp]; simp [hk]
      split
      · exact planFine_concat (planFine_sublist (List.take_sublist ..) hrest) (List.length_take_le ..) hst
          fun p hm hc => hno p hm ((planPairs_sublist (List.take_sublist ..)).subset hc)
      · exact planFine_concat hrest (by omega) hst hno
    cases d
    · exact place .car1 .car2 1 0 rfl (by decide)
    · exact place .car1 .car2 0 1 rfl (by decide)

/-- Joining changes one stop and adds the pair to it (R78). -/
theorem modifyFirst_pairs {p : Stop → Bool} {x : StopPair} {plan : List Stop} (hp : ∀ st, p st = true → st.second = none)
    (hany : plan.any p = true) :
    (modifyFirst p (fun st => { st with second := some x }) plan).length = plan.length ∧
      (planPairs (modifyFirst p (fun st => { st with second := some x }) plan)).Perm ((x.car, x.halt) :: planPairs plan) := by
  induction plan with
  | nil => cases hany
  | cons y ys ih =>
    unfold modifyFirst
    split
    next hy =>
      refine ⟨rfl, ?_⟩
      rw [planPairs_cons _ ys, planPairs_cons y]
      have e1 : planPairs [{ y with second := some x }] = [(y.first.car, y.first.halt), (x.car, x.halt)] := rfl
      have e2 : planPairs [y] = [(y.first.car, y.first.halt)] := by simp [planPairs, stopPairs, hp y hy]
      rw [e1, e2]
      exact List.Perm.swap ..
    next hy =>
      obtain ⟨hl, hperm⟩ := ih (by simpa [hy] using hany)
      refine ⟨by simp only [List.length_cons, hl], ?_⟩
      rw [planPairs_cons y, planPairs_cons y ys]
      exact (hperm.append_left _).trans List.perm_middle

theorem insertAfterAll_perm {α : Type} (p : α → Bool) (x : α) (l : List α) : (insertAfterAll p x l).Perm (x :: l) := by
  induction l with
  | nil => exact .refl _
  | cons y ys ih =>
    unfold insertAfterAll
    split
    · exact (ih.cons y).trans (.swap ..)
    · exact .refl _

/-- A new pair leaves a well-formed plan (R78). -/
theorem planFine_planWith {x : StopPair} {d : Int} {plan : List Stop} (h : planFine s.trip.plan)
    (hno : (x.car, x.halt) ∉ planPairs s.trip.plan) (hp : planWith s x d = some plan) : planFine plan := by
  unfold planWith at hp
  split at hp
  next hany =>
    cases hp
    obtain ⟨hl, hperm⟩ := modifyFirst_pairs (x := x) (p := joinable s x.car d)
      (fun st hst => by simp only [joinable, Bool.and_eq_true, Option.isNone_iff_eq_none] at hst; exact hst.1.1) hany
    exact ⟨hl.symm ▸ h.1, hperm.nodup_iff.mpr (List.nodup_cons.mpr ⟨hno, h.2⟩)⟩
  next =>
    split at hp
    next => cases hp
    next hroom =>
      cases hp
      have hperm : (insertAfterAll (atOrBefore s d) ⟨x, none⟩ (s.trip.plan.filter fun st => !isTermini st) ++
          s.trip.plan.filter isTermini).Perm (⟨x, none⟩ :: s.trip.plan) :=
        ((insertAfterAll_perm ..).append_right _).trans
          ((List.perm_append_comm.trans (List.filter_append_perm isTermini s.trip.plan)).cons _)
      refine ⟨by rw [hperm.length_eq, List.length_cons]; omega, (planPairs_perm hperm).nodup_iff.mpr ?_⟩
      rw [planPairs_cons]
      exact List.nodup_cons.mpr ⟨hno, h.2⟩

/-! ## Trip sequencer: events (R80 to R98) -/

/-- A new trip record with a well-formed plan where the old one was so. -/
theorem kept_modTrip {f : Trip → Trip} (hf : planFine t.trip.plan → planFine (f t.trip).plan) (h : Kept m s t) :
    Kept m s (modTrip f t) :=
  kept_trip h fun hs => (planOk_iff _).mpr (hf ((planOk_iff _).mp hs))

theorem kept_enterStopping (h : Kept m s t) : Kept m s (enterStopping t) :=
  kept_ite (fun _ => kept_modTrip id h) fun _ => kept_modTrip id h

theorem kept_enterDeparting (h : Kept m s t) : Kept m s (enterDeparting t) := kept_giveEvent (kept_modTrip id h)

theorem kept_enterReady {o : Origin} (h : Kept m s t) : Kept m s (enterReady o t) :=
  kept_when enterDeparting kept_enterDeparting (kept_modTrip id h)

theorem kept_testReady (h : Kept m s t) : Kept m s (testReady t) := kept_ite (fun _ => kept_carry (kept_enterDeparting h)) fun _ => h

theorem kept_callEffect {o : LineAnswer × Option (List Stop)} (ho : ∀ plan, o.2 = some plan → planFine t.trip.plan → planFine plan)
    (h : Kept m s t) : Kept m s (callEffect o t) := by
  unfold callEffect
  split
  next plan e => exact kept_carry (kept_modTrip (ho plan e) h)
  next => exact h

/-- The plan that an accepted call leaves (R78, R80). -/
theorem callOutcome_planFine {k : CarId} {halt : Option Halt} {src : Source} {plan : List Stop}
    (hp : (callOutcome s k halt src).2 = some plan) (h : planFine s.trip.plan) : planFine plan := by
  by_cases hst : takesCalls s.trip.state
  case neg => rw [callOutcome_of_untaken hst] at hp; cases hp
  cases halt with
  | none => rw [callOutcome_of_no_halt hst] at hp; cases hp
  | some x =>
    rw [callOutcome_of_taken hst] at hp
    split at hp; · cases hp
    split at hp; · cases hp
    split at hp; · cases hp
    split at hp; · cases hp
    split at hp; · cases hp
    split at hp; · cases hp
    next hno =>
    split at hp; · cases hp
    have hnot : (k, x) ∉ planPairs s.trip.plan := mt (any_stopHolds_iff ..).mpr hno
    cases hw : planWith s ⟨k, x, src⟩ (pairDistance s k x) with
    | none => rw [hw] at hp; cases hp
    | some p => rw [hw] at hp; cases hp; exact planFine_planWith h hnot hw

theorem kept_cancelEffect {k : CarId} {halt : Option Halt} (h : Kept m s t) : Kept m s (cancelEffect k halt t) := by
  cases halt
  · exact h
  · exact kept_carry (kept_modTrip planFine_without h)

theorem kept_holdSoftEffect (h : Kept m s t) : Kept m s (holdSoftEffect t) :=
  kept_carry (kept_modTrip (planFine_sublist (List.take_sublist ..)) h)

theorem kept_holdHardEffect (h : Kept m s t) : Kept m s (holdHardEffect t) := by
  refine kept_carry (kept_modTrip id ?_)
  split
  · exact kept_modTrip id h
  · exact kept_modTrip id h
  · exact kept_enterStopping h
  · exact h

theorem kept_dispatchEffect (h : Kept m s t) : Kept m s (dispatchEffect t) :=
  kept_carry (kept_ite (fun _ => kept_enterReady (kept_modTrip planFine_placeTermini h)) fun _ => kept_enterReady h)

theorem kept_testAuto (h : Kept m s t) : Kept m s (testAuto t) := kept_when dispatchEffect kept_dispatchEffect h

theorem kept_resumeEffect (h : Kept m s t) : Kept m s (resumeEffect t) := by
  refine kept_carry (kept_enterReady (kept_modTrip (fun hp => ?_) h))
  dsimp only
  split
  · exact planFine_placeTermini hp
  · exact hp

theorem kept_abandonDeparting (h : Kept m s t) : Kept m s (abandonDeparting t) :=
  kept_ite (fun _ => kept_carry (kept_modTrip id h)) fun _ => h

theorem kept_readyTimerExpires (h : Kept m s t) : Kept m s (readyTimerExpires t) :=
  kept_ite (fun _ => kept_occur (kept_carry (kept_modTrip id h))) fun _ => h

theorem kept_torqueTimerExpires (h : Kept m s t) : Kept m s (torqueTimerExpires t) :=
  kept_ite (fun _ => kept_abandonDeparting h) fun _ => h

theorem kept_takeDriveState {p : DriveStateP} (h : Kept m s t) : Kept m s (takeDriveState p t) := by
  have h1 : Kept m s (modTrip (fun t => { t with lastDrive := some p }) t) := kept_modTrip id h
  exact kept_ite (fun _ => kept_ite (fun _ => kept_abandonDeparting h1) fun _ => kept_ite
    (fun _ => kept_requestRelease (kept_modTrip id h1)) fun _ => h1) fun _ => h1

theorem kept_enterRunning (h : Kept m s t) : Kept m s (enterRunning t) :=
  kept_applyPendingA (kept_gateEntersRunning (kept_modTrip id h))

theorem kept_takeReleased (h : Kept m s t) : Kept m s (takeReleased t) := kept_ite (fun _ => kept_carry (kept_enterRunning h)) fun _ => h

theorem kept_takeDemandLost (h : Kept m s t) : Kept m s (takeDemandLost t) :=
  kept_ite (fun _ => kept_carry (kept_enterStopping h)) fun _ => kept_abandonDeparting h

theorem kept_giveBerthed {hs : List Halt} (h : Kept m s t) : Kept m s (giveBerthed hs t) := kept_foldl (fun _ _ => kept_giveEvent) _ h

theorem kept_arriveAt {st : Stop} (h : Kept m s t) : Kept m s (arriveAt st t) := by
  refine kept_giveBerthed (kept_modTrip (fun hp => ?_) h)
  dsimp only
  split
  · exact planFine_nil
  · exact planFine_sublist (List.drop_sublist ..) hp

theorem kept_testArrival (h : Kept m s t) : Kept m s (testArrival t) := by
  unfold testArrival
  split
  · exact h
  · exact kept_ite (fun _ => kept_carry (kept_arriveAt h)) fun _ => h

theorem kept_takeStandstill (h : Kept m s t) : Kept m s (takeStandstill t) := by
  refine kept_testArrival (kept_carry (kept_modTrip (fun hp => ?_) h))
  dsimp only
  split <;> exact hp

theorem kept_berthAndStand (h : Kept m s t) : Kept m s (berthAndStand t) := by
  refine kept_modTrip (fun hp => ?_) h
  dsimp only
  split
  · exact planFine_nil
  · exact hp

theorem kept_recover (h : Kept m s t) : Kept m s (recover t) := by
  have h0 : Kept m s (modTrip (fun t => { t with berth := ⟨none, none⟩ }) t) := kept_modTrip id h
  unfold recover
  dsimp only
  split
  · exact kept_giveBerthed (kept_berthAndStand h0)
  · exact kept_ite (fun _ => kept_arriveAt h0) fun _ => kept_giveBerthed (kept_berthAndStand h0)

theorem kept_takeStage {old new : Stage} (h : Kept m s t) : Kept m s (takeStage old new t) := by
  refine kept_ite (fun _ => kept_ite (fun _ => kept_ite (fun _ => kept_carry (kept_enterStopping h)) fun _ => kept_abandonDeparting h)
    fun _ => kept_ite (fun _ => kept_carry (kept_modTrip id h)) fun _ => h) fun _ => ?_
  exact kept_ite (fun _ => kept_carry (kept_recover h)) fun _ => h

theorem kept_enterServiceEffect (h : Kept m s t) : Kept m s (enterServiceEffect t) :=
  kept_carry (kept_berthAndStand (kept_modTrip (fun _ => planFine_nil) h))

theorem kept_leaveServiceEffect (h : Kept m s t) : Kept m s (leaveServiceEffect t) :=
  kept_carry (kept_applyPendingA (kept_modTrip (fun _ => planFine_nil) h))

theorem kept_setModeEffect {mode : Mode} (h : Kept m s t) : Kept m s (setModeEffect mode t) := kept_carry (kept_modTrip id h)

theorem kept_setFlagEffect {b : Byte} {v : FlagValue} (h : Kept m s t) : Kept m s (setFlagEffect b v t) := by
  unfold setFlagEffect
  split
  · exact kept_modTrip id h
  · exact h

theorem kept_setCapEffect {cap : Nat} (h : Kept m s t) : Kept m s (setCapEffect cap t) :=
  kept_ite (fun _ => kept_modTrip id h) fun _ => kept_carry (kept_modTrip id h)

theorem kept_tripTakesGroupB (h : Kept m s t) : Kept m s (tripTakesGroupB t) := kept_carry (kept_modTrip id h)

theorem kept_statusTimerExpires (h : Kept m s t) : Kept m s (statusTimerExpires t) :=
  kept_ite (fun _ => h) fun _ => kept_sendNormal (kept_modTrip id h)

/-! ## Announcements carried through -/

theorem tellTrip_keeps : TellKeeps tellTrip := fun _ _ _ _ _ h =>
  kept_when testAuto kept_testAuto (kept_when testReady kept_testReady h)

theorem kept_handleAnn {a : Ann} (h : Kept m s t) : Kept m s (handleAnn a t) := by
  cases a with
  | recompute driving => exact kept_recompute h
  | compare driving v => exact kept_brakeCompare h
  | demandCode driving v => exact kept_demandTakesCode h
  | brakeTrip entered => exact kept_brakeTripEntered h
  | demandTrip entered => exact kept_demandTakesTrip h
  | demandLatchS => exact kept_lowerForLatchS h
  | brakeDoors => exact kept_brakeDoorsChanged h
  | doorEval k => exact kept_doorEvaluation h
  | gateTrip lost gained left => exact kept_gateTakesTrip h
  | tripStage old new => exact kept_takeStage h
  | tripReady => exact kept_testReady h
  | tripAuto => exact kept_testAuto h
  | tripArrival => exact kept_testArrival h
  | tripStandstill => exact kept_takeStandstill h
  | tripReleaseLost => exact kept_abandonDeparting h
  | tripReleased => exact kept_takeReleased h
  | tripDemandLost => exact kept_takeDemandLost h
  | outside changed due => exact kept_answerOutside tellTrip_keeps h

theorem kept_settle (h : Kept m s t) : Kept m s (settle t) := by
  have go : ∀ (n : Nat) {u : State}, Kept m s u → Kept m s (settleGo n u) := by
    intro n
    induction n with
    | zero => exact id
    | succ n ih =>
      intro u hu
      unfold settleGo
      split
      · exact hu
      · exact ih (kept_react (kept_handleAnn (kept_agenda hu)))
  exact go _ h

/-! ## Management (chapters 10 and 11) -/

/-- A management agent with its notices and its locks as they are. -/
theorem kept_modMgmt {f : Management → Management} (hf : (f t.mgmt).notices = t.mgmt.notices ∧ (f t.mgmt).locks = t.mgmt.locks) (h : Kept m s t) :
    Kept m s (modMgmt f t) :=
  h.of_same rfl rfl rfl rfl rfl hf.1 rfl hf.2

theorem kept_guarded {hdr : Header} {tag : Byte} {console maintOnly named : Bool} {f : State → State} (hf : Kept m s (f t))
    (h : Kept m s t) : Kept m s (guarded hdr tag console maintOnly named f t) :=
  kept_ite (fun _ => kept_answerControl h) fun _ => kept_ite (fun _ => kept_answerControl h) fun _ => hf

theorem kept_applyGroupB (hb : m.groupB) (h : Kept m s t) : Kept m s (applyGroupB t) := by
  have h1 : Kept m s { t with
      active := { t.active with b := t.staged.b }
      mgmt := { t.mgmt with commitB := ⟨false, .OK⟩ } } :=
    h.trans ⟨id, id, id, id, id, fun _ => id, id, id, fun hm => absurd hb hm, fun _ => .of_eq rfl⟩
  exact kept_announce (kept_announce (kept_announce (kept_tripTakesGroupB (kept_positionTakesGroupB (kept_occur h1)))))

/-- A line that is out of service has an idle trip (R75). -/
theorem idle_of_not_inService {u : State} (h : ¬ u.inService = true) : u.trip.state = .IDLE := by
  simpa [State.inService] using h

theorem kept_commitB {hdr : Header} {tag : Byte} (hb : t.trip.state = .IDLE → m.groupB) (h : Kept m s t) :
    Kept m s (commitB hdr tag t) := by
  unfold commitB
  split
  · exact kept_answerMgmt (kept_modMgmt ⟨rfl, rfl⟩ h)
  · exact kept_ite (fun _ => kept_answerControl (kept_modMgmt ⟨rfl, rfl⟩ h)) fun hs =>
      kept_applyGroupB (hb (idle_of_not_inService hs)) (kept_answerControl h)

theorem kept_commitA {hdr : Header} {tag : Byte} (h : Kept m s t) : Kept m s (commitA hdr tag t) := by
  refine kept_ite (fun _ => kept_answerControl h) fun _ => ?_
  split
  · exact kept_answerMgmt (kept_modMgmt ⟨rfl, rfl⟩ h)
  · exact kept_ite (fun _ => kept_answerControl (kept_modMgmt ⟨rfl, rfl⟩ h)) fun _ => kept_applyGroupA (kept_answerControl h)

theorem kept_takeNextNotice {hdr : Header} {tag : Byte} (h : Kept m s t) : Kept m s (takeNextNotice hdr tag t) := by
  unfold takeNextNotice
  split
  · exact kept_answerControl h
  · exact kept_answerMgmt (kept_vset_notice h (Nat.zero_le _))

theorem kept_takeRead {hdr : Header} {console : Bool} {p : MgmtReadP} (h : Kept m s t) : Kept m s (takeRead hdr console p t) :=
  kept_answerMgmt h

theorem kept_writeRecord {bank item index : Nat} {b : List Byte} (h : Kept m s t) : Kept m s (writeRecord bank item index b t) :=
  kept_ite (fun _ => kept_staged h) fun _ => kept_ite (fun _ => kept_modMgmt ⟨rfl, rfl⟩ h) fun _ => kept_modMgmt ⟨rfl, rfl⟩ h

theorem kept_takeWrite {hdr : Header} {console : Bool} {p : MgmtWriteP} (h : Kept m s t) : Kept m s (takeWrite hdr console p t) := by
  refine kept_ite (fun _ => kept_answerMgmt h) fun _ => kept_ite (fun _ => kept_answerMgmt h) fun _ => ?_
  split
  · exact kept_answerMgmt h
  · exact kept_ite (fun _ => kept_answerMgmt h) fun _ => kept_ite (fun _ => kept_answerMgmt h) fun _ =>
      kept_ite (fun _ => kept_answerMgmt h) fun _ => kept_writeRecord (kept_answerMgmt h)

theorem kept_clearCounters (h : Kept m s t) : Kept m s (clearCounters t) :=
  h.trans ⟨id, id, id, id, id, fun _ => id, id, id, fun _ => rfl, fun _ => .of_eq rfl⟩

theorem kept_storeCompletes {agrees : Bool} (h : Kept m s t) : Kept m s (storeCompletes agrees t) := by
  unfold storeCompletes
  split
  · exact h
  · exact kept_ite (fun _ => kept_answerControl (kept_modMgmt ⟨rfl, rfl⟩ h)) fun _ => kept_answerMgmt (kept_modMgmt ⟨rfl, rfl⟩ h)

/-- Start values meet the invariants; a RELOAD keeps the output queues (R188, R189). -/
theorem kept_startBlocks {reload : Bool} (hb : m.groupB) (hl : m.locks) (h : Kept m s t) : Kept m s (startBlocks reload t) := by
  refine h.trans ⟨fun _ => by rfl, fun hu => ?_, fun hn => ?_, fun _ => (planOk_iff _).mpr planFine_nil, fun _ => by rfl,
    fun _ _ => by rfl, fun _ => by rfl, fun _ => by rfl, fun hm => absurd hb hm, fun hm => absurd hl hm⟩
  · cases reload
    · rfl
    · exact hu
  · cases reload
    · rfl
    · exact hn

theorem kept_startUp {reload : Bool} (hb : m.groupB) (hl : m.locks) (h : Kept m s t) : Kept m s (startUp reload t) := by
  refine kept_answerOutside tellNothing_keeps ?_
  exact kept_ite (fun _ => kept_raiseStart (kept_startBlocks hb hl h)) fun _ => kept_occur (kept_raiseStart (kept_startBlocks hb hl h))

theorem kept_holdInReset (hb : m.groupB) (hl : m.locks) (h : Kept m s t) : Kept m s (holdInReset t) :=
  (kept_startBlocks (reload := false) hb hl h).of_same rfl rfl rfl rfl rfl rfl rfl rfl

theorem kept_losePower (h : Kept m s t) : Kept m s (losePower t) := by
  have hcut : (cutStore t.mgmt).notices = t.mgmt.notices ∧ (cutStore t.mgmt).locks = t.mgmt.locks := by
    unfold cutStore
    split <;> exact ⟨rfl, rfl⟩
  exact h.of_same rfl rfl rfl rfl rfl hcut.1 rfl hcut.2

/-- A lock is set and no lock is cleared (R180). -/
theorem locksKept_set (l : Locks) (a : Byte) : LocksKept l
    (if a = 0#8 then { l with read := true } else if a = 1#8 then { l with write := true } else { l with writeAll := true }) := by
  split
  · exact ⟨fun _ => rfl, id, id⟩
  · split
    · exact ⟨id, fun _ => rfl, id⟩
    · exact ⟨id, id, fun _ => rfl⟩

/-- An operation may replace group B out of service only, and the locks as a RELOAD only (R178, R189). -/
theorem kept_takeControl {hdr : Header} {console : Bool} {tag op arg : Byte} (hb : t.trip.state = .IDLE → m.groupB)
    (hl : op.toNat = 3 → m.locks) (h : Kept m s t) :
    Kept m s (takeControl hdr console tag op arg t) := by
  unfold takeControl
  split
  · exact kept_react (kept_guarded (kept_ite (fun _ => kept_commitA h) fun _ => kept_commitB hb h) h)
  · refine kept_react (kept_guarded (kept_ite (fun _ => ?_) fun _ => ?_) h)
    · exact kept_modMgmt ⟨rfl, rfl⟩ (kept_staged (kept_answerControl h))
    · exact kept_modMgmt ⟨rfl, rfl⟩ (kept_staged (kept_answerControl h))
  · exact kept_react (kept_guarded (kept_ite (fun _ => kept_answerControl h) fun _ => kept_modMgmt ⟨rfl, rfl⟩ h) h)
  next hop =>
    refine kept_guarded (kept_ite (fun hr => ?_) fun _ => kept_answerControl h) h
    simp only [reloadAllowed, Bool.and_eq_true, Bool.not_eq_true'] at hr
    exact kept_announceIf (kept_startUp (hb (idle_of_not_inService (by simp [hr.1.1.1]))) (hl hop) (kept_answerControl h))
  · exact kept_react (kept_guarded (kept_mgmt (kept_answerControl h) id (locksKept_set _ _)) h)
  · exact kept_react (kept_takeNextNotice h)
  · exact kept_react (kept_guarded (kept_clearCounters (kept_answerControl h)) h)
  · exact kept_react (kept_guarded (kept_modGates_same rfl rfl (kept_answerControl h)) h)
  · refine kept_react (kept_guarded (kept_ite (fun _ => ?_) fun _ => kept_answerControl h) h)
    exact kept_railResetEffect (kept_answerControl h)
  · refine kept_react (kept_guarded ?_ h)
    split
    · exact kept_clearGate (kept_answerControl h)
    · exact h
  · exact kept_react (kept_guarded h h)

/-! ## The frame switch (chapter 9) -/

theorem kept_request {hdr : Header} {n k : Byte} {ans : State → LineAnswer} {eff : State → State}
    (heff : ∀ {u : State}, u.trip.plan = t.trip.plan → Kept m s u → Kept m s (eff u)) (h : Kept m s t) :
    Kept m s (request hdr n k ans eff t) := by
  unfold request
  dsimp only
  split
  · exact heff rfl (kept_answerLine h)
  · exact heff rfl (kept_answerLine h)
  · exact kept_answerLine h

theorem kept_call {hdr : Header} {n : Byte} {k : CarId} {halt : Option Halt} {src : Source} (h : Kept m s t) :
    Kept m s (request hdr n 1 (fun _ => (callOutcome t k halt src).1) (callEffect (callOutcome t k halt src)) t) :=
  kept_request (fun hu => kept_callEffect fun _ hp hf => callOutcome_planFine hp (hu ▸ hf)) h

theorem kept_takeRequest {hdr : Header} {n : Byte} {r : LineReq} (h : Kept m s t) : Kept m s (takeRequest hdr n r t) := by
  cases r with
  | dispatch => exact kept_request (fun _ => kept_dispatchEffect) h
  | call k b => exact kept_call h
  | cancelCall k b => exact kept_request (ans := fun s => cancelAnswer s k (haltOfByte b)) (fun _ => kept_cancelEffect) h
  | holdSoft => exact kept_request (fun _ => kept_holdSoftEffect) h
  | holdHard => exact kept_request (fun _ => kept_holdHardEffect) h
  | resume => exact kept_request (fun _ => kept_resumeEffect) h
  | brakeReset => exact kept_request (fun _ => kept_brakeResetEffect) h
  | setCap cap => exact kept_request (fun _ => kept_setCapEffect) h
  | setMode m => exact kept_request (fun _ => kept_setModeEffect) h
  | enterService => exact kept_request (fun _ => kept_enterServiceEffect) h
  | leaveService => exact kept_request (fun _ => kept_leaveServiceEffect) h
  | setFlag i v => exact kept_request (ans := fun _ => setFlagAnswer i) (fun _ => kept_setFlagEffect) h
  | unknown kind => exact kept_request (ans := fun _ => .REFUSED .UNKNOWN_REQUEST) (eff := fun s => s) (fun _ => id) h

theorem kept_takeCall {hdr : Header} {e : NodeEntry} {p : CallP} (h : Kept m s t) : Kept m s (takeCall hdr e p t) := by
  unfold takeCall
  dsimp only
  split
  · exact kept_call h
  · exact kept_call h
  · exact kept_call h

theorem kept_fromGate {e : NodeEntry} {f : GateId → State → State} (hf : ∀ g {u : State}, Kept m s u → Kept m s (f g u))
    (h : Kept m s t) : Kept m s (fromGate e f t) :=
  kept_ite (fun _ => hf _ (kept_hearGate h)) fun _ => h

theorem kept_copyToConsole {src : Byte} {c : Content} (h : Kept m s t) : Kept m s (copyToConsole src c t) := by
  unfold copyToConsole
  split
  · exact kept_placeNormal h
  · exact h

/-- Whether a payload is a RELOAD. -/
def isReload : Payload → Prop
  | .mgmtControl _ op _ => op.toNat = 3
  | _ => False

theorem kept_handlePayload {hdr : Header} {e : NodeEntry} {pl : Payload} (hb : t.trip.state = .IDLE → m.groupB)
    (hl : isReload pl → m.locks) (h : Kept m s t) : Kept m s (handlePayload hdr e pl t) := by
  cases pl with
  | sample p => exact kept_react (kept_takeSample h)
  | carReport p => exact kept_react (kept_takeCarReport h)
  | doorState p => exact kept_react (kept_takeDoorState h)
  | call p => exact kept_ite (fun _ => kept_react (kept_fromGate (fun _ _ => kept_takeCall) h)) fun _ => kept_react (kept_takeCall h)
  | gateRequest p => exact kept_react (kept_fromGate (fun _ _ => kept_takeGateRequest) h)
  | gatePassage p => exact kept_react (kept_fromGate (fun _ _ => kept_takeGatePassage) h)
  | fareAnswer p => exact kept_react (kept_takeFareAnswer h)
  | lineRequest n r => exact kept_react (kept_takeRequest h)
  | demand p => exact kept_react (kept_takeDemand h)
  | driveState p =>
    unfold handlePayload
    refine kept_react ?_
    exact kept_copyToConsole (kept_takeDriveState h)
  | brakeState p =>
    unfold handlePayload
    refine kept_react ?_
    exact kept_copyToConsole (kept_takeBrakeState h)
  | mgmtRead p => exact kept_react (kept_takeRead h)
  | mgmtWrite p => exact kept_react (kept_takeWrite h)
  | mgmtControl tag op arg => exact kept_takeControl hb hl h
  | transit kind bytes => exact kept_placeNormal h

theorem kept_modCounters {q : PortId} {f : PortCounters → PortCounters} (h : Kept m s t) : Kept m s (modCounters q f t) :=
  kept_modPort_same (fun _ => rfl) (fun _ => rfl) h

theorem linkHears_queues (p : Port) : (linkHears p).urgent = p.urgent ∧ (linkHears p).normal = p.normal := by
  rw [linkHears_fields p]
  exact ⟨rfl, rfl⟩

theorem kept_linkHears {q : PortId} (h : Kept m s t) : Kept m s (modPort q linkHears t) :=
  kept_modPort_same (fun p => (linkHears_queues p).1) (fun p => (linkHears_queues p).2) h

theorem kept_receive {hdr : Header} {kind : Byte} {pl : Option Payload} (hb : t.trip.state = .IDLE → m.groupB)
    (hl : ∀ x, pl = some x → isReload x → m.locks) (h : Kept m s t) : Kept m s (receive hdr kind pl t) := by
  have heard : ∀ f, Kept m s (modCounters hdr.port f (modPort hdr.port linkHears t)) := fun _ => kept_modCounters (kept_linkHears h)
  have h1 := heard fun c => { c with received := satInc c.received }
  unfold receive
  dsimp only
  refine kept_ite (fun _ => ?_) fun _ => kept_linkHears h
  unfold acceptFrame
  split
  · exact kept_modCounters h1
  · split
    · exact kept_modCounters h1
    · exact kept_ite (fun _ => kept_modCounters h1) fun _ => kept_ite (fun _ => kept_modCounters h1) fun _ =>
        kept_handlePayload hb (hl _ rfl) h1

theorem kept_takeInvalid {q : PortId} {what : ReceptionKind} (h : Kept m s t) : Kept m s (takeInvalid q what t) :=
  kept_ite (fun _ => kept_modCounters h) fun _ => h

theorem kept_receiveRaw {q : PortId} {f : RawFrame} (hb : t.trip.state = .IDLE → m.groupB)
    (hl : ∀ x, readPayload f.kind f.payload = some x → isReload x → m.locks) (h : Kept m s t) : Kept m s (receiveRaw q f t) :=
  kept_ite (fun _ => kept_receive hb hl h) fun _ => kept_takeInvalid h

theorem kept_silenceExpires {q : PortId} (h : Kept m s t) : Kept m s (silenceExpires q t) :=
  kept_ite (fun _ => h) fun _ => kept_ite (fun _ => kept_modPort_same (fun _ => rfl) (fun _ => rfl) h)
    fun _ => kept_occur (kept_modPort_same (fun _ => rfl) (fun _ => rfl) h)

theorem kept_syncWindowExpires {q : PortId} (h : Kept m s t) : Kept m s (syncWindowExpires q t) :=
  kept_ite (fun _ => h) fun _ => kept_modPort_same (fun _ => rfl) (fun _ => rfl) h

theorem kept_announceBegun {f : OutFrame} (h : Kept m s t) : Kept m s (announceBegun f t) := by
  unfold announceBegun
  split
  · exact kept_ite (fun _ => kept_brakeOrderBegun h) fun _ => h
  · exact kept_doorOrderBegun h
  · exact h

theorem kept_beginFrame {q : PortId} (h : Kept m s t) : Kept m s (beginFrame q t) := by
  unfold beginFrame
  split
  · refine kept_announceBegun (kept_modPort (fun p => ?_) (fun p hp => ?_) h)
    · unfold withBegun
      split
      next e => exact ⟨1, by rw [e]; rfl⟩
      next => exact ⟨0, rfl⟩
    · unfold withBegun
      split
      · exact hp
      · exact (List.length_drop ..).trans_le (by omega)
  · exact h

theorem kept_endTransmission {q : PortId} (h : Kept m s t) : Kept m s (endTransmission q t) :=
  kept_ite (fun _ => kept_modPort_same (fun _ => rfl) (fun _ => rfl) h) fun _ => h

theorem kept_sendIdleMark {q : PortId} (h : Kept m s t) : Kept m s (sendIdleMark q t) :=
  kept_ite (fun _ => kept_modPort_same (fun _ => rfl) (fun _ => rfl) h) fun _ => h

theorem kept_acceptLevel {i : Fin 8} {l : Level} (h : Kept m s t) : Kept m s (acceptLevel i l t) :=
  kept_ite (fun _ => kept_dins h) fun _ => kept_ite (fun _ => kept_evalEstop (kept_dins h)) fun _ =>
    kept_ite (fun _ => kept_announce (kept_dins h)) fun _ => kept_dins h

theorem kept_rawChange {i : Fin 8} {l : Level} (h : Kept m s t) : Kept m s (rawChange i l t) :=
  kept_ite (fun _ => h) fun _ => kept_ite (fun _ => kept_dins (kept_dins h)) fun _ =>
    kept_ite (fun _ => kept_acceptLevel (kept_dins h)) fun _ => kept_dins (kept_dins h)

theorem kept_filterExpires {i : Fin 8} (h : Kept m s t) : Kept m s (filterExpires i t) := kept_ite (fun _ => h) fun _ => kept_acceptLevel h

theorem kept_pulseStarts {i : Fin 16} (h : Kept m s t) : Kept m s (pulseStarts i t) := by
  unfold pulseStarts
  split
  · exact kept_pulses h
  · exact h

theorem kept_pulseEnds {i : Fin 16} (h : Kept m s t) : Kept m s (pulseEnds i t) := by
  unfold pulseEnds
  split
  · exact kept_pulses h
  · exact h

/-! ## Commands and steps -/

theorem Kept.running {f : State → State} (hf : Kept m s (f s)) (h : running f s = .next t) : Kept m s t := by
  cases h
  exact kept_ite (fun _ => kept_settle hf) fun _ => Kept.refl s

theorem Kept.plainly {f : State → State} (hf : Kept m s (f s)) (h : plainly f s = .next t) : Kept m s t := by
  cases h
  exact kept_ite (fun _ => hf) fun _ => Kept.refl s

theorem Kept.event {f : State → State} (hf : Kept m s (f s)) (h : event f s = .next t) : Kept m s t := Kept.running (kept_react hf) h

/-- A command that carries a RELOAD (R189): the frame rows byte for byte, the rows of the management agent as operation 3. -/
def carriesReload : Instr → Prop
  | .frameWhileSyncing _ f => ∃ x, readPayload f.kind f.payload = some x ∧ isReload x
  | .unacceptedFrame _ f => ∃ x, readPayload f.kind f.payload = some x ∧ isReload x
  | .transitFrame _ f => ∃ x, readPayload f.kind f.payload = some x ∧ isReload x
  | .reload _ _ _ => True
  | .unknownMgmtOperation _ _ op _ => op.toNat = 3
  | _ => False

/-- A command that starts the part up, or holds it with its start values (R188). -/
def startsUp : Instr → Prop
  | .powerOn => True
  | .resetPin _ => True
  | _ => False

/-- What a command in state `s` may replace. -/
def replacedBy (c : Instr) (s : State) : Replaced where
  groupB := s.trip.state = .IDLE ∨ startsUp c
  locks := startsUp c ∨ carriesReload c

theorem Kept.receivePayload {hdr : Header} {pl : Payload} (hb : s.trip.state = .IDLE → m.groupB) (hl : isReload pl → m.locks)
    (h : Machine.running (receivePayload hdr pl) s = .next t) : Kept m s t :=
  Kept.running (kept_receive hb (fun _ e hx => by cases e; exact hl hx) (Kept.refl s)) h

theorem Kept.receiveControl {hdr : Header} {tag op arg : Byte} (ho : op.toNat ≠ 3) (hb : s.trip.state = .IDLE → m.groupB)
    (h : Machine.running (Machine.receivePayload hdr (.mgmtControl tag op arg)) s = .next t) : Kept m s t :=
  Kept.receivePayload (pl := .mgmtControl tag op arg) hb (fun hr => absurd hr ho) h

/-- Every command keeps the invariants, and of the configuration all that it may not replace. -/
theorem exec_kept {c : Instr} (h : exec c s = .next t) : Kept (replacedBy c s) s t := by
  have hs := Kept.refl (m := replacedBy c s) s
  have hb : s.trip.state = .IDLE → (replacedBy c s).groupB := .inl
  cases c with
  | powerOn =>
    cases h
    exact kept_ite (fun _ => kept_holdInReset (.inr trivial) (.inl trivial) hs)
      fun _ => kept_settle (kept_startUp (.inr trivial) (.inl trivial) hs)
  | resetPin edge =>
    have h1 : ∀ b, Kept (replacedBy (.resetPin edge) s) s { s with resetLow := b } := fun _ =>
      hs.of_same rfl rfl rfl rfl rfl rfl rfl rfl
    cases edge with
    | drivenLow =>
      cases h
      exact kept_ite (fun _ => h1 true) fun _ => kept_holdInReset (.inr trivial) (.inl trivial) (h1 true)
    | released =>
      cases h
      exact kept_ite (fun _ => kept_settle (kept_startUp (.inr trivial) (.inl trivial) (h1 false))) fun _ => h1 false
  | powerLoss => cases h; exact kept_losePower hs
  | idleMark port => exact Kept.plainly (kept_linkHears hs) h
  | invalidReception port what => exact Kept.plainly (kept_takeInvalid hs) h
  | silenceTimerExpiry port => exact Kept.plainly (kept_silenceExpires hs) h
  | syncWindowExpiry port => exact Kept.plainly (kept_syncWindowExpires hs) h
  | idleMarkSend port => exact Kept.plainly (kept_sendIdleMark hs) h
  | frameBegin port => exact Kept.plainly (kept_beginFrame hs) h
  | transmissionComplete port => exact Kept.plainly (kept_endTransmission hs) h
  | frameWhileSyncing port frame => exact Kept.running (kept_receiveRaw hb (fun x hx hr => .inr ⟨x, hx, hr⟩) hs) h
  | unacceptedFrame port frame => exact Kept.running (kept_receiveRaw hb (fun x hx hr => .inr ⟨x, hx, hr⟩) hs) h
  | transitFrame port frame => exact Kept.running (kept_receiveRaw hb (fun x hx hr => .inr ⟨x, hx, hr⟩) hs) h
  | rawLevelChange din level =>
    change execRawLevelChange din level s = _ at h
    unfold execRawLevelChange at h
    split at h
    · exact Kept.event (kept_rawChange hs) h
    · cases h; exact kept_dins hs
  | inputFilterExpiry din => exact Kept.event (kept_filterExpires hs) h
  | channelSilenceExpiry ch => exact Kept.event (kept_channelSilenceExpires hs) h
  | standstillTimerExpiry => exact Kept.event (kept_standstillTimerExpires hs) h
  | sampleLoss => exact Kept.event (kept_sampleLossBegins hs) h
  | channelDiscrepancy => exact Kept.event (kept_discrepancyBegins hs) h
  | slip car => exact Kept.event (kept_slipBegins hs) h
  | carReportTimeout car => exact Kept.event (kept_reportTimerExpires hs) h
  | loadExpiry car => exact Kept.plainly (kept_loadExpires hs) h
  | demandTimerExpiry => exact Kept.event (kept_demandTimerExpires hs) h
  | brakeAnswerWindowExpiry => exact Kept.event (kept_brakeWindowExpires hs) h
  | decelerationCheckExpiry => exact Kept.event (kept_decelCheckEnds hs) h
  | readyTimerExpiry => exact Kept.event (kept_readyTimerExpires hs) h
  | torqueProofTimerExpiry => exact Kept.event (kept_torqueTimerExpires hs) h
  | statusTimerExpiry => exact Kept.plainly (kept_statusTimerExpires hs) h
  | doorAnswerWindowExpiry car side => exact Kept.event (kept_doorWindowExpires hs) h
  | closeTimerExpiry car compartment side => exact Kept.event (kept_closeTimerExpires hs) h
  | stateTimerExpiry seq => exact Kept.event (kept_stateTimerExpires hs) h
  | pulseStartOffset entry => exact Kept.plainly (kept_pulseStarts hs) h
  | pulseEndOffset entry => exact Kept.plainly (kept_pulseEnds hs) h
  | fareDeadlineExpiry slot => exact Kept.event (kept_fareDeadlineExpires hs) h
  | waitPassDeadlineExpiry slot => exact Kept.event (kept_passDeadlineExpires hs) h
  | storeComplete agrees => exact Kept.plainly (kept_storeCompletes hs) h
  | sample hdr p => exact Kept.receivePayload hb False.elim h
  | carReport hdr p => exact Kept.receivePayload hb False.elim h
  | demand hdr p => exact Kept.receivePayload hb False.elim h
  | brakeState hdr p => exact Kept.receivePayload hb False.elim h
  | brakeReset hdr number => exact Kept.receivePayload hb False.elim h
  | railReset hdr tag arg => exact Kept.receiveControl (op := 8) (by decide) hb h
  | call hdr p => exact Kept.receivePayload hb False.elim h
  | consoleCall hdr number car halt => exact Kept.receivePayload hb False.elim h
  | cancelCall hdr number car halt => exact Kept.receivePayload hb False.elim h
  | holdSoft hdr number => exact Kept.receivePayload hb False.elim h
  | holdHard hdr number => exact Kept.receivePayload hb False.elim h
  | dispatch hdr number => exact Kept.receivePayload hb False.elim h
  | resume hdr number => exact Kept.receivePayload hb False.elim h
  | setCap hdr number cap => exact Kept.receivePayload hb False.elim h
  | setMode hdr number mode => exact Kept.receivePayload hb False.elim h
  | setFlag hdr number flag value => exact Kept.receivePayload hb False.elim h
  | enterService hdr number => exact Kept.receivePayload hb False.elim h
  | leaveService hdr number => exact Kept.receivePayload hb False.elim h
  | unknownRequest hdr number kind => exact Kept.receivePayload hb False.elim h
  | driveState hdr p => exact Kept.receivePayload hb False.elim h
  | doorState hdr p => exact Kept.receivePayload hb False.elim h
  | gateRequest hdr p => exact Kept.receivePayload hb False.elim h
  | fareAnswer hdr p => exact Kept.receivePayload hb False.elim h
  | gatePassage hdr p => exact Kept.receivePayload hb False.elim h
  | mgmtRead hdr p => exact Kept.receivePayload hb False.elim h
  | mgmtWrite hdr p => exact Kept.receivePayload hb False.elim h
  | commit hdr tag arg => exact Kept.receiveControl (op := 0) (by decide) hb h
  | abandon hdr tag arg => exact Kept.receiveControl (op := 1) (by decide) hb h
  | setLock hdr tag arg => exact Kept.receiveControl (op := 4) (by decide) hb h
  | nextNotice hdr tag arg => exact Kept.receiveControl (op := 5) (by decide) hb h
  | clearCounters hdr tag arg => exact Kept.receiveControl (op := 6) (by decide) hb h
  | invalidateCache hdr tag arg => exact Kept.receiveControl (op := 7) (by decide) hb h
  | clearGate hdr tag arg => exact Kept.receiveControl (op := 9) (by decide) hb h
  | store hdr tag arg => exact Kept.receiveControl (op := 2) (by decide) hb h
  | reload hdr tag arg => exact Kept.receivePayload hb (fun _ => .inr trivial) h
  | unknownMgmtOperation hdr tag op arg => exact Kept.receivePayload hb .inr h

/-- One millisecond changes nothing that the invariants read (notes/assumptions/5). -/
theorem kept_tick (s : State) : Kept m s (tick s) := by
  refine kept_ite (fun _ => ?_) fun _ => Kept.refl s
  refine ⟨id, id, id, id, fun h => ?_, fun _ h => ?_, id, id, fun _ => rfl, fun _ => .of_eq rfl⟩
  · simp only [slotsDistinct, GateUnit.later, List.map_map, Function.comp_def, decide_eq_true_eq] at h ⊢
    exact h
  · simp only [onePassPerGate, GateUnit.later, List.filter_map, List.map_map, Function.comp_def, decide_eq_true_eq] at h ⊢
    exact h

/-- Every step keeps the invariants. -/
theorem step_kept (h : step s = .next t) : Kept ⟨True, True⟩ s t := by
  unfold step at h
  split at h
  next => cases h; exact kept_tick s
  next c rest _ =>
    have hpend : Kept ⟨True, True⟩ s { s with pending := rest } := (Kept.refl s).of_same rfl rfl rfl rfl rfl rfl rfl rfl
    have hc := exec_kept h
    exact hpend.trans { hc with groupB := fun hm => absurd trivial hm, locks := fun hm => absurd trivial hm }

end

/-- Settles O52: every function that changes what R62 reads ends in the stage rule. -/
theorem stageStaysInForce : Obligations.StageStaysInForce := fun _ _ hs h => (step_kept h).stage hs

/-- Settles O53: a frame of one of the six keys takes the place of the held one, and port C is given none. -/
theorem urgentKeysStayDistinct : Obligations.UrgentKeysStayDistinct := fun _ _ hs h => (step_kept h).urgent hs

/-- Settles O54: a pair enters the plan only where the plan has neither it nor 9 stops. -/
theorem planStaysWellFormed : Obligations.PlanStaysWellFormed := fun _ _ hs h => (step_kept h).plan hs

/-- Settles O55: delivery takes an entry to WAIT_PASS only where its gate has none there. -/
theorem onePassageAtATime : Obligations.OnePassageAtATime := fun _ _ hs hp h =>
  ⟨(step_kept h).slots hs, (step_kept h).passes hs hp⟩

/-- Settles O57: queues and counts stop at their bounds, and a reservation is made only from a budget. -/
theorem boundedQueuesAndCounts : Obligations.BoundedQueuesAndCounts := fun _ _ h =>
  ⟨(step_kept h).normal, (step_kept h).notices, (step_kept h).windows⟩

/-- Settles O56: only start-up, RELOAD and a group B commit give a new group B, the last two out of service. -/
theorem groupBChangesOnlyOutOfService : Obligations.GroupBChangesOnlyOutOfService := by
  intro c s t h hne
  have hm : (replacedBy c s).groupB := by
    by_contra hno
    exact hne ((exec_kept h).groupB hno)
  rcases hm with hidle | hstart
  · exact .inl hidle
  · cases c with
    | powerOn => exact .inr (.inl rfl)
    | resetPin edge => exact .inr (.inr ⟨edge, rfl⟩)
    | _ => exact hstart.elim

/-- Settles O58: SET_LOCK sets a lock, and no command but a start-up or a RELOAD gives new ones. -/
theorem locksStaySet : Obligations.LocksStaySet := by
  intro c s t h hon hpin hreload hunknown hframe
  have hpayload : ∀ (f : RawFrame) x, (∀ tag arg, readPayload f.kind f.payload ≠ some (.mgmtControl tag 3#8 arg)) →
      readPayload f.kind f.payload = some x → ¬ isReload x := by
    intro f x hf hx hr
    cases x with
    | mgmtControl tag op arg =>
      obtain rfl : op = 3#8 := BitVec.eq_of_toNat_eq hr
      exact hf tag arg hx
    | _ => exact hr
  have hno : ¬ (replacedBy c s).locks := by
    rintro (hstart | hr)
    · cases c with
      | powerOn => exact hon rfl
      | resetPin edge => exact hpin edge rfl
      | _ => exact hstart
    · cases c with
      | frameWhileSyncing q f => obtain ⟨x, hx, hr⟩ := hr; exact hpayload f x (hframe q f (.inl rfl)) hx hr
      | unacceptedFrame q f => obtain ⟨x, hx, hr⟩ := hr; exact hpayload f x (hframe q f (.inr (.inl rfl))) hx hr
      | transitFrame q f => obtain ⟨x, hx, hr⟩ := hr; exact hpayload f x (hframe q f (.inr (.inr rfl))) hx hr
      | reload hdr tag arg => exact hreload hdr tag arg rfl
      | unknownMgmtOperation hdr tag op arg =>
        obtain rfl : op = 3#8 := BitVec.eq_of_toNat_eq hr
        exact hunknown hdr tag arg rfl
      | _ => exact hr
  have hk := (exec_kept h).locks hno
  exact ⟨hk.read, hk.write, hk.writeAll⟩

/-- Settles O1: the definition of a step. -/
theorem stepRunsTheFrontCommand : Obligations.StepRunsTheFrontCommand := fun _ _ _ => rfl

/-- Settles O60: by evaluation of the reset state. -/
theorem resetMeetsTheInvariants : Obligations.ResetMeetsTheInvariants := by
  unfold Obligations.ResetMeetsTheInvariants
  decide +kernel

end Sys2Proof.Machine
end

section
/-!
PROOFS. The frame switch: links (R158 to R160), acceptance (R163), transit (R167), transmission (R169) and discrete inputs (R170); and the
passing of time: the statements O2 to O8.
-/

namespace Sys2Proof.Machine

/-! ## Links -/

section
variable {p : Port}

theorem linkHears_down (h : p.link = .DOWN) :
    linkHears p = { p with link := .SYNCING, silence := some 20, syncCount := 1, syncWindow := some 30 } := by
  unfold linkHears; rw [h]

theorem linkHears_up (h : p.link = .UP) : linkHears p = { p with silence := some 20 } := by
  unfold linkHears; rw [h]

theorem linkHears_first (h : p.link = .SYNCING) (hw : p.syncWindow = none) :
    linkHears p = { p with silence := some 20, syncCount := 1, syncWindow := some 30 } := by
  unfold linkHears; simp [h, hw]

theorem linkHears_third (h : p.link = .SYNCING) (hw : p.syncWindow ≠ none) (hc : p.syncCount = 2) :
    linkHears p = { p with link := .UP, silence := some 20, syncCount := 0, syncWindow := none } := by
  unfold linkHears; simp [h, hw, hc]

theorem linkHears_counted (h : p.link = .SYNCING) (hw : p.syncWindow ≠ none) (hc : p.syncCount < 2) :
    linkHears p = { p with silence := some 20, syncCount := p.syncCount + 1 } := by
  have : ¬ 3 ≤ p.syncCount + 1 := by omega
  unfold linkHears; simp [h, hw, this]

end

/-- An idle mark changes the link record of its port alone (R158). -/
theorem idleMark_next {q : PortId} {s : State} {p : Port} (hr : s.power = .RUNNING) (hp : linkHears (s.ports.get q) = p) :
    exec (.idleMark q) s = .next { s with ports := s.ports.set q p } :=
  hp ▸ plainly_eq hr

theorem takeInvalid_eq (q : PortId) (what : ReceptionKind) (s : State) :
    takeInvalid q what s = if (s.ports.get q).link = .UP ∧ what = .frame then
      { s with ports := s.ports.set q { s.ports.get q with
        counters := { (s.ports.get q).counters with checkFailed := satInc (s.ports.get q).counters.checkFailed } } } else s := rfl

/-- Settles O3: by the state of the link, and by which timer runs. -/
theorem receptionsAndTimersServeTheLink : Obligations.ReceptionsAndTimersServeTheLink := by
  refine ⟨fun q s hr => ⟨fun h => ?_, fun h => ?_, fun h hw => ?_, fun h hw hc => ?_, fun h hw hc => ?_⟩, fun q what s hr => ?_,
    fun q s hr => ⟨fun hs hl => ?_, fun hs hl => ?_, fun hs => ?_, fun hw => ?_, fun hw => ?_⟩⟩
  · exact idleMark_next hr (linkHears_down h)
  · exact idleMark_next hr (linkHears_up h)
  · exact idleMark_next hr (linkHears_first h hw)
  · exact idleMark_next hr (linkHears_third h hw hc)
  · exact idleMark_next hr (linkHears_counted h hw hc)
  · exact (plainly_eq hr).trans (congrArg _ (takeInvalid_eq q what s))
  · refine (plainly_eq hr).trans (congrArg _ ?_)
    unfold silenceExpires
    simp [hs, hl, modPort]
  · refine (plainly_eq hr).trans (congrArg _ ?_)
    unfold silenceExpires
    simp [hs, hl, modPort]
  · refine (plainly_eq hr).trans (congrArg _ ?_)
    unfold silenceExpires
    simp [hs]
  · refine (plainly_eq hr).trans (congrArg _ ?_)
    unfold syncWindowExpires
    simp [hw, modPort]
  · refine (plainly_eq hr).trans (congrArg _ ?_)
    unfold syncWindowExpires
    simp [hw]

/-! ## Acceptance -/

section
variable {hdr : Header} {k : Byte} {pl : Option Payload} {s : State}

/-- On a port that is not UP after it, a frame serves the link record alone (R159). -/
theorem receive_syncing (h : (linkHears (s.ports.get hdr.port)).link ≠ .UP) : receive hdr k pl s = modPort hdr.port linkHears s := by
  unfold receive
  simp [h]

/-- On a port that is UP after it, a frame is passed to acceptance (R159, R163). -/
theorem receive_up (h : (linkHears (s.ports.get hdr.port)).link = .UP) :
    receive hdr k pl s = acceptFrame hdr k pl (heardOn hdr.port s) := by
  unfold receive heardOn
  simp [h]

theorem acceptFrame_unknown (h : sourceEntry s hdr k = none) :
    acceptFrame hdr k pl s = modCounters hdr.port (fun c => { c with unknownSource := satInc c.unknownSource }) s := by
  unfold acceptFrame
  rw [h]

theorem acceptFrame_unread {e : NodeEntry} (h : sourceEntry s hdr k = some e) :
    acceptFrame hdr k none s = modCounters hdr.port (fun c => { c with kindRefused := satInc c.kindRefused }) s := by
  unfold acceptFrame
  rw [h]

theorem acceptFrame_refused {e : NodeEntry} {x : Payload} (h : sourceEntry s hdr k = some e) (hx : entryAllows e x = false) :
    acceptFrame hdr k (some x) s = modCounters hdr.port (fun c => { c with kindRefused := satInc c.kindRefused }) s := by
  unfold acceptFrame
  rw [h]
  simp [hx]

theorem acceptFrame_misaddressed {e : NodeEntry} {x : Payload} (h : sourceEntry s hdr k = some e) (hx : entryAllows e x = true)
    (hd : destinationOk s hdr x = false) :
    acceptFrame hdr k (some x) s = modCounters hdr.port (fun c => { c with misaddressed := satInc c.misaddressed }) s := by
  unfold acceptFrame
  rw [h]
  simp [hx, hd]

theorem acceptFrame_handled {e : NodeEntry} {x : Payload} (h : sourceEntry s hdr k = some e) (hx : entryAllows e x = true)
    (hd : destinationOk s hdr x = true) : acceptFrame hdr k (some x) s = handlePayload hdr e x s := by
  unfold acceptFrame
  rw [h]
  simp [hx, hd]

end

@[simp] theorem PerPort.set_set {α : Type} (p : PerPort α) (q : PortId) (x y : α) : (p.set q x).set q y = p.set q y := by
  cases q <;> rfl

/-- A raw frame whose reception leaves the agenda empty gives that state. -/
theorem rawFrame_next {q : PortId} {f : RawFrame} {s t : State} (hr : s.power = .RUNNING) (hv : rawValid f = true)
    (ht : receive ⟨q, f.dst, f.src⟩ f.kind (readPayload f.kind f.payload) s = t) (ha : t.agenda = []) :
    Machine.running (receiveRaw q f) s = .next t := by
  rw [running_eq hr, receiveRaw, if_pos hv, ht, settle_of_empty ha]

theorem ofLength_some {α : Type} {n : Nat} {b : List Byte} {o : Option α} {x : α} (h : ofLength n b o = some x) : o = some x := by
  unfold ofLength at h
  split at h
  · exact h
  · cases h

theorem readControl_some {b : List Byte} {x : Payload} (h : readControl b = some x) : ∃ tag op arg, x = .mgmtControl tag op arg := by
  unfold readControl at h
  dsimp only at h
  split at h
  · cases h; exact ⟨_, _, _, rfl⟩
  · cases h

/-- A DRIVE_STATE is read from its own kind alone (R191). -/
theorem readPayload_driveState {k : Byte} {b : List Byte} {d : DriveStateP} (h : readPayload k b = some (.driveState d)) : k = 0x0A := by
  unfold readPayload at h
  split at h
  case h_10 hk => exact BitVec.eq_of_toNat_eq hk
  case h_14 => obtain ⟨_, _, _, e⟩ := readControl_some (ofLength_some h); cases e
  case h_15 => split at h <;> cases h
  all_goals
    have e := ofLength_some h
    simp at e

/-- Settles O4: up to the third reception the link record is all that a frame serves. -/
theorem frameWhileSyncingServesTheLink : Obligations.FrameWhileSyncingServesTheLink := by
  intro q f s hr hv
  refine ⟨fun ha => ?_, fun d hd => ?_⟩
  · have syncing : ∀ p, linkHears (s.ports.get q) = p → p.link ≠ .UP →
        exec (.frameWhileSyncing q f) s = .next { s with ports := s.ports.set q p } := by
      rintro p rfl hp
      exact rawFrame_next hr hv (receive_syncing hp) ha
    refine ⟨fun h => syncing _ (linkHears_down h) (by simp), fun h hw => syncing _ (linkHears_first h hw) (by simp [h]),
      fun h hw hc => syncing _ (linkHears_counted h hw hc) (by simp [h]), fun h hw hc hsrc => ?_⟩
    have hp := linkHears_third h hw hc
    refine rawFrame_next hr hv ((receive_up (by rw [hp])).trans (acceptFrame_unknown hsrc)) ha |>.trans ?_
    simp only [heardOn, modCounters, modPort, hp, PerPort.get_set_self, PerPort.set_set]
  · have hf : receiveRaw q f s = receivePayload ⟨q, f.dst, f.src⟩ (.driveState d) s := by
      rw [receiveRaw, if_pos hv, hd, readPayload_driveState hd]
      rfl
    exact congrArg (fun t => Host.Outcome.next (if s.power = .RUNNING then settle t else s)) hf

/-- Settles O5: each step of acceptance fails by its own counter. -/
theorem firstFailedStepCountsTheFrame : Obligations.FirstFailedStepCountsTheFrame := by
  intro q f s hr ha hv hup
  have hp := linkHears_up hup
  have fails : ∀ (g : PortCounters → PortCounters),
      acceptFrame ⟨q, f.dst, f.src⟩ f.kind (readPayload f.kind f.payload) (heardOn q s) = modCounters q g (heardOn q s) →
      exec (.unacceptedFrame q f) s = .next { s with ports := s.ports.set q { s.ports.get q with
        silence := some 20
        counters := g { (s.ports.get q).counters with received := satInc (s.ports.get q).counters.received } } } := by
    intro g hg
    refine (rawFrame_next hr hv ((receive_up (by rw [hp]; exact hup)).trans hg) ha).trans ?_
    simp only [heardOn, modCounters, modPort, hp, PerPort.get_set_self, PerPort.set_set]
  refine ⟨fun hsrc => fails _ (acceptFrame_unknown hsrc), fun e hsrc => ⟨fun hpl => ?_, fun pl hpl => ⟨fun he => ?_, fun he hd => ?_⟩⟩⟩
  · rw [hpl] at fails
    exact fails _ (acceptFrame_unread hsrc)
  · rw [hpl] at fails
    exact fails _ (acceptFrame_refused hsrc he)
  · rw [hpl] at fails
    exact fails _ (acceptFrame_misaddressed hsrc he hd)

/-- A transit kind is read as it is (R164). -/
theorem readPayload_transit {k : Byte} {b : List Byte} (h : 0x80 ≤ k.toNat) : readPayload k b = some (.transit k b) := by
  unfold readPayload
  split
  case h_15 => rw [if_pos h]
  all_goals
    have : 0x80 ≤ _ := h
    omega

/-- Settles O6: a transit frame passes the steps of acceptance and is placed on the other port. -/
theorem transitFrameIsForwardedUnchanged : Obligations.TransitFrameIsForwardedUnchanged := by
  intro q f s e d hr ha hv hk hup hsrc het hdst hdn
  refine ⟨?_, sentFrame_transit f hv⟩
  have hs : sourceEntry (heardOn q s) ⟨q, f.dst, f.src⟩ f.kind = some e := by
    unfold sourceEntry
    simp only [heardOn, modCounters, modPort_active, hsrc]
  have hd : destinationOk (heardOn q s) ⟨q, f.dst, f.src⟩ (.transit f.kind f.payload) = true := by
    simp only [destinationOk, heardOn, modCounters, modPort_active, modPort_mgmt, hdn, Option.isSome_some, Bool.and_true,
      bne_iff_ne, ne_eq]
    exact hdst
  refine rawFrame_next hr hv ((receive_up ?_).trans ?_) ha
  · rw [linkHears_up hup]; exact hup
  · rw [readPayload_transit hk, acceptFrame_handled (x := .transit f.kind f.payload) hs het hd]
    rfl

/-! ## Time -/

theorem map_get {α β : Type} {n : Nat} (f : α → β) (v : Vector α n) (i : Fin n) : (v.map f).get i = f (v.get i) := by
  simp [Vector.get_eq_getElem]

theorem CarRecord.later_eq (c : CarRecord) : c.later = { c with
    speedAge := if c.speed = none then c.speedAge else c.speedAge + 1
    loadTimer := Timer.less c.loadTimer
    reportTimer := Timer.less c.reportTimer
    slipTimer := Timer.less c.slipTimer } := by
  unfold CarRecord.later
  cases c.speed <;> rfl

/-- A running part one millisecond later. -/
theorem tick_running {s : State} (h : s.power = .RUNNING) : tick s = { s with
    localMs := s.localMs + 1
    pos := s.pos.later
    filter := { s.filter with timer := Timer.less s.filter.timer }
    brake := s.brake.later
    trip := s.trip.later
    doors := ⟨s.doors.one.later, s.doors.two.later⟩
    seqs := s.seqs.map SeqRecord.later
    pulses := s.pulses.map PulseRun.later
    gates := s.gates.later
    ports := ⟨s.ports.c.later, s.ports.f.later⟩
    dins := s.dins.map DinRecord.later } := if_pos h

/-- Settles O2: by the definition of one millisecond, record by record. -/
theorem emptyQueueLetsOneMillisecondPass : Obligations.EmptyQueueLetsOneMillisecondPass := by
  intro s hp
  have hstep : step s = .next (tick s) := by unfold step; rw [hp]
  refine ⟨fun hr => ?_, fun hr => ⟨tick s, hstep, ?_⟩⟩
  · rw [hstep, tick, if_neg hr]
  · rw [tick_running hr]
    refine ⟨rfl, fun ch => ?_, fun k => ?_, rfl, rfl, rfl, rfl, fun k => ?_, fun k sd => ?_, fun q => map_get .., fun i => map_get ..,
      rfl, fun q => ?_, fun i => map_get .., rfl⟩
    · cases ch <;> rfl
    · cases k
      · exact CarRecord.later_eq _
      · exact CarRecord.later_eq _
    · cases k <;> rfl
    · cases k <;> cases sd <;> exact ⟨rfl, fun c => map_get ..⟩
    · cases q <;> rfl

/-! ## Transmission -/

theorem canBegin_iff (p : Port) : canBegin p = true ↔ p.link = .UP ∧ p.sending = none ∧ (p.urgent ≠ [] ∨ p.normal ≠ []) := by
  unfold canBegin nextFrame
  cases p.urgent <;> cases p.normal <;> simp

theorem beginFrame_idle {q : PortId} {s : State} (h : canBegin (s.ports.get q) = false) : beginFrame q s = s := by
  unfold beginFrame
  rw [h]

theorem beginFrame_begun {q : PortId} {s : State} {f : OutFrame} (h : canBegin (s.ports.get q) = true)
    (hf : nextFrame (s.ports.get q) = some f) : beginFrame q s = announceBegun f (modPort q (withBegun f) s) := by
  unfold beginFrame
  rw [h, hf]

/-- The side whose outstanding release holds a begun order's token has its answer window running (R107). -/
theorem doorOrderBegun_side (k : CarId) (token : Byte) (s : State) (sd : Side) :
    let d := (s.doors.get k).sides.get sd
    ((doorOrderBegun k token s).doors.get k).sides.get sd = { d with
      outstanding := d.outstanding.map fun r =>
        if r.token = token then { r with window := some s.params.doorWindow.toNat } else r } := by
  have side : ∀ d : SideDoors, (match d.outstanding with
      | some o => if o.token = token then { d with outstanding := some { o with window := some s.params.doorWindow.toNat } } else d
      | none => d) = { d with outstanding := d.outstanding.map fun r =>
        if r.token = token then { r with window := some s.params.doorWindow.toNat } else r } := by
    rintro ⟨doors, released, _ | o⟩
    · rfl
    · dsimp only [Option.map]; split <;> rfl
  unfold doorOrderBegun
  simp only [modDoors_doors, PerCar.get_set_self]
  cases sd <;> exact side _

theorem doorOrderBegun_queued (k : CarId) (token : Byte) (s : State) : ((doorOrderBegun k token s).doors.get k).queued =
    if (s.doors.get k).queued.map DoorOrder.token = some token then none else (s.doors.get k).queued := by
  unfold doorOrderBegun
  simp only [modDoors_doors, PerCar.get_set_self]

/-- Settles O7: by what stands in the port's queues, and by the content of the begun frame. -/
theorem transmissionsTakeUrgentFirst : Obligations.TransmissionsTakeUrgentFirst := by
  refine ⟨fun q s hr => ⟨fun h => ?_, fun hl hs f rest => ⟨fun hu => ?_, fun hu hn => ?_⟩⟩, fun f n st o s hc ho => ?_,
    fun f k o s hc => ?_, fun q s hr => ⟨fun hs ht h => ?_, fun h => ?_, fun hs => ?_, fun hs => ?_⟩⟩
  · refine (plainly_eq hr).trans (congrArg _ (beginFrame_idle ?_))
    rw [← Bool.not_eq_true, canBegin_iff]
    tauto
  · have hb := (canBegin_iff (s.ports.get q)).mpr ⟨hl, hs, .inl (by simp [hu])⟩
    refine (plainly_eq hr).trans (congrArg _ ((beginFrame_begun (f := f) hb (by simp [nextFrame, hu])).trans ?_))
    simp only [modPort, withBegun, hu]
  · have hb := (canBegin_iff (s.ports.get q)).mpr ⟨hl, hs, .inr (by simp [hn])⟩
    refine (plainly_eq hr).trans (congrArg _ ((beginFrame_begun (f := f) hb (by simp [nextFrame, hu, hn])).trans ?_))
    simp only [modPort, withBegun, hu, hn, List.drop_one, List.tail_cons]
  · unfold announceBegun brakeOrderBegun
    rw [hc, ho]
    by_cases hb : f.role = some .BRAKE <;> by_cases hn : o.number = n <;> simp [hb, hn]
  · have hf : announceBegun f s = doorOrderBegun k o.token s := by unfold announceBegun; rw [hc]
    dsimp only
    rw [hf, doorOrderBegun_queued]
    refine ⟨fun h => if_pos h, fun h => if_neg h, fun sd => ?_, rfl⟩
    rw [doorOrderBegun_side]
    refine ⟨rfl, rfl, fun r hr => ?_⟩
    dsimp only
    rw [hr]
    rfl
  · have hb : canBegin (s.ports.get q) = false := by
      rw [← Bool.not_eq_true, canBegin_iff]
      tauto
    refine (plainly_eq hr).trans (congrArg _ ?_)
    simp [sendIdleMark, hs, ht, hb, modPort, Option.isSome_iff_ne_none]
  · refine (plainly_eq hr).trans (congrArg _ (if_neg ?_))
    rw [← canBegin_iff] at h
    rcases h with h | h | h <;> simp [h]
  · exact (plainly_eq hr).trans (congrArg _ (if_pos (Option.isSome_iff_ne_none.mpr hs)))
  · refine (plainly_eq hr).trans (congrArg _ (if_neg ?_))
    simp [hs]

end Sys2Proof.Machine
end

section
/-!
PROOFS. The discrete inputs (R170): the statement O8, and of the brake supervisor what an ended level cause leaves.
-/

namespace Sys2Proof.Machine

/-! ## Causes that end -/

/-- A level cause that ends leaves the others active, and every latch as it is (R55, R61). -/
theorem levelCause_ended (c : Cause) (s : State) :
    let t := levelCause c false s
    t.brake.active = s.brake.active.filter (· ≠ c) ∧ t.brake.latchS = s.brake.latchS ∧ t.brake.latchE = s.brake.latchE ∧
      t.brake.latchR = s.brake.latchR := by
  obtain ⟨_, _, _, _, _, _, _, h⟩ := stageRule_fields { s with brake := { s.brake with active := s.brake.active.filter (· ≠ c) } }
  have he : levelCause c false s = stageRule { s with brake := { s.brake with active := s.brake.active.filter (· ≠ c) } } := by
    unfold levelCause changeCauses causesAct
    simp only [Bool.false_eq_true, if_false, List.filter_nil, List.append_nil, List.map_nil, List.foldl_nil, List.any_nil, and_false,
      Bool.and_not_self]
    unfold announceIf
    simp only [Bool.false_eq_true, if_false]
    congr 5
    funext x
    simp
  simp only [he, h, and_self]

/-! ## Discrete inputs -/

theorem vset_vset {α : Type} {n : Nat} (v : Vector α n) (i : Fin n) (x y : α) : vset (vset v i x) i y = vset v i y := by
  simp [vset]

theorem vset_get {α : Type} {n : Nat} (v : Vector α n) (i : Fin n) : vset v i (v.get i) = v := by
  simp [vset, Vector.get_eq_getElem]

/-- The level that an input record shows: OPEN until a first level is accepted (R170). -/
def DinRecord.level (d : DinRecord) : Level := if d.filtered = some .CLOSED then .CLOSED else .OPEN

theorem dinLevel_eq (s : State) (i : Fin 8) : dinLevel s i = (s.dins.get i).level := by
  unfold dinLevel DinRecord.level
  rcases (s.dins.get i).filtered with _ | _ | _ <;> rfl

/-- The state with one input record replaced. -/
def State.withDin (s : State) (i : Fin 8) (d : DinRecord) : State := { s with dins := vset s.dins i d }

/-- What an event of input `i` does that leaves it the record `d` (R59, R85, R170). -/
structure InputFollows (i : Fin 8) (d : DinRecord) (s t : State) : Prop where
  rest : t.rest = { s.rest with dins := vset s.dins i d }
  brake : i ≠ 0 ∨ d.level = (s.dins.get i).level → t.brake = s.brake
  estop : i = 0 → d.level ≠ (s.dins.get i).level → (.ESTOP ∈ t.brake.active ↔ d.level = .OPEN) ∧
    (d.level = .OPEN → .ESTOP ∉ s.brake.active → t.brake.latchE ≠ none) ∧ (d.level = .CLOSED → t.brake.latchE = s.brake.latchE)
  auto : i = 1 → d.level ≠ (s.dins.get i).level → .tripAuto ∈ t.agenda

/-- A record that shows the level it showed changes nothing else. -/
theorem inputFollows_same {i : Fin 8} {d : DinRecord} {s : State} (h : d.level = (s.dins.get i).level) :
    InputFollows i d s (s.withDin i d) :=
  ⟨rfl, fun _ => rfl, fun _ hne => absurd h hne, fun _ hne => absurd h hne⟩

theorem withDin_withDin (s : State) (i : Fin 8) (d e : DinRecord) : (s.withDin i d).withDin i e = s.withDin i e := by
  unfold State.withDin
  rw [vset_vset]

@[simp] theorem withDin_get (s : State) (i : Fin 8) (d : DinRecord) : (s.withDin i d).dins.get i = d := by
  simp [State.withDin]

theorem acceptLevel_eq (i : Fin 8) (l : Level) (s : State) :
    let d : DinRecord := ⟨(s.dins.get i).raw, some l, none⟩
    acceptLevel i l s = if d.level = (s.dins.get i).level then s.withDin i d else if i = 0 then evalEstop (s.withDin i d)
      else if i = 1 then announce .tripAuto (s.withDin i d) else s.withDin i d := by
  unfold acceptLevel
  simp only [dinLevel_eq, vmod_get_self]
  rfl

/-- What ESTOP and latch E are after the filter record of DIN0 shows a new level (R59). -/
theorem evalEstop_withDin (s : State) (d : DinRecord) :
    let t := evalEstop (s.withDin 0 d)
    (.ESTOP ∈ t.brake.active ↔ d.level = .OPEN) ∧ (d.level = .OPEN → .ESTOP ∉ s.brake.active → t.brake.latchE ≠ none) ∧
      (d.level = .CLOSED → t.brake.latchE = s.brake.latchE) := by
  unfold evalEstop
  rw [dinLevel_eq, withDin_get]
  cases d.level with
  | OPEN =>
    obtain ⟨b, p, v, w, a, e, hact, -, -, -, hlatch⟩ := levelCause_holds .ESTOP (s.withDin 0 d)
    simp only [beq_self_eq_true, e]
    exact ⟨iff_of_true hact trivial, fun _ hno => (hlatch hno).2.1 rfl, nofun⟩
  | CLOSED =>
    obtain ⟨hact, -, hE, -⟩ := levelCause_ended .ESTOP (s.withDin 0 d)
    refine ⟨iff_of_false (fun hm => ?_) nofun, nofun, fun _ => hE⟩
    rw [show (Level.CLOSED == .OPEN) = false from rfl, hact] at hm
    simp at hm

/-- The filter accepts a level: the record, and by the input what its change leads to (R170). -/
theorem acceptLevel_follows (i : Fin 8) (raw l : Level) (timer : Timer) (s : State) :
    InputFollows i ⟨raw, some l, none⟩ s (acceptLevel i l (s.withDin i ⟨raw, (s.dins.get i).filtered, timer⟩)) := by
  rw [acceptLevel_eq, withDin_get, withDin_withDin]
  split
  next h => exact inputFollows_same h
  next h =>
    have changed {P Q : Prop} : (Q ∨ (DinRecord.mk raw (some l) none).level = (s.dins.get i).level) → (Q → P) → P :=
      fun hc hq => hc.elim hq fun e => absurd e h
    split
    next h0 =>
      subst h0
      exact ⟨evalEstop_rest _, fun hc => changed hc (absurd rfl), fun _ _ => evalEstop_withDin s _, nofun⟩
    next h0 =>
      split
      next h1 => exact ⟨rfl, fun _ => rfl, fun hc => absurd hc h0, fun _ _ => by simp⟩
      next h1 => exact ⟨rfl, fun _ => rfl, fun hc => absurd hc h0, fun hc => absurd hc h1⟩

theorem filterExpires_follows {i : Fin 8} {s : State} (h : (s.dins.get i).timer ≠ none) :
    InputFollows i { s.dins.get i with filtered := some (s.dins.get i).raw, timer := none } s (filterExpires i s) := by
  have hs : s.withDin i (s.dins.get i) = s := by unfold State.withDin; rw [vset_get]
  have hf := acceptLevel_follows i (s.dins.get i).raw (s.dins.get i).raw (s.dins.get i).timer s
  rw [show DinRecord.mk (s.dins.get i).raw (s.dins.get i).filtered (s.dins.get i).timer = s.dins.get i from rfl, hs] at hf
  unfold filterExpires
  rwa [if_neg (by simpa using h)]

/-- An event of an input that follows its record is the statement's next state. -/
theorem input_next {c : Instr} {f : State → State} {i : Fin 8} {d : DinRecord} {s : State} (hr : s.power = .RUNNING)
    (hc : exec c s = event f s) (h : InputFollows i d s (f s)) :
    ∃ u, exec c s = .next (settle u) ∧ (settle u).rest = { s.rest with dins := vset s.dins i d } ∧
      (i ≠ 0 ∨ d.level = (s.dins.get i).level → u.brake = s.brake) ∧
      (i = 0 → d.level ≠ (s.dins.get i).level → (.ESTOP ∈ u.brake.active ↔ d.level = .OPEN) ∧
        (d.level = .OPEN → .ESTOP ∉ s.brake.active → u.brake.latchE ≠ none) ∧
        (d.level = .CLOSED → u.brake.latchE = s.brake.latchE)) ∧
      (i = 1 → d.level ≠ (s.dins.get i).level → .tripAuto ∈ u.agenda) := by
  obtain ⟨l, hl⟩ := react_eq f s
  have hb : (react f s).brake = (f s).brake := by rw [hl]
  refine ⟨react f s, hc.trans (event_eq hr), ?_, ?_, ?_, fun h1 h2 => ?_⟩
  · rw [settle_rest, react_rest, h.rest]
  · rw [hb]; exact h.brake
  · rw [hb]; exact h.estop
  · rw [hl]
    exact List.mem_append_left _ (h.auto h1 h2)

/-- Settles O8: the filter record by the cases of R170; a changed level goes on to what the input stands for. -/
theorem inputFilterFollowsTheRawLevel : Obligations.InputFilterFollowsTheRawLevel := by
  intro i l s hr
  have hraw : exec (.rawLevelChange i l) s = event (rawChange i l) s := if_pos hr
  have hself : InputFollows i (s.dins.get i) s s := by
    have h := inputFollows_same (i := i) (d := s.dins.get i) (s := s) rfl
    unfold State.withDin at h
    rwa [vset_get] at h
  refine ⟨fun h => ?_, fun h hf => ?_, fun h hf hms => ?_, fun h hf hms => ?_, fun h => ?_, fun h => ?_⟩
  · refine input_next hr hraw ?_
    unfold rawChange
    rwa [if_pos h]
  · refine input_next hr hraw ?_
    unfold rawChange
    rw [if_neg h, if_pos hf]
    simp only [vmod, vset_vset, vset_get_self]
    exact inputFollows_same rfl
  · refine input_next hr hraw ?_
    unfold rawChange
    rw [if_neg h, if_neg hf, if_pos hms]
    exact acceptLevel_follows i l l _ s
  · refine input_next hr hraw ?_
    unfold rawChange
    rw [if_neg h, if_neg hf, if_neg hms]
    simp only [vmod, vset_vset, vset_get_self]
    exact inputFollows_same rfl
  · exact input_next hr rfl (filterExpires_follows h)
  · refine input_next hr rfl ?_
    unfold filterExpires
    rwa [if_pos (by simp [h])]

end Sys2Proof.Machine
end

section
/-!
PROOFS. The position unit (chapter 1): what its tests do to the position record (R9, R10, R18 to R20), and samples: the statements O9 to O12.
-/

namespace Sys2Proof.Machine

/-! ## What stays outside the position record -/

theorem pos_of_rest {t : State} {r : Rest} (h : t.rest = r) : t.pos = r.pos := congrArg Rest.pos h

theorem activeB_of_rest {t : State} {r : Rest} (h : t.rest = r) : t.active.b = r.activeB := congrArg Rest.activeB h

theorem modPos_rest (f : Position → Position) (s : State) : (modPos f s).rest = { s.rest with pos := f s.pos } := rfl

theorem modCar_rest (k : CarId) (f : CarRecord → CarRecord) (s : State) :
    (modCar k f s).rest = { s.rest with pos := { s.pos with cars := s.pos.cars.set k (f (s.pos.cars.get k)) } } := rfl

theorem modChan_rest (ch : Channel) (f : ChannelState → ChannelState) (s : State) :
    (modChan ch f s).rest = { s.rest with pos := { s.pos with chan := s.pos.chan.set ch (f (s.pos.chan.get ch)) } } := rfl

theorem announceCrossing_rest (a b : State) : (announceCrossing a b).rest = b.rest := by
  unfold announceCrossing
  split <;> rfl

theorem announceStandstill_rest (a b : State) : (announceStandstill a b).rest = b.rest := by
  unfold announceStandstill
  split
  · rfl
  · exact evalLinkCause_rest b

/-- The next state of a frame command keeps, of what announcements never change, what the handling of its payload gave. -/
theorem received_rest {s : State} {hdr : Header} {pl : Payload} {e : NodeEntry} {f : State → State} (h : acceptedFrom s hdr pl e)
    (hf : handlePayload hdr e pl (heardOn hdr.port s) = react f (heardOn hdr.port s)) :
    ∃ t, Machine.running (receivePayload hdr pl) s = .next t ∧ t.rest = (f (heardOn hdr.port s)).rest :=
  ⟨_, running_receive h, by rw [hf, settle_rest, react_rest]⟩

/-- The next state of an event keeps, of what announcements never change, what the event gave. -/
theorem event_rest {f : State → State} {s : State} (h : s.power = .RUNNING) :
    ∃ t, event f s = .next t ∧ t.rest = (f s).rest :=
  ⟨_, event_eq h, by rw [settle_rest, react_rest]⟩

/-! ## The measured speed and standstill (R9, R10) -/

/-- A valid channel has the speed of its window (R9). -/
theorem speedOf_eq (s : State) (ch : Channel) : speedOf s ch = if 2 ≤ (s.pos.chan.get ch).window.length then
    some (windowSpeed s.active.b ch (s.pos.chan.get ch).window) else none := by
  unfold speedOf channelSpeed newest
  match hw : (s.pos.chan.get ch).window with
  | [] => rfl
  | [_] => rfl
  | o :: x :: l =>
    have hlen : 2 ≤ (o :: x :: l).length := by simp
    have hlast : (o :: x :: l).getLast? = some ((o :: x :: l).getLast (by simp)) := List.getLast?_eq_some_getLast _
    rw [if_pos hlen, hlast]
    simp only [windowSpeed, hlast, List.head?_cons]
    rfl

theorem speedOf_isSome (s : State) (ch : Channel) : (speedOf s ch).isSome = channelValid (s.pos.chan.get ch) := by
  rw [speedOf_eq]
  unfold channelValid
  split <;> simp [*]

theorem drivingChannel_eq (p : Position) : drivingChannel p = if 2 ≤ (p.chan.get .A).window.length then some .A
    else if 2 ≤ (p.chan.get .B).window.length then some .B else none := by
  unfold drivingChannel channelValid
  simp only [decide_eq_true_eq]
  rfl

/-- Recomputing the measured speed changes it, standstill and its timer alone (R9, R10). -/
theorem recomputeMeasured_eq (s : State) : ∃ b x, recomputeMeasured s =
    { s with pos := { s.pos with measured := measuredFrom s, standstill := b, standstillTimer := x } } ∧
    (s.params.standstillSpeed.toNat < (measuredFrom s).natAbs ∨ drivingChannel s.pos = none → b = false ∧ x = none) ∧
    ((measuredFrom s).natAbs ≤ s.params.standstillSpeed.toNat → drivingChannel s.pos ≠ none → b = s.pos.standstill ∧
      x = if s.pos.standstill = false ∧ s.pos.standstillTimer = none then some s.params.standstillTime.toNat
        else s.pos.standstillTimer) := by
  have hd : drivingChannel { s.pos with measured := measuredFrom s } = drivingChannel s.pos := rfl
  have hp : (modPos (fun p => { p with measured := measuredFrom s }) s).params = s.params := rfl
  unfold recomputeMeasured standstillRule aboveThreshold State.speedNow
  simp only [modPos_pos, hd, hp, Bool.or_eq_true, decide_eq_true_eq, Option.isNone_iff_eq_none, Bool.and_eq_true,
    Bool.not_eq_true']
  split
  next h => exact ⟨false, none, rfl, fun _ => ⟨rfl, rfl⟩, fun hle hne => absurd h (not_or.mpr ⟨Nat.not_lt.mpr hle, hne⟩)⟩
  next h =>
    split
    next hs => exact ⟨s.pos.standstill, _, rfl, fun h' => absurd h' h, fun _ _ => ⟨rfl, rfl⟩⟩
    next hs => exact ⟨s.pos.standstill, s.pos.standstillTimer, rfl, fun h' => absurd h' h, fun _ _ => ⟨rfl, rfl⟩⟩

/-- The measured speed has the largest magnitude of the valid channels and the sign of the driving one (R9). -/
theorem measuredFrom_natAbs (s : State) (h : drivingChannel s.pos ≠ none) :
    (measuredFrom s).natAbs = max (magOf (speedOf s .A)) (magOf (speedOf s .B)) := by
  unfold measuredFrom
  dsimp only
  split
  next he => exact absurd he h
  next ch _ =>
    split
    · exact Int.natAbs_neg _
    · split
      · rfl
      · split
        next hz => rw [hz]; rfl
        next => split
                · exact Int.natAbs_neg _
                · rfl

theorem measuredFrom_sign (s : State) (h : drivingChannel s.pos ≠ none) :
    let v := if 2 ≤ (s.pos.chan.get .A).window.length then (speedOf s .A).getD 0 else (speedOf s .B).getD 0
    (0 < v → 0 ≤ measuredFrom s) ∧ (v < 0 → measuredFrom s ≤ 0) := by
  have sign : ∀ ch, drivingChannel s.pos = some ch → ∀ v, (speedOf s ch).getD 0 = v →
      (0 < v → 0 ≤ measuredFrom s) ∧ (v < 0 → measuredFrom s ≤ 0) := by
    rintro ch hch v hv
    unfold measuredFrom
    rw [hch]
    dsimp only
    rw [hv]
    refine ⟨fun hp => ?_, fun hn => ?_⟩
    · rw [if_neg (by omega), if_pos hp]
      omega
    · rw [if_pos hn]
      omega
  rw [drivingChannel_eq] at h sign
  split at h
  next hA => exact sign .A (if_pos hA) _ (if_pos hA).symm
  next hA =>
    split at h
    next hB => exact sign .B (by rw [if_neg hA, if_pos hB]) _ (if_neg hA).symm
    next => exact absurd rfl h

/-- A recomputation of the measured speed follows R9 and R10. -/
theorem recomputeMeasured_follows {s u : State} (hb : u.active.b = s.active.b) (hm : u.pos.measured = s.pos.measured)
    (hs : u.pos.standstill = s.pos.standstill) (ht : u.pos.standstillTimer = s.pos.standstillTimer) :
    measuredFollows s (recomputeMeasured u) := by
  obtain ⟨b, x, e, hstop, hgo⟩ := recomputeMeasured_eq u
  have hp : u.params = s.params := by unfold State.params; rw [hb]
  have hmag : ∀ ch, magOf (speedOf u ch) = (if 2 ≤ (u.pos.chan.get ch).window.length then
      windowSpeed s.active.b ch (u.pos.chan.get ch).window else 0).natAbs := by
    intro ch
    rw [speedOf_eq, hb]
    split <;> rfl
  have hdriving : ∀ ch, (speedOf u ch).getD 0 = if 2 ≤ (u.pos.chan.get ch).window.length then
      windowSpeed s.active.b ch (u.pos.chan.get ch).window else 0 := by
    intro ch
    rw [speedOf_eq, hb]
    split <;> rfl
  unfold measuredFollows
  rw [e, ← hm, ← hs, ← ht, ← hp]
  dsimp only
  refine ⟨fun hA hB => ?_, fun hAB => ?_⟩
  · have hn : drivingChannel u.pos = none := by rw [drivingChannel_eq, if_neg hA, if_neg hB]
    refine ⟨?_, hstop (.inr hn)⟩
    unfold measuredFrom
    rw [hn]
  · have hn : drivingChannel u.pos ≠ none := by
      rw [drivingChannel_eq]
      split
      · simp
      · rw [if_pos (hAB.resolve_left ‹_›)]; simp
    have habs := measuredFrom_natAbs u hn
    rw [hmag, hmag] at habs
    have hsign := measuredFrom_sign u hn
    rw [hdriving, hdriving] at hsign
    exact ⟨habs, hsign.1, hsign.2, fun h => hstop (.inl (habs ▸ h)), fun h => hgo (habs ▸ h) hn⟩

/-- What R9 and R10 say of a state is read from its windows, its measured speed, standstill and the timer. -/
theorem measuredFollows_congr {s t u : State} (h : measuredFollows s t) (hc : u.pos.chan = t.pos.chan)
    (hm : u.pos.measured = t.pos.measured) (hs : u.pos.standstill = t.pos.standstill)
    (ht : u.pos.standstillTimer = t.pos.standstillTimer) : measuredFollows s u := by
  unfold measuredFollows at h ⊢
  rw [hc, hm, hs, ht]
  exact h

/-! ## Discrepancy and slip (R19, R20) -/

/-- The discrepancy test changes the discrepancy and its timer alone (R19). -/
theorem discrepancyTest_rest (s : State) : ∃ d x,
    (discrepancyTest s).rest = { s.rest with pos := { s.pos with discrepancyTimer := x, discrepancy := d } } ∧
    (∀ va vb, speedOf s .A = some va → speedOf s .B = some vb →
      (100 + s.pos.measured.natAbs / 50 < (va - vb).natAbs → d = s.pos.discrepancy ∧
        x = if s.pos.discrepancyTimer = none ∧ s.pos.discrepancy = false then some 100 else s.pos.discrepancyTimer) ∧
      ((va - vb).natAbs ≤ 100 + s.pos.measured.natAbs / 50 → d = false ∧ x = none)) ∧
    (speedOf s .A = none ∨ speedOf s .B = none → d = false ∧ x = none) := by
  have hend : (endDiscrepancy s).rest = { s.rest with pos := { s.pos with discrepancyTimer := none, discrepancy := false } } :=
    levelCause_rest ..
  unfold discrepancyTest State.speedNow
  split
  next va vb hA hB =>
    have both {P : Prop} : speedOf s .A = none ∨ speedOf s .B = none → P := fun h => by simp [hA, hB] at h
    have only {P : Int → Int → Prop} (h : P va vb) : ∀ x y, speedOf s .A = some x → speedOf s .B = some y → P x y := by
      intro x y hx hy
      rw [hA] at hx
      rw [hB] at hy
      cases hx
      cases hy
      exact h
    simp only [Bool.and_eq_true, Option.isNone_iff_eq_none, Bool.not_eq_true']
    split
    next hd =>
      split
      next hs => exact ⟨s.pos.discrepancy, some 100, rfl, only ⟨fun _ => ⟨rfl, rfl⟩, fun h => by omega⟩, both⟩
      next hs =>
        exact ⟨s.pos.discrepancy, s.pos.discrepancyTimer, rfl, only ⟨fun _ => ⟨rfl, rfl⟩, fun h => by omega⟩, both⟩
    next hd => exact ⟨false, none, hend, only ⟨fun h => absurd h hd, fun _ => ⟨rfl, rfl⟩⟩, both⟩
  next hno =>
    exact ⟨false, none, hend, fun va vb hA hB => absurd hB (hno va vb hA), fun _ => ⟨rfl, rfl⟩⟩

/-- A discrepancy test follows R19. -/
theorem discrepancyTest_follows {s u : State} (hb : u.active.b = s.active.b) (hd : u.pos.discrepancy = s.pos.discrepancy)
    (ht : u.pos.discrepancyTimer = s.pos.discrepancyTimer) : discrepancyFollows s (discrepancyTest u) := by
  obtain ⟨d, x, hr, hboth, -⟩ := discrepancyTest_rest u
  have hp : (discrepancyTest u).pos = { u.pos with discrepancyTimer := x, discrepancy := d } := pos_of_rest hr
  unfold discrepancyFollows
  rw [hp, ← hb, ← hd, ← ht]
  intro w difference tolerance hA hB
  have hvA : speedOf u .A = some (windowSpeed u.active.b .A (w .A)) := by rw [speedOf_eq]; exact if_pos hA
  have hvB : speedOf u .B = some (windowSpeed u.active.b .B (w .B)) := by rw [speedOf_eq]; exact if_pos hB
  exact hboth _ _ hvA hvB

theorem discrepancyFollows_congr {s t u : State} (h : discrepancyFollows s t) (hc : u.pos.chan = t.pos.chan)
    (hm : u.pos.measured = t.pos.measured) (hd : u.pos.discrepancy = t.pos.discrepancy)
    (ht : u.pos.discrepancyTimer = t.pos.discrepancyTimer) : discrepancyFollows s u := by
  unfold discrepancyFollows at h ⊢
  rw [hc, hm, hd, ht]
  exact h

theorem carSpeedUp_eq (k : CarId) (v : Int) : carSpeedUp k v = if k = .car1 then v else -v := by cases k <;> rfl

/-- The record of car `k` after its slip test (R20). -/
def slipAfter (k : CarId) (p : Position) : CarRecord :=
  let c := p.cars.get k
  if c.linkUp = false then c
  else if c.speed ≠ none ∧ drivingChannel p ≠ none ∧ 300 < (carSpeedUp k (c.speed.getD 0) - p.measured).natAbs then
    if c.slipTimer = none ∧ c.slip = false then { c with slipTimer := some 200 } else c
  else { c with slipTimer := none, slip := false }

theorem PerCar.set_get {α : Type} (p : PerCar α) (k : CarId) : p.set k (p.get k) = p := by
  cases k <;> rfl

/-- The slip test of a car changes its record alone (R20). -/
theorem slipTest_rest (k : CarId) (s : State) :
    (slipTest k s).rest = { s.rest with pos := { s.pos with cars := s.pos.cars.set k (slipAfter k s.pos) } } := by
  have goal : ∀ (c : CarRecord) (t : State), slipAfter k s.pos = c → t.rest = { s.rest with pos := { s.pos with cars := s.pos.cars.set k c } } →
      t.rest = { s.rest with pos := { s.pos with cars := s.pos.cars.set k (slipAfter k s.pos) } } := by
    rintro _ t rfl h
    exact h
  have hend : (endSlip k s).rest = { s.rest with
      pos := { s.pos with cars := s.pos.cars.set k { s.pos.cars.get k with slipTimer := none, slip := false } } } := levelCause_rest ..
  have hself : s.rest = { s.rest with pos := { s.pos with cars := s.pos.cars.set k (s.pos.cars.get k) } } := by
    rw [PerCar.set_get]
    rfl
  unfold slipTest State.car
  dsimp only
  simp only [Bool.not_eq_true', Bool.and_eq_true, Option.isNone_iff_eq_none]
  split
  next hl => exact goal _ _ (if_pos hl) hself
  next hl =>
    split
    next v ch hv hd =>
      split
      next hgt =>
        have hfar : (s.pos.cars.get k).speed ≠ none ∧ drivingChannel s.pos ≠ none ∧
            300 < (carSpeedUp k ((s.pos.cars.get k).speed.getD 0) - s.pos.measured).natAbs := by simp [hv, hd, hgt]
        split
        next hs => exact goal _ _ ((if_neg hl).trans ((if_pos hfar).trans (if_pos hs))) rfl
        next hs => exact goal _ _ ((if_neg hl).trans ((if_pos hfar).trans (if_neg hs))) hself
      next hgt => exact goal _ _ ((if_neg hl).trans (if_neg (by simp [hv, hgt]))) hend
    next hno =>
      refine goal _ _ ((if_neg hl).trans (if_neg fun hc => ?_)) hend
      obtain ⟨v, hv⟩ := Option.ne_none_iff_exists'.mp hc.1
      obtain ⟨ch, hd⟩ := Option.ne_none_iff_exists'.mp hc.2.1
      exact hno v ch hv hd

/-- A car record as the slip test leaves it is as R20 says. -/
theorem slipFollows_of_after {k : CarId} {s t : State} {p : Position} (h : t.pos.cars.get k = slipAfter k p)
    (hslip : (p.cars.get k).slip = (s.pos.cars.get k).slip) (htimer : (p.cars.get k).slipTimer = (s.pos.cars.get k).slipTimer)
    (hc : t.pos.chan = p.chan) (hm : t.pos.measured = p.measured) : slipFollows k s t := by
  have hd : drivingChannel t.pos = drivingChannel p := by unfold drivingChannel; rw [hc]
  unfold slipFollows
  dsimp only
  rw [h, hd, hm, ← hslip, ← htimer]
  unfold slipAfter
  dsimp only
  by_cases hl : (p.cars.get k).linkUp = false
  · rw [if_pos hl]
    simp [hl]
  · rw [if_neg hl]
    split
    next hfar =>
      obtain ⟨hv, hdr, hgt⟩ := hfar
      obtain ⟨v, hv'⟩ := Option.ne_none_iff_exists'.mp hv
      rw [hv', Option.getD_some, carSpeedUp_eq] at hgt
      split
      all_goals
        refine ⟨fun h => absurd h hl, fun _ hno => absurd (hno.resolve_left hv) hdr, fun _ _ x hx => ⟨fun _ => ⟨rfl, rfl⟩, fun hle => ?_⟩⟩
        obtain rfl : v = x := Option.some.inj (hv'.symm.trans hx)
        omega
    next hnear =>
      refine ⟨fun h => absurd h hl, fun _ _ => ⟨rfl, rfl⟩, fun _ hdr x hx => ⟨fun hgt => absurd ⟨?_, hdr, ?_⟩ hnear, fun _ => ⟨rfl, rfl⟩⟩⟩
      · simp [show (p.cars.get k).speed = some x from hx]
      · rw [show (p.cars.get k).speed = some x from hx, Option.getD_some, carSpeedUp_eq]
        exact hgt

/-! ## What follows a change of the windows -/

/-- The measured speed recomputed, the sample loss ended where `v`, and the discrepancy tested (R9, R10, R18, R19). -/
def revalued (v : Bool) (s : State) : State :=
  discrepancyTest (if v then endSampleLoss (recomputeMeasured s) else recomputeMeasured s)

/-- What follows a change of the windows changes measured speed, standstill, discrepancy and, where `v`, the sample loss alone. -/
theorem revalued_rest {v : Bool} {s u : State} (hb : u.active.b = s.active.b) (hm : u.pos.measured = s.pos.measured)
    (hs : u.pos.standstill = s.pos.standstill) (ht : u.pos.standstillTimer = s.pos.standstillTimer)
    (hd : u.pos.discrepancy = s.pos.discrepancy) (hdt : u.pos.discrepancyTimer = s.pos.discrepancyTimer) :
    ∃ m b x d y, (revalued v u).rest = { u.rest with pos := { u.pos with
      measured := m
      standstill := b
      standstillTimer := x
      lineSampleTimer := if v then some s.params.sampleLossTime.toNat else u.pos.lineSampleTimer
      sampleLoss := if v then false else u.pos.sampleLoss
      discrepancyTimer := y
      discrepancy := d } } ∧
      measuredFollows s (revalued v u) ∧ discrepancyFollows s (revalued v u) ∧
      ((∃ ch, (u.pos.chan.get ch).window.length < 2) → d = false ∧ y = none) := by
  obtain ⟨b, x, hr, -, -⟩ := recomputeMeasured_eq u
  have hfollow := recomputeMeasured_follows hb hm hs ht
  have hbr : (recomputeMeasured u).active.b = s.active.b := by rw [hr]; exact hb
  have hpr : (recomputeMeasured u).params = s.params := congrArg GroupB.params hbr
  have hl : (endSampleLoss (recomputeMeasured u)).rest = { (recomputeMeasured u).rest with pos := { (recomputeMeasured u).pos with
      sampleLoss := false, lineSampleTimer := some s.params.sampleLossTime.toNat } } := by
    rw [← hpr]
    exact levelCause_rest ..
  have hmid : ∃ w, w = (if v then endSampleLoss (recomputeMeasured u) else recomputeMeasured u) ∧
      w.rest = { u.rest with pos := { u.pos with
        measured := measuredFrom u
        standstill := b
        standstillTimer := x
        lineSampleTimer := if v then some s.params.sampleLossTime.toNat else u.pos.lineSampleTimer
        sampleLoss := if v then false else u.pos.sampleLoss } } ∧
      w.active.b = s.active.b := by
    refine ⟨_, rfl, ?_⟩
    cases v with
    | false => exact ⟨by rw [if_neg (by decide), hr]; rfl, hbr⟩
    | true => exact ⟨by rw [if_pos rfl, hl, hr]; rfl, (activeB_of_rest hl).trans hbr⟩
  obtain ⟨w, hw, hwr, hwb⟩ := hmid
  have hwp := pos_of_rest hwr
  unfold revalued
  rw [← hw]
  obtain ⟨d, y, hdr, -, hnone⟩ := discrepancyTest_rest w
  have hdp := pos_of_rest hdr
  refine ⟨measuredFrom u, b, x, d, y, ?_, ?_, ?_, fun ⟨ch, hch⟩ => hnone ?_⟩
  · rw [hdr, hwr, hwp]
  · refine measuredFollows_congr hfollow ?_ ?_ ?_ ?_
    all_goals rw [hdp, hwp, hr]
  · exact discrepancyTest_follows hwb (by rw [hwp]; exact hd) (by rw [hwp]; exact hdt)
  · have hlt : speedOf w ch = none := by rw [speedOf_eq, hwp]; exact if_neg (Nat.not_le.mpr hch)
    cases ch
    · exact .inl hlt
    · exact .inr hlt

/-! ## Samples (R5 to R8) -/

/-- The check that decides sample `p` in state `s`, and its entry (R5). -/
def checkOf (p : SampleP) (s : State) : SampleCheck :=
  sampleCheck (channelScale s.active.b p.channel).toNat (channelInverted s.active.b p.channel) (s.pos.chan.get p.channel) p.status
    ⟨p.count, p.stamp⟩

section
variable {p : SampleP} {s : State}

theorem countDiff_natAbs (inverted : Bool) (o n : SampleEntry) : (countDiff inverted o n).natAbs = (n.count - o.count).toInt.natAbs := by
  unfold countDiff
  split
  · exact Int.natAbs_neg _
  · rfl

theorem checkOf_headFault (h : p.status = .HEAD_FAULT) : checkOf p s = .headFault := by
  unfold checkOf sampleCheck
  rw [h]

theorem checkOf_first (h : p.status = .NORMAL) (hn : newest (s.pos.chan.get p.channel).window = none) : checkOf p s = .first := by
  unfold checkOf sampleCheck
  rw [h, hn]

/-- With a newest entry the check of a NORMAL sample goes by the stamp difference and the speed (R5). -/
theorem checkOf_normal {n : SampleEntry} (h : p.status = .NORMAL) (hn : newest (s.pos.chan.get p.channel).window = some n) :
    checkOf p s = if (p.stamp - n.stamp).toNat = 0 then .duplicate else if 2000 < (p.stamp - n.stamp).toNat then .gap
      else if 25000 < (p.count - n.count).toInt.natAbs * (channelScale s.active.b p.channel).toNat * 10 / (p.stamp - n.stamp).toNat then
        .implausible else .accepted := by
  unfold checkOf sampleCheck
  rw [h, hn]
  simp only [countDiff_natAbs, stampDiff]

/-- A discarded sample that leaves its channel's validity changes that channel alone (R5). -/
theorem takeSample_discarded {k : SampleCheck} (hk : checkOf p s = k) (ha : accepts k = false)
    (hv : channelValid (s.pos.chan.get p.channel) = channelValid (channelAfter k ⟨p.count, p.stamp⟩ (s.pos.chan.get p.channel))) :
    takeSample p s = modChan p.channel (channelAfter k ⟨p.count, p.stamp⟩) s := by
  unfold takeSample
  dsimp only
  rw [show sampleCheck _ _ _ _ _ = k from hk, if_neg (by simp [ha]), if_pos]
  simpa [modChan] using hv

/-- A discarded sample that empties the window of a valid channel has what is left revalued (R5, R9, R19). -/
theorem takeSample_invalidated {k : SampleCheck} (hk : checkOf p s = k) (ha : accepts k = false)
    (hv : channelValid (s.pos.chan.get p.channel) ≠ channelValid (channelAfter k ⟨p.count, p.stamp⟩ (s.pos.chan.get p.channel))) :
    (takeSample p s).rest = (revalued false (modChan p.channel (channelAfter k ⟨p.count, p.stamp⟩) s)).rest := by
  unfold takeSample
  dsimp only
  rw [show sampleCheck _ _ _ _ _ = k from hk, if_neg (by simp [ha]), if_neg, announceCrossing_rest, announceStandstill_rest]
  · rfl
  · simpa [modChan] using hv

/-- A sample's channel after it was accepted: the window, and the silence timer restarted (R5, R6). -/
def channelHeard (k : SampleCheck) (p : SampleP) (s : State) : ChannelState :=
  { channelAfter k ⟨p.count, p.stamp⟩ (s.pos.chan.get p.channel) with silence := some s.params.sampleLossTime.toNat }

/-- The state of an accepted sample before its travel. -/
def sampleHeard (k : SampleCheck) (p : SampleP) (s : State) : State :=
  modPos (fun x => { x with chan := x.chan.set p.channel (channelHeard k p s) }) s

theorem sampleHeard_eq (k : SampleCheck) (p : SampleP) (s : State) :
    modChan p.channel (fun c => { c with silence := some s.params.sampleLossTime.toNat })
      (modChan p.channel (channelAfter k ⟨p.count, p.stamp⟩) s) = sampleHeard k p s := by
  unfold modChan sampleHeard channelHeard modPos
  cases p.channel <;> rfl

theorem recomputeMeasured_chan (s : State) : (recomputeMeasured s).pos.chan = s.pos.chan := by
  obtain ⟨b, x, h, -⟩ := recomputeMeasured_eq s
  rw [h]

/-- A sample that is accepted without travel has what its channel shows revalued (R5, R6, R9, R18, R19). -/
theorem takeSample_still {k : SampleCheck} (hk : checkOf p s = k) (ha : accepts k = true)
    (hno : ¬ (drivingChannel s.pos = some p.channel ∧ drivingChannel (sampleHeard k p s).pos = some p.channel)) :
    (takeSample p s).rest = (revalued (channelValid (channelHeard k p s)) (sampleHeard k p s)).rest := by
  have hd : ((drivingChannel s.pos == some p.channel) && (drivingChannel (sampleHeard k p s).pos == some p.channel)) = false := by
    rwa [← Bool.not_eq_true, Bool.and_eq_true, beq_iff_eq, beq_iff_eq]
  unfold takeSample
  dsimp only
  rw [show sampleCheck _ _ _ _ _ = k from hk, if_pos ha, announceIf_rest, announceCrossing_rest, announceStandstill_rest,
    show modChan p.channel _ (modChan p.channel _ s) = _ from sampleHeard_eq k p s, hd]
  simp only [Bool.false_eq_true, if_false, recomputeMeasured_chan]
  rw [show (sampleHeard k p s).pos.chan.get p.channel = channelHeard k p s from PerChannel.get_set_self ..]
  rfl

/-- An accepted sample of the driving channel moves rope and cars, and the slip of both cars is tested (R8, R20). -/
theorem takeSample_drives {k : SampleCheck} {n : SampleEntry} (hk : checkOf p s = k) (ha : accepts k = true)
    (hn : newest (s.pos.chan.get p.channel).window = some n) (hd : drivingChannel s.pos = some p.channel)
    (hd' : drivingChannel (sampleHeard k p s).pos = some p.channel) :
    (takeSample p s).rest = (slipTest .car2 (slipTest .car1 (revalued (channelValid (channelHeard k p s))
      (addTravel (BitVec.ofInt 48 (countDiff (channelInverted s.active.b p.channel) n ⟨p.count, p.stamp⟩ *
        (channelScale s.active.b p.channel).toNat)) (sampleHeard k p s))))).rest := by
  have hb : ((drivingChannel s.pos == some p.channel) && (drivingChannel (sampleHeard k p s).pos == some p.channel)) = true := by
    rw [Bool.and_eq_true, beq_iff_eq, beq_iff_eq]
    exact ⟨hd, hd'⟩
  unfold takeSample
  dsimp only
  rw [show sampleCheck _ _ _ _ _ = k from hk, if_pos ha, announceIf_rest, announceCrossing_rest, announceStandstill_rest,
    show modChan p.channel _ (modChan p.channel _ s) = _ from sampleHeard_eq k p s, hb, hn]
  simp only [if_true, recomputeMeasured_chan]
  rw [show (addTravel _ (sampleHeard k p s)).pos.chan.get p.channel = channelHeard k p s from PerChannel.get_set_self ..]
  rfl

end

/-! ## O9: discarded samples -/

/-- Neither rope nor cars move, and no channel but `ch` changes (R5, R8). -/
def motionKept (ch : Channel) (s t : State) : Prop :=
  t.pos.ropeTravel = s.pos.ropeTravel ∧
    (∀ k, (t.pos.cars.get k).accumulator = (s.pos.cars.get k).accumulator ∧
      (t.pos.cars.get k).referenced = (s.pos.cars.get k).referenced) ∧
    (∀ x, x ≠ ch → t.pos.chan.get x = s.pos.chan.get x)

/-- Measured speed, standstill and discrepancy stay (R9, R10, R19). -/
def speedKept (s t : State) : Prop :=
  t.pos.measured = s.pos.measured ∧ t.pos.standstill = s.pos.standstill ∧ t.pos.standstillTimer = s.pos.standstillTimer ∧
    t.pos.discrepancy = s.pos.discrepancy ∧ t.pos.discrepancyTimer = s.pos.discrepancyTimer

theorem motionKept_chan {ch : Channel} {s t : State} {c : ChannelState} (h : t.pos = { s.pos with chan := s.pos.chan.set ch c }) :
    motionKept ch s t := by
  unfold motionKept
  rw [h]
  exact ⟨rfl, fun _ => ⟨rfl, rfl⟩, fun x hx => PerChannel.get_set_ne _ _ hx⟩

/-- A discarded sample that leaves the validity of its channel (R5). -/
theorem discarded_next {hdr : Header} {p : SampleP} {e : NodeEntry} {s : State} {k : SampleCheck} {c : ChannelState}
    (h : acceptedFrom s hdr (.sample p) e) (hk : checkOf p s = k) (ha : accepts k = false)
    (hc : channelAfter k ⟨p.count, p.stamp⟩ (s.pos.chan.get p.channel) = c)
    (hv : channelValid (s.pos.chan.get p.channel) = channelValid c) :
    ∃ t, exec (.sample hdr p) s = .next t ∧ t.pos.chan.get p.channel = c ∧ motionKept p.channel s t ∧ speedKept s t := by
  obtain ⟨t, ht, hr⟩ := received_rest h rfl
  rw [takeSample_discarded (s := heardOn hdr.port s) hk ha (hc ▸ hv)] at hr
  have hp : t.pos = { s.pos with chan := s.pos.chan.set p.channel c } := (pos_of_rest hr).trans (by rw [← hc]; rfl)
  refine ⟨t, ht, by rw [hp]; exact PerChannel.get_set_self .., motionKept_chan hp, ?_⟩
  unfold speedKept
  rw [hp]
  exact ⟨rfl, rfl, rfl, rfl, rfl⟩

/-- A sample that empties the window of a valid channel (R5, R9, R10, R19). -/
theorem invalidated_next {hdr : Header} {p : SampleP} {e : NodeEntry} {s : State} {k : SampleCheck} {c : ChannelState}
    (h : acceptedFrom s hdr (.sample p) e) (hk : checkOf p s = k) (ha : accepts k = false)
    (hc : channelAfter k ⟨p.count, p.stamp⟩ (s.pos.chan.get p.channel) = c) (hw : c.window = [])
    (hv : 2 ≤ (s.pos.chan.get p.channel).window.length) :
    ∃ t, exec (.sample hdr p) s = .next t ∧ t.pos.chan.get p.channel = c ∧ motionKept p.channel s t ∧
      measuredFollows s t ∧ t.pos.discrepancy = false ∧ t.pos.discrepancyTimer = none := by
  obtain ⟨t, ht, hr⟩ := received_rest h rfl
  have hne : channelValid (s.pos.chan.get p.channel) ≠ channelValid c := by
    unfold channelValid
    rw [hw]
    simp [hv]
  rw [takeSample_invalidated (s := heardOn hdr.port s) hk ha (hc ▸ hne)] at hr
  obtain ⟨m, b, x, d, y, hrv, hfollow, -, hnone⟩ := revalued_rest (v := false)
    (u := modChan p.channel (channelAfter k ⟨p.count, p.stamp⟩) (heardOn hdr.port s)) (s := s) rfl rfl rfl rfl rfl rfl
  have hempty : ((modChan p.channel (channelAfter k ⟨p.count, p.stamp⟩) (heardOn hdr.port s)).pos.chan.get p.channel).window = [] := by
    rw [← hw, ← hc]
    exact congrArg ChannelState.window (PerChannel.get_set_self ..)
  obtain ⟨rfl, rfl⟩ := hnone ⟨p.channel, by rw [hempty]; exact Nat.zero_lt_two⟩
  have hp := pos_of_rest (hr.trans hrv)
  have hchan : t.pos.chan = s.pos.chan.set p.channel c := by rw [hp, ← hc]; rfl
  have hsame := pos_of_rest hr
  refine ⟨t, ht, by rw [hchan]; exact PerChannel.get_set_self .., ⟨?_, fun j => ?_, fun j hj => ?_⟩, ?_, ?_, ?_⟩
  · rw [hp]; rfl
  · rw [hp]; exact ⟨rfl, rfl⟩
  · rw [hchan]; exact PerChannel.get_set_ne _ _ hj
  · exact measuredFollows_congr hfollow (congrArg Position.chan hsame) (congrArg Position.measured hsame)
      (congrArg Position.standstill hsame) (congrArg Position.standstillTimer hsame)
  · rw [hp]
  · rw [hp]

/-- A window that a discarded sample empties: by whether its channel was valid (R5, R9). -/
theorem emptied_next {hdr : Header} {p : SampleP} {e : NodeEntry} {s : State} {k : SampleCheck} {c : ChannelState}
    (h : acceptedFrom s hdr (.sample p) e) (hk : checkOf p s = k) (ha : accepts k = false)
    (hc : channelAfter k ⟨p.count, p.stamp⟩ (s.pos.chan.get p.channel) = c) (hw : c.window = []) :
    ∃ t, exec (.sample hdr p) s = .next t ∧ t.pos.chan.get p.channel = c ∧ motionKept p.channel s t ∧
      ((s.pos.chan.get p.channel).window.length < 2 → speedKept s t) ∧
      (2 ≤ (s.pos.chan.get p.channel).window.length → measuredFollows s t ∧ t.pos.discrepancy = false ∧ t.pos.discrepancyTimer = none) := by
  by_cases hv : 2 ≤ (s.pos.chan.get p.channel).window.length
  · obtain ⟨t, ht, hchan, hkept, hrest⟩ := invalidated_next h hk ha hc hw hv
    exact ⟨t, ht, hchan, hkept, fun hlt => absurd hv (Nat.not_le.mpr hlt), fun _ => hrest⟩
  · have hsame : channelValid (s.pos.chan.get p.channel) = channelValid c := by
      unfold channelValid
      rw [hw]
      simp [hv]
    obtain ⟨t, ht, hchan, hkept, hspeed⟩ := discarded_next h hk ha hc hsame
    exact ⟨t, ht, hchan, hkept, fun _ => hspeed, fun hge => absurd hge hv⟩

/-- Settles O9: by the check that discards the sample. -/
theorem discardedSampleMovesNothing : Obligations.DiscardedSampleMovesNothing := by
  intro hdr p e s h c scale kept unmoved emptied
  refine ⟨fun n hst hn hdup => ?_, fun hst => ?_, fun n hst hn => ?_⟩
  · have hk : checkOf p s = .duplicate := by rw [checkOf_normal hst hn, hdup, BitVec.sub_self]; rfl
    exact discarded_next h hk rfl rfl rfl
  · exact emptied_next h (checkOf_headFault hst) rfl rfl rfl
  · intro dt h0 hgap hfast
    have hk : checkOf p s = .implausible := by
      rw [checkOf_normal hst hn, if_neg h0, if_neg (Nat.not_lt.mpr hgap), if_pos hfast]
    by_cases hc : c.rejects < 2
    · have hafter : channelAfter .implausible ⟨p.count, p.stamp⟩ c =
          { c with rejections := satInc c.rejections, rejects := c.rejects + 1 } := if_pos (by omega)
      obtain ⟨t, ht, hchan, hkept, hspeed⟩ := discarded_next h hk rfl hafter rfl
      exact ⟨t, ht, fun _ => ⟨hchan, hspeed⟩, fun h2 => absurd hc (Nat.not_lt.mpr h2), hkept⟩
    · have hafter : channelAfter .implausible ⟨p.count, p.stamp⟩ c =
          { c with window := [], rejections := satInc c.rejections, rejects := 0 } := if_neg (by omega)
      obtain ⟨t, ht, hchan, hkept, hempty⟩ := emptied_next h hk rfl hafter rfl
      exact ⟨t, ht, fun h2 => absurd h2 hc, fun _ => ⟨hchan, hempty⟩, hkept⟩

/-! ## O10: accepted samples -/

/-- Whether channel `ch` drives is seen in its own window and, for B, in that of A (R7). -/
theorem drivingChannel_eq_some {q : Position} {ch : Channel} : drivingChannel q = some ch ↔
    2 ≤ (q.chan.get ch).window.length ∧ (ch = .B → (q.chan.get .A).window.length < 2) := by
  rw [drivingChannel_eq]
  by_cases hA : 2 ≤ (q.chan.get .A).window.length
  · rw [if_pos hA]
    cases ch with
    | A => exact iff_of_true rfl ⟨hA, nofun⟩
    | B => exact iff_of_false nofun fun h => absurd hA (Nat.not_le.mpr (h.2 rfl))
  · rw [if_neg hA]
    cases ch with
    | A => exact iff_of_false (by split <;> exact nofun) fun h => hA h.1
    | B =>
      by_cases hB : 2 ≤ (q.chan.get .B).window.length
      · exact iff_of_true (if_pos hB) ⟨hB, fun _ => Nat.not_le.mp hA⟩
      · exact iff_of_false (by rw [if_neg hB]; exact nofun) fun h => hB h.1

/-- A channel that is accepted with a newest entry is valid (R5, R6). -/
theorem window_accepted_length {w : List SampleEntry} {n e : SampleEntry} (h : newest w = some n) :
    2 ≤ ((if 4 ≤ w.length then w.drop 1 else w) ++ [e]).length := by
  have hpos : 0 < w.length := List.length_pos_of_ne_nil fun h0 => by simp [h0, newest] at h
  split
  · simp; omega
  · simp; omega

/-- Neither rope nor cars move, slip stays, and what channel `ch` shows is followed (R8, R9, R10, R19). -/
def stillFollows (ch : Channel) (s t : State) : Prop :=
  t.pos.ropeTravel = s.pos.ropeTravel ∧
    (∀ k, (t.pos.cars.get k).accumulator = (s.pos.cars.get k).accumulator ∧
      (t.pos.cars.get k).referenced = (s.pos.cars.get k).referenced ∧
      (t.pos.cars.get k).slip = (s.pos.cars.get k).slip ∧ (t.pos.cars.get k).slipTimer = (s.pos.cars.get k).slipTimer) ∧
    (∀ x, x ≠ ch → t.pos.chan.get x = s.pos.chan.get x) ∧ measuredFollows s t ∧ discrepancyFollows s t

/-- An accepted sample that does not drive (R5 to R10, R18, R19). -/
theorem acceptedStill_next {hdr : Header} {p : SampleP} {e : NodeEntry} {s : State} {k : SampleCheck}
    (h : acceptedFrom s hdr (.sample p) e) (hk : checkOf p s = k) (ha : accepts k = true)
    (hd : drivingChannel s.pos ≠ some p.channel ∨ (channelHeard k p s).window.length < 2) :
    let v := channelValid (channelHeard k p s)
    ∃ t, exec (.sample hdr p) s = .next t ∧ t.pos.chan.get p.channel = channelHeard k p s ∧ stillFollows p.channel s t ∧
      ((channelHeard k p s).window.length < 2 → t.pos.discrepancy = false ∧ t.pos.discrepancyTimer = none) ∧
      t.pos.lineSampleTimer = (if v then some s.params.sampleLossTime.toNat else s.pos.lineSampleTimer) ∧
      t.pos.sampleLoss = (if v then false else s.pos.sampleLoss) := by
  intro v
  have hno : ¬ (drivingChannel s.pos = some p.channel ∧ drivingChannel (sampleHeard k p s).pos = some p.channel) := by
    rintro ⟨h1, h2⟩
    rcases hd with h3 | h3
    · exact h3 h1
    · have h4 := (drivingChannel_eq_some.mp h2).1
      rw [show (sampleHeard k p s).pos.chan.get p.channel = channelHeard k p s from PerChannel.get_set_self ..] at h4
      omega
  obtain ⟨t, ht, hr⟩ := received_rest h rfl
  rw [takeSample_still (s := heardOn hdr.port s) hk ha hno] at hr
  obtain ⟨m, b, x, d, y, hrv, hfollow, hdisc, hnone⟩ := revalued_rest (v := v) (u := sampleHeard k p (heardOn hdr.port s)) (s := s)
    rfl rfl rfl rfl rfl rfl
  have hsame := pos_of_rest hr
  have hp := pos_of_rest (hr.trans hrv)
  have hchan : t.pos.chan = s.pos.chan.set p.channel (channelHeard k p s) := by rw [hp]; rfl
  refine ⟨t, ht, by rw [hchan]; exact PerChannel.get_set_self .., ⟨?_, fun j => ?_, fun j hj => ?_, ?_, ?_⟩, fun hlt => ?_, ?_, ?_⟩
  · rw [hp]; rfl
  · rw [hp]; exact ⟨rfl, rfl, rfl, rfl⟩
  · rw [hchan]; exact PerChannel.get_set_ne _ _ hj
  · exact measuredFollows_congr hfollow (congrArg Position.chan hsame) (congrArg Position.measured hsame)
      (congrArg Position.standstill hsame) (congrArg Position.standstillTimer hsame)
  · exact discrepancyFollows_congr hdisc (congrArg Position.chan hsame) (congrArg Position.measured hsame)
      (congrArg Position.discrepancy hsame) (congrArg Position.discrepancyTimer hsame)
  · rw [hp]
    have hheard : (sampleHeard k p (heardOn hdr.port s)).pos.chan.get p.channel = channelHeard k p s := PerChannel.get_set_self ..
    exact hnone ⟨p.channel, by rw [hheard]; exact hlt⟩
  · rw [hp]; rfl
  · rw [hp]; rfl

/-- An accepted sample of the driving channel (R5 to R10, R18 to R20). -/
theorem acceptedDriving_next {hdr : Header} {p : SampleP} {e : NodeEntry} {n : SampleEntry} {s : State}
    (h : acceptedFrom s hdr (.sample p) e) (hk : checkOf p s = .accepted) (hn : newest (s.pos.chan.get p.channel).window = some n)
    (hd : drivingChannel s.pos = some p.channel) :
    let travel : Travel := BitVec.ofInt 48 (countDiff (channelInverted s.active.b p.channel) n ⟨p.count, p.stamp⟩ *
      (channelScale s.active.b p.channel).toNat)
    ∃ t, exec (.sample hdr p) s = .next t ∧
      t.pos.ropeTravel = s.pos.ropeTravel + travel ∧
      t.pos.cars.one.accumulator = s.pos.cars.one.accumulator + travel ∧
      t.pos.cars.two.accumulator = s.pos.cars.two.accumulator - travel ∧
      (∀ k, (t.pos.cars.get k).referenced = (s.pos.cars.get k).referenced) ∧
      t.pos.chan.get p.channel = channelHeard .accepted p s ∧
      (∀ x, x ≠ p.channel → t.pos.chan.get x = s.pos.chan.get x) ∧
      t.pos.sampleLoss = false ∧ t.pos.lineSampleTimer = some s.params.sampleLossTime.toNat ∧
      measuredFollows s t ∧ discrepancyFollows s t ∧ ∀ k, slipFollows k s t := by
  intro travel
  have hlen : 2 ≤ (channelHeard .accepted p s).window.length := window_accepted_length hn
  have hd' : drivingChannel (sampleHeard .accepted p s).pos = some p.channel := by
    obtain ⟨-, hB⟩ := drivingChannel_eq_some.mp hd
    refine drivingChannel_eq_some.mpr ⟨?_, fun hc => ?_⟩
    · rw [show (sampleHeard .accepted p s).pos.chan.get p.channel = channelHeard .accepted p s from PerChannel.get_set_self ..]
      exact hlen
    · rw [show (sampleHeard .accepted p s).pos.chan.get .A = s.pos.chan.get .A from
        PerChannel.get_set_ne _ _ (by rw [hc]; exact nofun)]
      exact hB hc
  have hv : channelValid (channelHeard .accepted p s) = true := decide_eq_true hlen
  obtain ⟨t, ht, hr⟩ := received_rest h rfl
  rw [takeSample_drives (s := heardOn hdr.port s) hk rfl hn hd hd'] at hr
  obtain ⟨m, b, x, d, y, hrv, hfollow, hdisc, -⟩ := revalued_rest (v := channelValid (channelHeard .accepted p s))
    (u := addTravel travel (sampleHeard .accepted p (heardOn hdr.port s))) (s := s) rfl rfl rfl rfl rfl rfl
  rw [hv] at hrv hfollow hdisc
  rw [show channelValid (channelHeard .accepted p (heardOn hdr.port s)) = true from hv] at hr
  change t.rest = (slipTest .car2 (slipTest .car1 (revalued true (addTravel travel (sampleHeard .accepted p (heardOn hdr.port s)))))).rest at hr
  generalize revalued true (addTravel travel (sampleHeard .accepted p (heardOn hdr.port s))) = w at hr hrv hfollow hdisc
  have hwp := pos_of_rest hrv
  have h1 : (slipTest .car1 w).pos = { w.pos with cars := ⟨slipAfter .car1 w.pos, w.pos.cars.two⟩ } := pos_of_rest (slipTest_rest .car1 w)
  have h2 : t.pos = { w.pos with cars := ⟨slipAfter .car1 w.pos, slipAfter .car2 (slipTest .car1 w).pos⟩ } := by
    have := pos_of_rest (hr.trans (slipTest_rest .car2 (slipTest .car1 w)))
    rw [this, h1]
    rfl
  have hslip : ∀ k (q : Position), (slipAfter k q).accumulator = (q.cars.get k).accumulator ∧
      (slipAfter k q).referenced = (q.cars.get k).referenced := by
    intro k q
    unfold slipAfter
    dsimp only
    split
    · exact ⟨rfl, rfl⟩
    · split
      · split <;> exact ⟨rfl, rfl⟩
      · exact ⟨rfl, rfl⟩
  have hone := hslip .car1 w.pos
  have htwo := hslip .car2 (slipTest .car1 w).pos
  have hchan : t.pos.chan = s.pos.chan.set p.channel (channelHeard .accepted p s) := by rw [h2, hwp]; rfl
  refine ⟨t, ht, ?_, ?_, ?_, fun k => ?_, ?_, fun x hx => ?_, ?_, ?_, ?_, ?_, fun k => ?_⟩
  · rw [h2, hwp]; rfl
  · rw [h2]; exact hone.1.trans (by rw [hwp]; rfl)
  · rw [h2]; exact htwo.1.trans (by rw [h1, hwp]; rfl)
  · rw [h2]
    cases k with
    | car1 => exact hone.2.trans (by rw [hwp]; rfl)
    | car2 => exact htwo.2.trans (by rw [h1, hwp]; rfl)
  · rw [hchan]; exact PerChannel.get_set_self ..
  · rw [hchan]; exact PerChannel.get_set_ne _ _ hx
  · rw [h2, hwp]; rfl
  · rw [h2, hwp]; rfl
  · exact measuredFollows_congr hfollow (by rw [h2]) (by rw [h2]) (by rw [h2]) (by rw [h2])
  · exact discrepancyFollows_congr hdisc (by rw [h2]) (by rw [h2]) (by rw [h2]) (by rw [h2])
  · cases k with
    | car1 =>
      refine slipFollows_of_after (p := w.pos) (by rw [h2]; rfl) ?_ ?_ (by rw [h2]) (by rw [h2])
      · rw [hwp]; rfl
      · rw [hwp]; rfl
    | car2 =>
      refine slipFollows_of_after (p := (slipTest .car1 w).pos) (by rw [h2]; rfl) ?_ ?_ (by rw [h2, h1]) (by rw [h2, h1])
      · rw [h1, hwp]; rfl
      · rw [h1, hwp]; rfl

/-- Settles O10: by the check that accepts the sample, and by whether its channel drives. -/
theorem drivingSampleMovesTheRope : Obligations.DrivingSampleMovesTheRope := by
  have swap : ∀ w : List SampleEntry, (if 4 ≤ w.length then w.drop 1 else w) = if w.length < 4 then w else w.drop 1 := by
    intro w
    split
    · rw [if_neg (by omega)]
    · rw [if_pos (by omega)]
  refine ⟨fun hdr p e n s h => ?_, fun hdr p e s h => ?_⟩
  · intro ch c dt raw counts scale travel hst hn hd h0 hgap hslow
    have hcounts : counts = countDiff (channelInverted s.active.b p.channel) n ⟨p.count, p.stamp⟩ := rfl
    have hk : checkOf p s = .accepted := by
      rw [hcounts, countDiff_natAbs] at hslow
      rw [checkOf_normal hst hn, if_neg h0, if_neg (Nat.not_lt.mpr hgap), if_neg (Nat.not_lt.mpr hslow)]
    obtain ⟨t, ht, hrope, h1, h2, href, hchan, hrest⟩ := acceptedDriving_next h hk hn hd
    refine ⟨t, ht, hrope, h1, h2, href, hchan.trans ?_, hrest⟩
    rw [← swap]
    rfl
  · intro ch c scale loss kept
    refine ⟨fun hn hst => ?_, fun n hst hn hgap => ?_, fun n hst hn hd => ?_⟩
    · obtain ⟨t, ht, hchan, hkept, -, htimer, hloss⟩ := acceptedStill_next h (checkOf_first hst hn) rfl (.inr Nat.one_lt_two)
      exact ⟨t, ht, hchan, hkept, htimer, hloss⟩
    · have hk : checkOf p s = .gap := by rw [checkOf_normal hst hn, if_neg (by omega), if_pos hgap]
      obtain ⟨t, ht, hchan, hkept, hdisc, htimer, hloss⟩ := acceptedStill_next h hk rfl (.inr Nat.one_lt_two)
      exact ⟨t, ht, hchan, hkept, fun _ => hdisc Nat.one_lt_two, htimer, hloss⟩
    · intro dt h0 hgap hslow
      have hk : checkOf p s = .accepted := by
        rw [checkOf_normal hst hn, if_neg h0, if_neg (Nat.not_lt.mpr hgap), if_neg (Nat.not_lt.mpr hslow)]
      have hv : channelValid (channelHeard .accepted p s) = true := decide_eq_true (window_accepted_length hn)
      obtain ⟨t, ht, hchan, hkept, -, htimer, hloss⟩ := acceptedStill_next h hk rfl (.inl hd)
      rw [hv] at htimer hloss
      refine ⟨t, ht, hchan.trans ?_, hkept, htimer, hloss⟩
      rw [← swap]
      rfl

/-! ## O11 and O12: silence, standstill and the fault timers -/

/-- Settles O11: the window of the silent channel is emptied, and revalued what is left where it was valid. -/
theorem silenceAndStandstillTimers : Obligations.SilenceAndStandstillTimers := by
  refine ⟨fun ch s hr hsil => ?_, fun s hr hst => ?_⟩
  · obtain ⟨t, ht, htr⟩ := event_rest (f := channelSilenceExpires ch) hr
    refine ⟨t, ht, ?_⟩
    unfold channelSilenceExpires at htr
    dsimp only at htr
    rw [if_neg (by simpa using hsil)] at htr
    by_cases hv : 2 ≤ (s.pos.chan.get ch).window.length
    · rw [if_pos (show channelValid _ = true from decide_eq_true hv), announceCrossing_rest, announceStandstill_rest] at htr
      obtain ⟨m, b, x, d, y, hrv, hfollow, -, hnone⟩ := revalued_rest (v := false)
        (u := modChan ch (fun c => { c with window := [], silence := none }) s) (s := s) rfl rfl rfl rfl rfl rfl
      have hp := pos_of_rest (htr.trans hrv)
      have hsame := pos_of_rest htr
      have hchan : t.pos.chan = s.pos.chan.set ch { s.pos.chan.get ch with window := [], silence := none } := by rw [hp]; rfl
      have hempty : ((modChan ch (fun c => { c with window := [], silence := none }) s).pos.chan.get ch).window = [] :=
        congrArg ChannelState.window (PerChannel.get_set_self ..)
      obtain ⟨rfl, rfl⟩ := hnone ⟨ch, by rw [hempty]; exact Nat.zero_lt_two⟩
      refine ⟨by rw [hchan]; exact PerChannel.get_set_self .., fun j hj => by rw [hchan]; exact PerChannel.get_set_ne _ _ hj, ?_,
        fun k => ?_, fun _ => ⟨?_, ?_, ?_⟩, fun hlt => absurd hv (Nat.not_le.mpr hlt)⟩
      · rw [hp]; rfl
      · rw [hp]; rfl
      · exact measuredFollows_congr hfollow (congrArg Position.chan hsame) (congrArg Position.measured hsame)
          (congrArg Position.standstill hsame) (congrArg Position.standstillTimer hsame)
      · rw [hp]
      · rw [hp]
    · rw [if_neg (by simpa [channelValid] using hv)] at htr
      have hp : t.pos = { s.pos with chan := s.pos.chan.set ch { s.pos.chan.get ch with window := [], silence := none } } :=
        pos_of_rest htr
      rw [hp]
      exact ⟨PerChannel.get_set_self .., fun j hj => PerChannel.get_set_ne _ _ hj, rfl, fun _ => rfl, fun hge => absurd hge hv,
        fun _ => ⟨rfl, rfl, rfl⟩⟩
  · obtain ⟨t, ht, htr⟩ := event_rest (f := standstillTimerExpires) hr
    refine ⟨t, ht, htr.trans ?_⟩
    unfold standstillTimerExpires
    rw [if_neg (by simpa using hst), announce_rest, evalLinkCause_rest]
    rfl

/-- The occurrence of a notice makes its record pending (R181). -/
theorem occur_pending (n : Notice) (s : State) : ((occur n s).mgmt.notices.get (noticeIndex n)).pending = true := by
  obtain ⟨p, v, hv, h⟩ := occur_fields n s
  rw [h, hv, vset_get_self]
  rfl

theorem occur_brake (n : Notice) (s : State) : (occur n s).brake = s.brake := by
  obtain ⟨p, v, -, h⟩ := occur_fields n s
  rw [h]

/-- Every notice that is pending stays so (R181). -/
def PendingKept (s t : State) : Prop := ∀ i, (s.mgmt.notices.get i).pending = true → (t.mgmt.notices.get i).pending = true

theorem PendingKept.of_mgmt {s t : State} (h : t.mgmt = s.mgmt) : PendingKept s t := fun i hi => by rw [h]; exact hi

theorem occur_pendingKept (n : Notice) (s : State) : PendingKept s (occur n s) := by
  intro i hi
  obtain ⟨p, v, hv, h⟩ := occur_fields n s
  rw [h, hv]
  by_cases hn : i = noticeIndex n
  · rw [hn]
    dsimp only
    rw [vset_get_self]
    rfl
  · dsimp only
    rw [vset_get_ne _ _ hn]
    exact hi

theorem stageRule_pendingKept (s : State) : PendingKept s (stageRule s) := by
  unfold stageRule
  dsimp only
  split
  · exact fun _ => id
  · obtain ⟨p, h⟩ := placeBrakeOrder_fields s.brake.commanded (demandedStage s.brake)
      { s with brake := { s.brake with commanded := demandedStage s.brake } }
    rw [h]
    unfold stageNotice
    split
    · split
      · exact fun i hi => occur_pendingKept _ _ i hi
      · exact fun i hi => occur_pendingKept _ _ i hi
      · exact fun i hi => occur_pendingKept _ _ i hi
      · exact fun _ => id
    · exact fun _ => id

theorem causesAct_pendingKept (cs : List (Cause × Stage)) (s : State) : PendingKept s (causesAct cs s) := by
  intro i hi
  obtain ⟨x, y, z, v, h, -⟩ := setLatches_fields cs s
  unfold causesAct
  simp only [h, announceIf_eq]
  have hrule := stageRule_pendingKept { s with brake := { s.brake with latchS := x, latchE := y, latchR := z }, pulses := v } i hi
  split
  · exact hrule
  · exact hrule

theorem levelCause_pendingKept (c : Cause) (b : Bool) (s : State) : PendingKept s (levelCause c b s) := by
  unfold levelCause changeCauses
  split
  · exact fun i hi => causesAct_pendingKept _ _ i hi
  · exact fun i hi => causesAct_pendingKept _ _ i hi

/-- An event's brake record and management record are those of its next state before its announcements. -/
theorem event_next {f : State → State} {s : State} (h : s.power = .RUNNING) :
    ∃ u, event f s = .next (settle u) ∧ (settle u).rest = (f s).rest ∧ u.brake = (f s).brake ∧ u.mgmt = (f s).mgmt ∧
      u.trip = (f s).trip ∧ u.doors = (f s).doors ∧ ∀ a ∈ (f s).agenda, a ∈ u.agenda := by
  obtain ⟨l, hl⟩ := react_eq f s
  refine ⟨react f s, event_eq h, by rw [settle_rest, react_rest], ?_⟩
  rw [hl]
  exact ⟨rfl, rfl, rfl, rfl, fun a ha => List.mem_append_left _ ha⟩

/-- Settles O12: each timer's cause by what raises a level cause. -/
theorem faultTimersRaiseTheirCauses : Obligations.FaultTimersRaiseTheirCauses := by
  have raised : ∀ (n : Notice) (c : Cause) (s : State), let t := levelCause c true (occur n s)
      (t.mgmt.notices.get (noticeIndex n)).pending = true ∧ c ∈ t.brake.active ∧
        (c ∉ s.brake.active → (causeStage c = .SERVICE → t.brake.latchS ≠ none) ∧ (causeStage c = .EMERGENCY → t.brake.latchE ≠ none) ∧
          (causeStage c = .RAIL → t.brake.latchR ≠ none)) := by
    intro n c s
    obtain ⟨b, p, v, w, l, h, hact, -, -, -, hlatch⟩ := levelCause_holds c (occur n s)
    rw [occur_brake] at hlatch
    refine ⟨levelCause_pendingKept c true _ _ (occur_pending n s), ?_⟩
    rw [h]
    exact ⟨hact, hlatch⟩
  intro s hr
  refine ⟨fun ht => ?_, fun ht => ?_, fun k ht => ?_⟩
  · obtain ⟨u, hu, hrest, hbrake, hmgmt, -⟩ := event_next (f := sampleLossBegins) hr
    have hin : (occur .SAMPLE_LOSS (modPos (fun p => { p with lineSampleTimer := none, sampleLoss := true }) s)).inService = s.inService := by
      obtain ⟨p, v, -, h⟩ := occur_fields .SAMPLE_LOSS (modPos (fun p => { p with lineSampleTimer := none, sampleLoss := true }) s)
      rw [h]
      rfl
    unfold sampleLossBegins at hrest hbrake hmgmt
    rw [if_neg (by simpa using ht)] at hrest hbrake hmgmt
    dsimp only at hrest hbrake hmgmt
    rw [hin] at hrest hbrake hmgmt
    by_cases hs : s.inService = true
    · rw [if_pos hs] at hrest hbrake hmgmt
      obtain ⟨hpend, hact, hlatch⟩ := raised .SAMPLE_LOSS .SAMPLE_LOSS
        (modPos (fun p => { p with lineSampleTimer := none, sampleLoss := true }) s)
      refine ⟨u, hu, hrest.trans ?_, by rw [hmgmt]; exact hpend, fun _ => ?_, fun hf => by rw [hs] at hf; cases hf⟩
      · rw [levelCause_rest, occur_rest]; rfl
      · rw [hbrake]; exact ⟨hact, fun hno => (hlatch hno).2.1 rfl⟩
    · rw [if_neg hs] at hrest hbrake hmgmt
      refine ⟨u, hu, hrest.trans ?_, by rw [hmgmt]; exact occur_pending .., fun hT => absurd hT hs, fun _ => hbrake.trans (occur_brake ..)⟩
      rw [occur_rest]; rfl
  · obtain ⟨u, hu, hrest, hbrake, hmgmt, -⟩ := event_next (f := discrepancyBegins) hr
    unfold discrepancyBegins at hrest hbrake hmgmt
    rw [if_neg (by simpa using ht)] at hrest hbrake hmgmt
    obtain ⟨hpend, hact, hlatch⟩ := raised .CHANNEL_DISCREPANCY .CHANNEL_DISCREPANCY
      (modPos (fun p => { p with discrepancyTimer := none, discrepancy := true }) s)
    refine ⟨u, hu, hrest.trans ?_, by rw [hmgmt]; exact hpend, by rw [hbrake]; exact hact,
      by rw [hbrake]; exact fun hno => (hlatch hno).1 rfl⟩
    rw [levelCause_rest, occur_rest]; rfl
  · obtain ⟨u, hu, hrest, hbrake, hmgmt, -⟩ := event_next (f := slipBegins k) hr
    have hslip : evalSlipCause (occur .SLIP (modCar k (fun c => { c with slipTimer := none, slip := true }) s)) =
        levelCause .SLIP true (occur .SLIP (modCar k (fun c => { c with slipTimer := none, slip := true }) s)) := by
      obtain ⟨p, v, -, h⟩ := occur_fields .SLIP (modCar k (fun c => { c with slipTimer := none, slip := true }) s)
      unfold evalSlipCause
      congr 1
      rw [h]
      cases k
      · rfl
      · exact Bool.or_true _
    unfold slipBegins at hrest hbrake hmgmt
    rw [if_neg (by simpa [State.car] using ht), hslip] at hrest hbrake hmgmt
    obtain ⟨hpend, hact, hlatch⟩ := raised .SLIP .SLIP (modCar k (fun c => { c with slipTimer := none, slip := true }) s)
    refine ⟨u, hu, hrest.trans ?_, by rw [hmgmt]; exact hpend, by rw [hbrake]; exact hact,
      by rw [hbrake]; exact fun hno => (hlatch hno).2.2 rfl⟩
    rw [levelCause_rest, occur_rest]; rfl

end Sys2Proof.Machine
end

section
/-!
PROOFS. Car timers and car reports (R13 to R17, R60, R114): the statements O13 and O14.
-/

namespace Sys2Proof.Machine

/-! ## O14: the report timer and the load timer -/

/-- A car's link is lost to the door unit: the car is unheard and its doors are unknown (R114). -/
theorem doorLinkLost_eq (k : CarId) (s : State) : ∃ l, doorLinkLost k s = { s with
    doors := s.doors.set k { (s.doors.get k).mapSides sideForgotten with heard := false }
    agenda := s.agenda ++ l } := by
  unfold doorLinkLost doorEvent
  rw [announceIf_eq]
  exact ⟨_, rfl⟩

theorem doorLinkLost_rest (k : CarId) (s : State) :
    (doorLinkLost k s).rest = { s.rest with heard := s.rest.heard.set k false } := by
  obtain ⟨l, h⟩ := doorLinkLost_eq k s
  rw [h]
  cases k
  · rfl
  · rfl

/-- The occurrence of a notice changes queues and notices alone (R181). -/
theorem occur_frame (n : Notice) (s : State) : ∃ p m, occur n s = { s with ports := p, mgmt := m } := by
  obtain ⟨p, v, -, h⟩ := occur_fields n s
  exact ⟨p, _, h⟩

theorem endSlip_rest (k : CarId) (s : State) : (endSlip k s).rest = { s.rest with
    pos := { s.pos with cars := s.pos.cars.set k { s.pos.cars.get k with slipTimer := none, slip := false } } } := levelCause_rest ..

/-- The record of a car whose link is lost (R14). -/
def linkLostRecord (c : CarRecord) : CarRecord :=
  { c with linkUp := false, reportTimer := none, speed := none, speedAge := 0, rail := none, slipTimer := none, slip := false }

/-- The work of the position unit at the loss of a car's link, up to its notice: record, notice and causes (R14, R20). -/
theorem linkLost_noticed (k : CarId) (s : State) :
    let t := occur .CAR_LINK_LOST (endSlip k
      (modCar k (fun c => { c with linkUp := false, reportTimer := none, speed := none, speedAge := 0, rail := none }) s))
    t.rest = { s.rest with pos := { s.pos with cars := s.pos.cars.set k (linkLostRecord (s.pos.cars.get k)) } } ∧
      (t.mgmt.notices.get (noticeIndex .CAR_LINK_LOST)).pending = true ∧ t.doors = s.doors ∧
      (.CAR_LINK_LOST ∈ t.brake.active → .CAR_LINK_LOST ∈ s.brake.active) := by
  intro t
  have hset : ∀ (c : PerCar CarRecord) (x y : CarRecord), (c.set k x).set k y = c.set k y := by
    intro c x y
    cases k <;> rfl
  obtain ⟨b, p, v, w, l, hs, -, -, hact, -⟩ := levelCause_any .SLIP _ (modCar k (fun c => { c with slipTimer := none, slip := false })
    (modCar k (fun c => { c with linkUp := false, reportTimer := none, speed := none, speedAge := 0, rail := none }) s))
  obtain ⟨q, m, ho⟩ := occur_frame .CAR_LINK_LOST (endSlip k
    (modCar k (fun c => { c with linkUp := false, reportTimer := none, speed := none, speedAge := 0, rail := none }) s))
  have he : endSlip k (modCar k (fun c => { c with linkUp := false, reportTimer := none, speed := none, speedAge := 0, rail := none }) s) =
      _ := hs
  refine ⟨?_, occur_pending .., ?_, fun hm => ?_⟩
  · rw [occur_rest, endSlip_rest, modCar_rest]
    dsimp only [modCar, modPos_pos]
    rw [hset, PerCar.get_set_self]
    rfl
  · change (occur _ _).doors = _
    rw [ho, he]
    rfl
  · change _ ∈ (occur _ _).brake.active at hm
    rw [occur_brake, he] at hm
    rcases hact _ hm with h | h
    · exact h
    · cases h

/-- Settles O14: the position unit, the brake supervisor and the door unit each forget the car. -/
theorem carTimersForgetReports : Obligations.CarTimersForgetReports := by
  refine ⟨fun k s hr ht => ?_, fun k s hr => ⟨fun ht => ?_, fun ht => ?_⟩⟩
  · intro lost
    obtain ⟨u, hu, hrest, hbrake, hmgmt, -, hdoors, -⟩ := event_next (f := reportTimerExpires k) hr
    obtain ⟨hnr, hnp, hnd, hna⟩ := linkLost_noticed k s
    unfold reportTimerExpires at hrest hbrake hmgmt hdoors
    rw [if_neg (by simpa [State.car] using ht)] at hrest hbrake hmgmt hdoors
    dsimp only at hrest hbrake hmgmt hdoors
    generalize occur .CAR_LINK_LOST (endSlip k _) = n at hrest hbrake hmgmt hdoors hnr hnp hnd hna
    generalize hn' : ({ n with brake := { n.brake with lossInForce := n.brake.lossInForce.set k true } } : State) = n'
      at hrest hbrake hmgmt hdoors
    have hloss : n.brake.lossInForce = s.brake.lossInForce := congrArg Rest.lossInForce hnr
    have hlr : n'.rest = { n.rest with lossInForce := s.brake.lossInForce.set k true } := by rw [← hn', ← hloss]; rfl
    have hlink : n'.brake.lossInForce.one || n'.brake.lossInForce.two := by
      rw [← hn']
      cases k
      · rfl
      · exact Bool.or_true _
    have hstand : n'.pos.standstill = s.pos.standstill := by
      rw [← hn']
      exact congrArg (fun r => r.pos.standstill) hnr
    obtain ⟨l, hl⟩ := doorLinkLost_eq k (evalLinkCause n')
    have hev : (evalLinkCause n').doors = s.doors := by
      obtain ⟨b, p, v, w, a, h, -⟩ := levelCause_any .CAR_LINK_LOST (!n'.pos.standstill && (n'.brake.lossInForce.one || n'.brake.lossInForce.two)) n'
      unfold evalLinkCause
      rw [h, ← hnd, ← hn']
    have hside : ∀ sd, (u.doors.get k).sides.get sd = ⟨Vector.replicate 4 ⟨.UNKNOWN, none⟩, 0#4, none⟩ := by
      intro sd
      rw [hdoors, hl]
      dsimp only
      rw [PerCar.get_set_self]
      cases sd <;> rfl
    refine ⟨u, hu, hrest.trans ?_, ?_, fun hs => ?_, fun sd c => ?_, fun sd => ?_⟩
    · rw [doorLinkLost_rest, evalLinkCause_rest, hlr, hnr]
      rfl
    · rw [hmgmt, hl]
      refine levelCause_pendingKept _ _ _ _ ?_
      rw [← hn']
      exact hnp
    · have hholds : (!n'.pos.standstill && (n'.brake.lossInForce.one || n'.brake.lossInForce.two)) = true := by
        rw [hstand, hs, hlink]
        rfl
      obtain ⟨b, p, v, w, a, h, hact, -, -, -, hlatch⟩ := levelCause_holds .CAR_LINK_LOST n'
      rw [hbrake, hl]
      unfold evalLinkCause
      rw [hholds, h]
      refine ⟨hact, fun hno => (hlatch fun hm => hno (hna ?_)).1 rfl⟩
      rw [← hn'] at hm
      exact hm
    · rw [hside]; simp [Vector.get_eq_getElem]
    · rw [hside]; exact ⟨rfl, rfl⟩
  · refine (plainly_eq hr).trans (congrArg _ (if_neg ?_))
    simpa [State.car] using ht
  · refine (plainly_eq hr).trans (congrArg _ (if_pos ?_))
    simp [State.car, ht]

/-! ## What the door unit's work leaves (R104 to R107, R113) -/

theorem placeDoorOrder_frame (k : CarId) (o : DoorOrder) (s : State) :
    ∃ d p, placeDoorOrder k o s = { s with doors := d, ports := p } := by
  unfold placeDoorOrder
  split
  · exact ⟨_, _, rfl⟩
  · exact ⟨_, _, rfl⟩

theorem giveWithdrawn_frame (k : CarId) (o : DoorOrder) (s : State) : ∃ w, giveWithdrawn k o s = { s with pulses := w } := by
  unfold giveWithdrawn
  split
  · exact ⟨_, rfl⟩
  · split
    · exact ⟨_, rfl⟩
    · exact ⟨_, rfl⟩

/-- A door order changes doors, queues and pulses alone (R107, R115). -/
theorem buildDoorOrder_frame (k : CarId) (rl wl rr wr : Compartments) (s : State) :
    ∃ d p w, buildDoorOrder k rl wl rr wr s = { s with doors := d, ports := p, pulses := w } := by
  unfold buildDoorOrder
  dsimp only
  obtain ⟨d, p, h⟩ := placeDoorOrder_frame k (mergeOrder (s.doors.get k).queued ⟨(s.doors.get k).token + 1#8, rl, wl, rr, wr⟩) _
  rw [h]
  obtain ⟨w, h'⟩ := giveWithdrawn_frame k (mergeOrder (s.doors.get k).queued ⟨(s.doors.get k).token + 1#8, rl, wl, rr, wr⟩) _
  rw [h']
  exact ⟨_, _, _, rfl⟩

theorem evaluateDoors_frame (k : CarId) (s : State) : ∃ d p w, evaluateDoors k s = { s with doors := d, ports := p, pulses := w } := by
  unfold evaluateDoors
  dsimp only
  split
  · exact ⟨_, _, _, rfl⟩
  · obtain ⟨d, p, w, h⟩ := buildDoorOrder_frame k _ _ _ _ _
    rw [h]
    exact ⟨_, _, _, rfl⟩

theorem hearCar_frame (k : CarId) (s : State) : ∃ d p w, hearCar k s = { s with doors := d, ports := p, pulses := w } := by
  unfold hearCar
  split
  · exact ⟨_, _, _, rfl⟩
  · dsimp only
    obtain ⟨d, p, w, h⟩ := buildDoorOrder_frame k _ _ _ _ _
    rw [h]
    exact ⟨_, _, _, rfl⟩

theorem doorEvent_eq (k : CarId) (f : State → State) (s : State) : ∃ l, doorEvent k f s = { f s with agenda := (f s).agenda ++ l } := by
  unfold doorEvent
  dsimp only
  rw [announceIf_eq]
  exact ⟨_, rfl⟩

theorem carHeardByReport_frame (k : CarId) (s : State) : ∃ d p w l, carHeardByReport k s =
    { s with doors := d, ports := p, pulses := w, agenda := s.agenda ++ l } := by
  unfold carHeardByReport
  split
  · exact ⟨s.doors, s.ports, s.pulses, [], by rw [List.append_nil]⟩
  · obtain ⟨l, hl⟩ := doorEvent_eq k (fun s => evaluateDoors k (hearCar k s)) s
    obtain ⟨d, p, w, h⟩ := hearCar_frame k s
    obtain ⟨d', p', w', h'⟩ := evaluateDoors_frame k (hearCar k s)
    rw [hl]
    dsimp only
    rw [h', h]
    exact ⟨_, _, _, _, rfl⟩

theorem rest_heard (s : State) (k : CarId) (f : CarDoors → CarDoors) (h1 : ∀ d, (f d).heard = true)
    (h2 : ∀ d, (f d).linkFault = d.linkFault) : (modDoors k f s).rest = { s.rest with heard := s.rest.heard.set k true } := by
  cases k
  · simp only [State.rest, modDoors, PerCar.set, PerCar.get, h1, h2]
  · simp only [State.rest, modDoors, PerCar.set, PerCar.get, h1, h2]

theorem rest_heard_self {s : State} {k : CarId} (h : (s.doors.get k).heard = true) :
    s.rest = { s.rest with heard := s.rest.heard.set k true } := by
  cases k
  · simp only [State.rest, PerCar.set]
    rw [show s.doors.one.heard = true from h]
  · simp only [State.rest, PerCar.set]
    rw [show s.doors.two.heard = true from h]

theorem hearCar_rest (k : CarId) (s : State) : (hearCar k s).rest = { s.rest with heard := s.rest.heard.set k true } := by
  unfold hearCar
  split
  next h => exact rest_heard_self h
  next h =>
    dsimp only
    rw [buildDoorOrder_rest]
    exact rest_heard s k _ (fun _ => rfl) fun _ => rfl

theorem carHeardByReport_rest (k : CarId) (s : State) :
    (carHeardByReport k s).rest = { s.rest with heard := s.rest.heard.set k true } := by
  unfold carHeardByReport
  split
  next h => exact rest_heard_self h
  next h => rw [doorEvent_rest, evaluateDoors_rest, hearCar_rest]

/-! ## Markers (R15 to R17) -/

/-- What events after a POSITION fault do not undo: its notice, latch E, its cause's activity and its announcements. -/
structure FaultStays (s t : State) : Prop where
  pending : PendingKept s t
  latchE : s.brake.latchE ≠ none → t.brake.latchE ≠ none
  active : .POSITION ∈ t.brake.active ↔ .POSITION ∈ s.brake.active
  agenda : ∀ a ∈ s.agenda, a ∈ t.agenda

theorem FaultStays.trans {s t u : State} (h : FaultStays s t) (h' : FaultStays t u) : FaultStays s u :=
  ⟨fun i hi => h'.pending i (h.pending i hi), fun hi => h'.latchE (h.latchE hi), h'.active.trans h.active, fun a ha => h'.agenda a (h.agenda a ha)⟩

theorem FaultStays.of_eq {s t : State} (hm : t.mgmt = s.mgmt) (hb : t.brake = s.brake) (ha : ∃ l, t.agenda = s.agenda ++ l) :
    FaultStays s t := by
  obtain ⟨l, ha⟩ := ha
  refine ⟨.of_mgmt hm, fun h => by rw [hb]; exact h, by rw [hb], fun a h => ?_⟩
  rw [ha]
  exact List.mem_append_left _ h

theorem FaultStays.refl (s : State) : FaultStays s s := .of_eq rfl rfl ⟨[], (List.append_nil _).symm⟩

theorem levelCause_faultStays {c : Cause} (hc : c ≠ .POSITION) (b : Bool) (s : State) : FaultStays s (levelCause c b s) := by
  obtain ⟨b', p, v, w, l, h, -, -, hsub, hsup, -, hE, -⟩ := levelCause_any c b s
  refine ⟨levelCause_pendingKept c b s, ?_, ?_, ?_⟩
  · rw [h]; exact hE
  · rw [h]
    exact ⟨fun hm => (hsub _ hm).resolve_right fun e => hc e.symm, fun hm => hsup _ hm fun e => hc e.symm⟩
  · rw [h]
    exact fun a ha => List.mem_append_left _ ha

theorem slipTest_faultStays (k : CarId) (s : State) : FaultStays s (slipTest k s) := by
  have hmod : FaultStays s (modCar k (fun c => { c with slipTimer := none, slip := false }) s) :=
    .of_eq rfl rfl ⟨[], (List.append_nil _).symm⟩
  have hend : FaultStays s (endSlip k s) := hmod.trans (levelCause_faultStays (c := .SLIP) (by decide) _ _)
  unfold slipTest
  dsimp only
  split
  · exact .refl s
  · split
    · split
      · split
        · exact .of_eq rfl rfl ⟨[], (List.append_nil _).symm⟩
        · exact .refl s
      · exact hend
    · exact hend

theorem carHeardByReport_faultStays (k : CarId) (s : State) : FaultStays s (carHeardByReport k s) := by
  obtain ⟨d, p, w, l, h⟩ := carHeardByReport_frame k s
  rw [h]
  exact .of_eq rfl rfl ⟨l, rfl⟩

/-- The record of a car that a POSITION fault concerns or not (R17). -/
def faultedRecord (faulted : Bool) (c : CarRecord) : CarRecord := if faulted then { c with referenced := false, lastMarker := none } else c

/-- A POSITION fault (R17): the records, the notice, latch E and the recomputation; the cause POSITION is an event. -/
theorem positionFault_spec (who : CarId → Bool) (s : State) :
    let t := positionFault who s
    t.rest = { s.rest with pos := { s.pos with
      cars := ⟨faultedRecord (who .car1) s.pos.cars.one, faultedRecord (who .car2) s.pos.cars.two⟩ } } ∧
      (t.mgmt.notices.get (noticeIndex .POSITION_FAULT)).pending = true ∧ t.brake.latchE ≠ none ∧ .recompute false ∈ t.agenda ∧
      (.POSITION ∈ t.brake.active ↔ .POSITION ∈ s.brake.active) ∧ ∀ a ∈ s.agenda, a ∈ t.agenda := by
  intro t
  obtain ⟨n, hn⟩ : ∃ n, n = (if who .car2 then modCar .car2 (fun c => { c with referenced := false, lastMarker := none })
      (if who .car1 then modCar .car1 (fun c => { c with referenced := false, lastMarker := none }) s else s) else
      (if who .car1 then modCar .car1 (fun c => { c with referenced := false, lastMarker := none }) s else s)) := ⟨_, rfl⟩
  have hlost : n = modPos (fun p => { p with
      cars := ⟨faultedRecord (who .car1) p.cars.one, faultedRecord (who .car2) p.cars.two⟩ }) s := by
    rw [hn]
    cases who .car1 <;> cases who .car2 <;> rfl
  have ht : t = announce (.recompute false) (raiseEvent .POSITION .EMERGENCY (occur .POSITION_FAULT n)) := by rw [hn]; rfl
  obtain ⟨p, m, ho⟩ := occur_frame .POSITION_FAULT n
  obtain ⟨b, q, v, w, l, h, hact, -, -, -, -, -, -, hE, -, hlatch⟩ := causesAct_fields [(.POSITION, .EMERGENCY)] (occur .POSITION_FAULT n)
  have hpend := causesAct_pendingKept [(.POSITION, .EMERGENCY)] _ _ (occur_pending .POSITION_FAULT n)
  rw [ht]
  unfold raiseEvent
  refine ⟨?_, hpend, ?_, ?_, ?_, fun a ha => ?_⟩
  · rw [announce_rest, causesAct_rest, occur_rest, hlost]
    rfl
  · rw [h]
    exact (hlatch _ (List.mem_singleton_self _)).2.1 rfl
  · exact List.mem_append_right _ (List.mem_singleton_self _)
  · rw [h]
    dsimp only [announce]
    rw [hact, occur_brake, hlost]
    rfl
  · rw [h, ho, hlost]
    exact List.mem_append_left _ (List.mem_append_left _ ha)

/-- Whether the pair check fails in a state whose cars are both referenced (R16). -/
def Unpaired (s : State) : Prop := s.params.pairTolerance.toNat * 1000 <
  (s.pos.cars.one.accumulator.toInt + s.pos.cars.two.accumulator.toInt - pairSumMicro s.active.b).natAbs

theorem pairCheck_eq (s : State) (h : bothReferenced s = true) :
    (Unpaired s → pairCheck s = positionFault (fun _ => true) s) ∧ (¬ Unpaired s → pairCheck s = s) := by
  unfold pairCheck
  rw [if_pos h]
  exact ⟨fun hu => if_pos hu, fun hu => if_neg hu⟩

theorem pairCheck_unreferenced (s : State) (h : bothReferenced s = false) : pairCheck s = s := by
  unfold pairCheck
  rw [h]
  rfl

/-- A record at marker position `mm`, referenced, with the passing seen (R15, R16). -/
def markedRecord (mm : Int) (seen : Nat × MarkerKind) (c : CarRecord) : CarRecord :=
  { c with accumulator := accumulatorAt mm, referenced := true, lastMarker := some seen }

section
variable {k : CarId} {id : Nat} {kind : MarkerKind} {mm : Int} {s : State}

/-- A marker references an unreferenced car beside a referenced one, or corrects a referenced car within the limit (R15, R16). -/
theorem takeMarker_applied (h : ((s.pos.cars.get k).referenced = false ∧ (s.pos.cars.get (otherCar k)).referenced = true) ∨
    ((s.pos.cars.get k).referenced = true ∧ ¬ (kind = .PASSED ∧ (s.pos.cars.get k).lastMarker = some (id, kind)) ∧
      (mm * 1000 - (s.pos.cars.get k).accumulator.toInt).natAbs ≤ s.params.correctionLimit.toNat * 1000)) :
    takeMarker k id kind mm s = pairCheck (announceCorrection (modCar k (markedRecord mm (id, kind)) s)) := by
  unfold takeMarker State.car
  dsimp only
  rcases h with ⟨hc, ho⟩ | ⟨hc, hnew, hle⟩
  · rw [hc, ho]
    rfl
  · have hnew' : ¬ (kind = .PASSED ∧ (s.pos.cars.get k).lastMarker = some (id, .PASSED)) := fun ⟨hk, hl⟩ => hnew ⟨hk, by rw [hl, hk]⟩
    have hmark : modCar k (fun c => { c with accumulator := accumulatorAt mm, lastMarker := some (id, kind) }) s =
        modCar k (markedRecord mm (id, kind)) s := by
      unfold modCar modPos markedRecord
      dsimp only
      rw [← hc]
    rw [if_neg (by simp [hc]), if_neg hnew', if_neg (Nat.not_lt.mpr hle), hmark]

/-- A marker while neither car is referenced: the reporting car takes its position, the other the rest of the pair sum (R15, R16). -/
theorem takeMarker_first (hc : (s.pos.cars.get k).referenced = false) (ho : (s.pos.cars.get (otherCar k)).referenced = false) :
    takeMarker k id kind mm s = pairCheck (announceCorrection (modCar (otherCar k) (fun o => { o with
      accumulator := BitVec.ofInt 48 (pairSumMicro s.active.b) - accumulatorAt mm
      referenced := true }) (modCar k (markedRecord mm (id, kind)) s))) := by
  unfold takeMarker State.car
  dsimp only
  rw [hc, ho]
  rfl

theorem takeMarker_again (hc : (s.pos.cars.get k).referenced = true) (hk : kind = .PASSED)
    (hl : (s.pos.cars.get k).lastMarker = some (id, kind)) : takeMarker k id kind mm s = s := by
  unfold takeMarker State.car
  dsimp only
  rw [if_neg (by simp [hc]), if_pos ⟨hk, hl.trans (by rw [hk])⟩]

theorem takeMarker_fault (hc : (s.pos.cars.get k).referenced = true)
    (hnew : ¬ (kind = .PASSED ∧ (s.pos.cars.get k).lastMarker = some (id, kind)))
    (hgt : s.params.correctionLimit.toNat * 1000 < (mm * 1000 - (s.pos.cars.get k).accumulator.toInt).natAbs) :
    takeMarker k id kind mm s = positionFault (fun x => x == k) s := by
  have hnew' : ¬ (kind = .PASSED ∧ (s.pos.cars.get k).lastMarker = some (id, .PASSED)) := fun ⟨hk, hl⟩ => hnew ⟨hk, by rw [hl, hk]⟩
  unfold takeMarker State.car
  dsimp only
  rw [if_neg (by simp [hc]), if_neg hnew', if_pos hgt]

end

theorem markerPos_bounds {t : GroupB} {i : Nat} {mm : Int} (h : markerPos t i = some mm) : 0 ≤ mm ∧ mm < 2 ^ 24 := by
  unfold markerPos at h
  split at h
  · split at h
    next m _ _ =>
      cases h
      have := m.position.isLt
      omega
    next => cases h
  · cases h

/-- The position of a marker fits an accumulator (R12, R15). -/
theorem accumulatorAt_toInt {t : GroupB} {i : Nat} {mm : Int} (h : markerPos t i = some mm) : (accumulatorAt mm).toInt = mm * 1000 := by
  have := markerPos_bounds h
  unfold accumulatorAt
  rw [BitVec.toInt_ofInt]
  exact Int.bmod_eq_of_le (by norm_num; omega) (by norm_num; omega)

/-- The rest of the pair sum at a marker: both cars together make the pair sum (R16). -/
theorem accumulatorAt_pair {t : GroupB} {i : Nat} {mm : Int} (h : markerPos t i = some mm) :
    (accumulatorAt mm).toInt + (BitVec.ofInt 48 (pairSumMicro t) - accumulatorAt mm).toInt = pairSumMicro t := by
  have hmm := markerPos_bounds h
  have hsum : 0 ≤ pairSumMicro t ∧ pairSumMicro t < 2 ^ 24 * 1000 := by
    have := t.pairSum.isLt
    unfold pairSumMicro
    omega
  rw [BitVec.toInt_sub, accumulatorAt_toInt h, BitVec.toInt_ofInt, Int.bmod_eq_of_le (n := pairSumMicro t) (by norm_num; omega)
    (by norm_num; omega), Int.bmod_eq_of_le (by norm_num; omega) (by norm_num; omega)]
  omega

/-! ## Car reports (R13) -/

/-- A car report up to its marker field: the record, and the loss of the link no longer in force (R13, R60). -/
def reportHeard (p : CarReportP) (s : State) : State :=
  let s1 := modCar p.car (carAfterReport s.params.carReportTimeout.toNat p) s
  evalLinkCause { s1 with brake := { s1.brake with lossInForce := s1.brake.lossInForce.set p.car false } }

theorem takeCarReport_eq (p : CarReportP) (s : State) :
    takeCarReport p s = carHeardByReport p.car (slipTest p.car (takeMarkerField p (reportHeard p s))) := rfl

theorem reportHeard_rest (p : CarReportP) (s : State) : (reportHeard p s).rest = { s.rest with
    pos := { s.pos with cars := s.pos.cars.set p.car (carAfterReport s.params.carReportTimeout.toNat p (s.pos.cars.get p.car)) }
    lossInForce := s.brake.lossInForce.set p.car false } :=
  evalLinkCause_rest _

theorem reportHeard_faultStays (p : CarReportP) (s : State) : FaultStays s (reportHeard p s) := by
  refine FaultStays.trans ?_ (levelCause_faultStays (c := .CAR_LINK_LOST) (by decide) _ _)
  exact ⟨.of_mgmt rfl, id, Iff.rfl, fun _ => id⟩

/-- What a marker changes of a car's record, and what a report's other steps leave of it (R13, R15). -/
def markKept (c d : CarRecord) : Prop := d.accumulator = c.accumulator ∧ d.referenced = c.referenced ∧ d.lastMarker = c.lastMarker

/-- What a report's steps 1 to 4 and the slip test change of a car's record, and its markers leave of it (R13, R20). -/
def reportKept (c d : CarRecord) : Prop :=
  d.linkUp = c.linkUp ∧ d.reportTimer = c.reportTimer ∧ d.speed = c.speed ∧ d.speedAge = c.speedAge ∧ d.load = c.load ∧
    d.loadTimer = c.loadTimer ∧ d.rail = c.rail ∧ d.slip = c.slip ∧ d.slipTimer = c.slipTimer

theorem slipAfter_eq (k : CarId) (q : Position) : ∃ b x, slipAfter k q = { q.cars.get k with slipTimer := x, slip := b } := by
  unfold slipAfter
  dsimp only
  split
  · exact ⟨_, _, rfl⟩
  · split
    · split
      · exact ⟨_, _, rfl⟩
      · exact ⟨_, _, rfl⟩
    · exact ⟨_, _, rfl⟩

theorem carAfterReport_markKept (n : Nat) (p : CarReportP) (c : CarRecord) : markKept c (carAfterReport n p c) := by
  unfold carAfterReport
  dsimp only
  split
  · exact ⟨rfl, rfl, rfl⟩
  · exact ⟨rfl, rfl, rfl⟩

theorem carAfterReport_slip (n : Nat) (p : CarReportP) (c : CarRecord) :
    (carAfterReport n p c).slip = c.slip ∧ (carAfterReport n p c).slipTimer = c.slipTimer := by
  unfold carAfterReport
  dsimp only
  split
  · exact ⟨rfl, rfl⟩
  · exact ⟨rfl, rfl⟩

theorem carAfterReport_speed (n : Nat) (p : CarReportP) (c : CarRecord) : let d := carAfterReport n p c
    d.linkUp = true ∧ d.reportTimer = some n ∧ d.speed = reportedSpeed p.speed ∧ d.speedAge = 0 ∧ d.rail = some p.rail := by
  unfold carAfterReport
  dsimp only
  split
  · exact ⟨rfl, rfl, rfl, rfl, rfl⟩
  · exact ⟨rfl, rfl, rfl, rfl, rfl⟩

theorem carAfterReport_load (n : Nat) (p : CarReportP) (c : CarRecord) : let d := carAfterReport n p c
    (p.load = 0xFFFF#16 → d.load = c.load ∧ d.loadTimer = c.loadTimer) ∧
      (p.load ≠ 0xFFFF#16 → d.load = some (min 30000 p.load.toNat) ∧ d.loadTimer = some 30000) := by
  unfold carAfterReport reportedLoad
  by_cases h : p.load = 0xFFFF#16
  · rw [if_pos h]
    exact ⟨fun _ => ⟨rfl, rfl⟩, fun hne => absurd h hne⟩
  · rw [if_neg h]
    exact ⟨fun he => absurd he h, fun _ => ⟨rfl, rfl⟩⟩

/-- From `s` to `t` only accumulators, references and last markers change of what announcements never change (R15 to R17). -/
def MarkersOnly (s t : State) : Prop :=
  ∃ c, t.rest = { s.rest with pos := { s.pos with cars := c } } ∧ ∀ k, reportKept (s.pos.cars.get k) (c.get k)

theorem MarkersOnly.of_rest {s t : State} (h : t.rest = s.rest) : MarkersOnly s t :=
  ⟨s.pos.cars, h, fun _ => ⟨rfl, rfl, rfl, rfl, rfl, rfl, rfl, rfl, rfl⟩⟩

theorem MarkersOnly.trans {s t u : State} (h : MarkersOnly s t) (h' : MarkersOnly t u) : MarkersOnly s u := by
  obtain ⟨c, hr, hk⟩ := h
  obtain ⟨d, hr', hk'⟩ := h'
  have hp := pos_of_rest hr
  refine ⟨d, ?_, fun k => ?_⟩
  · rw [hr', hp, hr]
  · obtain ⟨a1, a2, a3, a4, a5, a6, a7, a8, a9⟩ := hk k
    have hk2 := hk' k
    rw [hp] at hk2
    obtain ⟨b1, b2, b3, b4, b5, b6, b7, b8, b9⟩ := hk2
    exact ⟨b1.trans a1, b2.trans a2, b3.trans a3, b4.trans a4, b5.trans a5, b6.trans a6, b7.trans a7, b8.trans a8, b9.trans a9⟩

theorem MarkersOnly.modCar {k : CarId} {f : CarRecord → CarRecord} (hf : ∀ c, reportKept c (f c)) (s : State) :
    MarkersOnly s (modCar k f s) := by
  refine ⟨_, modCar_rest k f s, fun j => ?_⟩
  by_cases hj : j = k
  · rw [hj, PerCar.get_set_self]
    exact hf _
  · rw [PerCar.get_set_ne _ _ hj]
    exact ⟨rfl, rfl, rfl, rfl, rfl, rfl, rfl, rfl, rfl⟩

theorem MarkersOnly.positionFault (who : CarId → Bool) (s : State) : MarkersOnly s (positionFault who s) := by
  refine ⟨_, (positionFault_spec who s).1, fun k => ?_⟩
  have kept : ∀ (b : Bool) c, reportKept c (faultedRecord b c) := by
    intro b c
    cases b
    · exact ⟨rfl, rfl, rfl, rfl, rfl, rfl, rfl, rfl, rfl⟩
    · exact ⟨rfl, rfl, rfl, rfl, rfl, rfl, rfl, rfl, rfl⟩
  cases k
  · exact kept _ _
  · exact kept _ _

theorem MarkersOnly.pairCheck (s : State) : MarkersOnly s (pairCheck s) := by
  cases h : bothReferenced s with
  | false => exact .of_rest (by rw [pairCheck_unreferenced s h])
  | true =>
    by_cases hu : Unpaired s
    · rw [(pairCheck_eq s h).1 hu]; exact .positionFault _ s
    · exact .of_rest (by rw [(pairCheck_eq s h).2 hu])

/-- A marker changes accumulators, references and last markers alone (R15 to R17). -/
theorem takeMarkerField_only (p : CarReportP) (s : State) : MarkersOnly s (takeMarkerField p s) := by
  have marked : ∀ k (f : CarRecord → CarRecord) (u : State), (∀ c, reportKept c (f c)) → MarkersOnly s u →
      MarkersOnly s (Machine.pairCheck (announceCorrection (Machine.modCar k f u))) := fun k f u hf hu =>
    (hu.trans (.modCar hf u)).trans ((MarkersOnly.of_rest rfl).trans (.pairCheck _))
  have same : ∀ c : CarRecord, reportKept c c := fun _ => ⟨rfl, rfl, rfl, rfl, rfl, rfl, rfl, rfl, rfl⟩
  unfold takeMarkerField
  split
  · unfold takeMarker
    dsimp only
    split
    · split
      · exact marked _ _ s (fun _ => same _) (.of_rest rfl)
      · exact marked _ _ _ (fun _ => same _) (.modCar (fun c => by exact same c) s)
    · split
      · exact .of_rest rfl
      · split
        · exact .positionFault _ s
        · exact marked _ _ s (fun _ => same _) (.of_rest rfl)
  · exact .of_rest rfl

/-- A car report after its marker: the slip test, and the car heard by the door unit (R20, R113). -/
theorem takeCarReport_rest (p : CarReportP) (s : State) :
    let m := takeMarkerField p (reportHeard p s)
    (takeCarReport p s).rest = { m.rest with
      pos := { m.pos with cars := m.pos.cars.set p.car (slipAfter p.car m.pos) }
      heard := m.rest.heard.set p.car true } := by
  intro m
  rw [takeCarReport_eq, carHeardByReport_rest, slipTest_rest]

theorem otherCar_ne (k : CarId) : otherCar k ≠ k := by cases k <;> exact nofun

/-- The first part of O13: the record of a report, with or without a marker. -/
theorem carReport_record (hdr : Header) (p : CarReportP) (e : NodeEntry) (s : State) (h : acceptedFrom s hdr (.carReport p) e) :
    let c := s.pos.cars.get p.car
    ∃ t d, exec (.carReport hdr p) s = .next t ∧ t.pos.cars.get p.car = d ∧
      d.linkUp = true ∧ d.reportTimer = some s.params.carReportTimeout.toNat ∧
      (p.speed = 0x8000#16 → d.speed = none) ∧
      (p.speed ≠ 0x8000#16 → d.speed = some (max (-20465) (min 20465 p.speed.toInt))) ∧
      d.speedAge = 0 ∧
      (p.load = 0xFFFF#16 → d.load = c.load ∧ d.loadTimer = c.loadTimer) ∧
      (p.load ≠ 0xFFFF#16 → d.load = some (min 30000 p.load.toNat) ∧ d.loadTimer = some 30000) ∧
      d.rail = some p.rail ∧
      (markerPos s.active.b p.markerId.toNat = none →
        d.accumulator = c.accumulator ∧ d.referenced = c.referenced ∧ d.lastMarker = c.lastMarker ∧
        t.pos.cars.get (otherCar p.car) = s.pos.cars.get (otherCar p.car)) ∧
      t.pos.ropeTravel = s.pos.ropeTravel ∧ t.pos.measured = s.pos.measured ∧ slipFollows p.car s t ∧
      t.brake.lossInForce.get p.car = false ∧
      (t.doors.get p.car).heard = true := by
  intro c
  obtain ⟨t, ht, hr⟩ := received_rest h rfl
  rw [takeCarReport_rest] at hr
  have hbase := reportHeard_rest p (heardOn hdr.port s)
  obtain ⟨cars, hmr, hkept⟩ := takeMarkerField_only p (reportHeard p (heardOn hdr.port s))
  have hmarker : markerPos s.active.b p.markerId.toNat = none →
      takeMarkerField p (reportHeard p (heardOn hdr.port s)) = reportHeard p (heardOn hdr.port s) := by
    intro hn
    unfold takeMarkerField
    rw [show (reportHeard p (heardOn hdr.port s)).active.b = s.active.b from activeB_of_rest hbase, hn]
  generalize hb : reportHeard p (heardOn hdr.port s) = b at hr hbase hmr hkept hmarker
  generalize takeMarkerField p b = m at hr hmr hmarker
  have hbp : b.pos = { s.pos with
      cars := s.pos.cars.set p.car (carAfterReport s.params.carReportTimeout.toNat p c) } := pos_of_rest hbase
  have hbc : b.pos.cars.get p.car = carAfterReport s.params.carReportTimeout.toNat p c := by
    rw [hbp]; exact PerCar.get_set_self ..
  have hmp : m.pos = { b.pos with cars := cars } := pos_of_rest hmr
  have htp := pos_of_rest hr
  have hd : t.pos.cars.get p.car = slipAfter p.car m.pos := by rw [htp]; exact PerCar.get_set_self ..
  obtain ⟨x, y, hs⟩ := slipAfter_eq p.car m.pos
  have hk := hkept p.car
  rw [hbc] at hk
  obtain ⟨k1, k2, k3, k4, k5, k6, k7, k8, k9⟩ := hk
  obtain ⟨a1, a2, a3, a4, a5⟩ := carAfterReport_speed s.params.carReportTimeout.toNat p c
  obtain ⟨l1, l2⟩ := carAfterReport_load s.params.carReportTimeout.toNat p c
  obtain ⟨s1, s2⟩ := carAfterReport_slip s.params.carReportTimeout.toNat p c
  have hcars : (slipAfter p.car m.pos) = { cars.get p.car with slipTimer := y, slip := x } := by rw [hs, hmp]
  have hspeed : (slipAfter p.car m.pos).speed = reportedSpeed p.speed := by rw [hcars]; exact k3.trans a3
  refine ⟨t, slipAfter p.car m.pos, ht, hd, ?_, ?_, fun hv => ?_, fun hv => ?_, ?_, fun hl => ?_, fun hl => ?_, ?_, fun hn => ?_,
    ?_, ?_, ?_, ?_, ?_⟩
  · rw [hcars]; exact k1.trans a1
  · rw [hcars]; exact k2.trans a2
  · rw [hspeed]; exact if_pos hv
  · rw [hspeed]; exact if_neg hv
  · rw [hcars]; exact k4.trans a4
  · rw [hcars]; exact ⟨k5.trans (l1 hl).1, k6.trans (l1 hl).2⟩
  · rw [hcars]; exact ⟨k5.trans (l2 hl).1, k6.trans (l2 hl).2⟩
  · rw [hcars]; exact k7.trans a5
  · have hmb := hmarker hn
    have hmk := carAfterReport_markKept s.params.carReportTimeout.toNat p c
    have hcb : cars = b.pos.cars := by
      have := congrArg (fun u : State => u.pos.cars) hmb
      rw [hmp] at this
      exact this
    rw [hcars, htp, hmp, hcb]
    refine ⟨?_, ?_, ?_, ?_⟩
    · rw [hbc]; exact hmk.1
    · rw [hbc]; exact hmk.2.1
    · rw [hbc]; exact hmk.2.2
    · dsimp only
      rw [PerCar.get_set_ne _ _ (otherCar_ne _), hbp]
      exact PerCar.get_set_ne _ _ (otherCar_ne _)
  · rw [htp, hmp, hbp]
  · rw [htp, hmp, hbp]
  · refine slipFollows_of_after (p := m.pos) hd ?_ ?_ (by rw [htp]) (by rw [htp])
    · rw [hmp]; exact k8.trans s1
    · rw [hmp]; exact k9.trans s2
  · have hloss : t.brake.lossInForce = s.brake.lossInForce.set p.car false := by
      have := congrArg Rest.lossInForce (hr.trans (by rw [hmr, hbase]))
      exact this
    rw [hloss]
    exact PerCar.get_set_self ..
  · have hheard : (⟨t.doors.one.heard, t.doors.two.heard⟩ : PerCar Bool) = m.rest.heard.set p.car true := congrArg Rest.heard hr
    have : (PerCar.mk t.doors.one.heard t.doors.two.heard).get p.car = true := by rw [hheard]; exact PerCar.get_set_self ..
    revert this
    cases p.car
    · exact id
    · exact id

/-- The second part of O13: a marker while neither car is referenced. -/
theorem carReport_first (hdr : Header) (p : CarReportP) (e : NodeEntry) (mm : Int) (s : State)
    (h : acceptedFrom s hdr (.carReport p) e) (hm : markerPos s.active.b p.markerId.toNat = some mm)
    (hno : ∀ k, (s.pos.cars.get k).referenced = false) :
    ∃ t, exec (.carReport hdr p) s = .next t ∧
      (t.pos.cars.get p.car).accumulator = BitVec.ofInt 48 (mm * 1000) ∧
      (t.pos.cars.get p.car).lastMarker = some (p.markerId.toNat, p.markerKind) ∧
      (t.pos.cars.get (otherCar p.car)).accumulator =
        BitVec.ofInt 48 ((s.active.b.pairSum.toNat : Int) * 1000) - BitVec.ofInt 48 (mm * 1000) ∧
      (t.pos.cars.get (otherCar p.car)).lastMarker = (s.pos.cars.get (otherCar p.car)).lastMarker ∧
      (∀ k, (t.pos.cars.get k).referenced = true) ∧
      t.pos.ropeTravel = s.pos.ropeTravel := by
  obtain ⟨t, ht, hr⟩ := received_rest h rfl
  rw [takeCarReport_rest] at hr
  have hbase := reportHeard_rest p (heardOn hdr.port s)
  generalize hb : reportHeard p (heardOn hdr.port s) = b at hr hbase
  have hbp : b.pos = { s.pos with
      cars := s.pos.cars.set p.car (carAfterReport s.params.carReportTimeout.toNat p (s.pos.cars.get p.car)) } := pos_of_rest hbase
  have hbb : b.active.b = s.active.b := activeB_of_rest hbase
  have hself : b.pos.cars.get p.car = carAfterReport s.params.carReportTimeout.toNat p (s.pos.cars.get p.car) := by
    rw [hbp]; exact PerCar.get_set_self ..
  have hother : b.pos.cars.get (otherCar p.car) = s.pos.cars.get (otherCar p.car) := by
    rw [hbp]; exact PerCar.get_set_ne _ _ (otherCar_ne _)
  have hfirst := takeMarker_first (k := p.car) (id := p.markerId.toNat) (kind := p.markerKind) (mm := mm) (s := b)
    (by rw [hself]; exact (carAfterReport_markKept ..).2.1.trans (hno _)) (by rw [hother]; exact hno _)
  obtain ⟨v, hv⟩ : ∃ v, v = announceCorrection (modCar (otherCar p.car) (fun o => { o with
      accumulator := BitVec.ofInt 48 (pairSumMicro b.active.b) - accumulatorAt mm
      referenced := true }) (modCar p.car (markedRecord mm (p.markerId.toNat, p.markerKind)) b)) := ⟨_, rfl⟩
  have hvp : v.pos = { b.pos with
      cars := (b.pos.cars.set p.car (markedRecord mm (p.markerId.toNat, p.markerKind) (b.pos.cars.get p.car))).set (otherCar p.car)
        { b.pos.cars.get (otherCar p.car) with
          accumulator := BitVec.ofInt 48 (pairSumMicro b.active.b) - accumulatorAt mm, referenced := true } } := by
    rw [hv]
    cases p.car <;> rfl
  have hpair := accumulatorAt_pair (hbb ▸ hm : markerPos b.active.b p.markerId.toNat = some mm)
  have hvb : v.active.b = b.active.b := by rw [hv]; rfl
  have hsum : v.pos.cars.one.accumulator.toInt + v.pos.cars.two.accumulator.toInt = pairSumMicro b.active.b := by
    rw [hvp]
    cases p.car with
    | car1 => exact hpair
    | car2 => exact (Int.add_comm ..).trans hpair
  have hun : ¬ Unpaired v := by
    unfold Unpaired
    rw [hsum, hvb, Int.sub_self]
    exact Nat.not_lt_zero _
  have href : bothReferenced v = true := by
    unfold bothReferenced State.car
    rw [hvp]
    cases p.car <;> rfl
  have hmark : takeMarkerField p b = v := by
    unfold takeMarkerField
    rw [hbb, hm]
    exact hfirst.trans (by rw [← hv, (pairCheck_eq v href).2 hun])
  rw [hmark] at hr
  obtain ⟨x, y, hs⟩ := slipAfter_eq p.car v.pos
  have htp : t.pos = { v.pos with cars := v.pos.cars.set p.car { v.pos.cars.get p.car with slipTimer := y, slip := x } } := by
    rw [← hs]
    exact pos_of_rest hr
  have hk : t.pos.cars.get p.car = { markedRecord mm (p.markerId.toNat, p.markerKind) (b.pos.cars.get p.car) with slipTimer := y, slip := x } := by
    rw [htp, hvp]
    cases p.car <;> rfl
  have ho : t.pos.cars.get (otherCar p.car) = { b.pos.cars.get (otherCar p.car) with
      accumulator := BitVec.ofInt 48 (pairSumMicro b.active.b) - accumulatorAt mm, referenced := true } := by
    rw [htp, hvp]
    cases p.car <;> rfl
  refine ⟨t, ht, by rw [hk]; rfl, by rw [hk]; rfl, ?_, ?_, fun k => ?_, ?_⟩
  · rw [ho, hbb]; rfl
  · rw [ho, ← hother]
  · by_cases hj : k = p.car
    · rw [hj, hk]; rfl
    · have : k = otherCar p.car := by revert hj; cases k <;> cases p.car <;> simp [otherCar]
      rw [this, ho]
  · rw [htp, hvp, hbp]

/-- What follows a POSITION fault in its event (R17). -/
def FaultShown (s u : State) : Prop :=
  (u.mgmt.notices.get (noticeIndex .POSITION_FAULT)).pending = true ∧ u.brake.latchE ≠ none ∧
    (.POSITION ∈ u.brake.active ↔ .POSITION ∈ s.brake.active) ∧ .recompute false ∈ u.agenda

/-- A POSITION fault made in state `b` shows in every later state of its event. -/
theorem positionFault_shown {s b u : State} {who : CarId → Bool} (hb : FaultStays s b) (hu : FaultStays (positionFault who b) u) :
    FaultShown s u := by
  obtain ⟨-, hpend, hE, hrec, hact, -⟩ := positionFault_spec who b
  exact ⟨hu.pending _ hpend, hu.latchE hE, hu.active.trans (hact.trans hb.active), hu.agenda _ hrec⟩

/-- Whether the pair check fails once car `k` stands at `mm` (R16). -/
def MarkUnpaired (k : CarId) (mm : Int) (b : State) : Prop :=
  (b.pos.cars.get (otherCar k)).referenced = true ∧ b.params.pairTolerance.toNat * 1000 <
    (mm * 1000 + (b.pos.cars.get (otherCar k)).accumulator.toInt - pairSumMicro b.active.b).natAbs

/-- A marker applied to car `k` in state `b`, with `m` the state behind it and `u` that of its whole event: the car alone is set, and a
failed pair check is the fault of both cars (R15, R16, R17). -/
def MarkApplied (k : CarId) (mm : Int) (seen : Nat × MarkerKind) (s b m u : State) : Prop :=
  let o := b.pos.cars.get (otherCar k)
  let x := m.pos.cars.get k
  let y := m.pos.cars.get (otherCar k)
  x.accumulator = BitVec.ofInt 48 (mm * 1000) ∧ y.accumulator = o.accumulator ∧
    .recompute false ∈ u.agenda ∧ .tripArrival ∈ u.agenda ∧
    (MarkUnpaired k mm b → x.referenced = false ∧ y.referenced = false ∧ x.lastMarker = none ∧ y.lastMarker = none ∧ FaultShown s u) ∧
    (¬ MarkUnpaired k mm b →
      x.referenced = true ∧ x.lastMarker = some seen ∧ y.referenced = o.referenced ∧ y.lastMarker = o.lastMarker)

/-- The state with car `k` marked, before its pair check. -/
def markedState (k : CarId) (mm : Int) (seen : Nat × MarkerKind) (b : State) : State :=
  announceCorrection (modCar k (markedRecord mm seen) b)

section
variable {k : CarId} {mm : Int} {seen : Nat × MarkerKind} {b : State}

theorem markedState_self : (markedState k mm seen b).pos.cars.get k = markedRecord mm seen (b.pos.cars.get k) :=
  PerCar.get_set_self ..

theorem markedState_other : (markedState k mm seen b).pos.cars.get (otherCar k) = b.pos.cars.get (otherCar k) :=
  PerCar.get_set_ne _ _ (otherCar_ne _)

theorem markedState_agenda : .recompute false ∈ (markedState k mm seen b).agenda ∧ .tripArrival ∈ (markedState k mm seen b).agenda := by
  unfold markedState announceCorrection
  simp

theorem markedState_bothReferenced : bothReferenced (markedState k mm seen b) = (b.pos.cars.get (otherCar k)).referenced := by
  cases k with
  | car1 => exact Bool.true_and _
  | car2 => exact Bool.and_true _

/-- The pair check behind a marker is that of the marker's position with the other car (R16). -/
theorem markedState_unpaired {t : GroupB} {i : Nat} (hm : markerPos t i = some mm) (ho : (b.pos.cars.get (otherCar k)).referenced = true) :
    Unpaired (markedState k mm seen b) ↔ MarkUnpaired k mm b := by
  have hsum : (markedState k mm seen b).pos.cars.one.accumulator.toInt + (markedState k mm seen b).pos.cars.two.accumulator.toInt =
      mm * 1000 + (b.pos.cars.get (otherCar k)).accumulator.toInt := by
    rw [← accumulatorAt_toInt hm]
    cases k with
    | car1 => rfl
    | car2 => exact Int.add_comm ..
  unfold Unpaired
  rw [hsum]
  exact ⟨fun hu => ⟨ho, hu⟩, fun hu => hu.2⟩

end

/-- An applied marker, by the outcome of its pair check (R15, R16, R17). -/
theorem markApplied_of_pairCheck {k : CarId} {mm : Int} {seen : Nat × MarkerKind} {s b m u : State} {t : GroupB} {i : Nat}
    (hm : markerPos t i = some mm) (hb : FaultStays s b) (hu : FaultStays m u) (hmk : m = pairCheck (markedState k mm seen b)) :
    MarkApplied k mm seen s b m u := by
  have hag := markedState_agenda (k := k) (mm := mm) (seen := seen) (b := b)
  unfold MarkApplied
  by_cases hun : MarkUnpaired k mm b
  · have hfault := hmk.trans ((pairCheck_eq _ (markedState_bothReferenced.trans hun.1)).1 ((markedState_unpaired hm hun.1).mpr hun))
    obtain ⟨hr, -, -, -, -, hkeep⟩ := positionFault_spec (fun _ => true) (markedState k mm seen b)
    have hwstay : FaultStays s (markedState k mm seen b) := hb.trans (.of_eq rfl rfl ⟨_, List.append_assoc ..⟩)
    have hcar : ∀ j, m.pos.cars.get j = faultedRecord true ((markedState k mm seen b).pos.cars.get j) := by
      intro j
      rw [hfault, pos_of_rest hr]
      cases j <;> rfl
    have hx := (hcar k).trans (congrArg _ markedState_self)
    have hy := (hcar (otherCar k)).trans (congrArg _ markedState_other)
    rw [hx, hy]
    exact ⟨rfl, rfl, hu.agenda _ (by rw [hfault]; exact hkeep _ hag.1),
      hu.agenda _ (by rw [hfault]; exact hkeep _ hag.2),
      fun _ => ⟨rfl, rfl, rfl, rfl, positionFault_shown hwstay (by rw [← hfault]; exact hu)⟩, fun hn => absurd hun hn⟩
  · have hkept : m = markedState k mm seen b := by
      cases ho : (b.pos.cars.get (otherCar k)).referenced with
      | false => exact hmk.trans (pairCheck_unreferenced _ (markedState_bothReferenced.trans ho))
      | true =>
        exact hmk.trans ((pairCheck_eq _ (markedState_bothReferenced.trans ho)).2 fun h => hun ((markedState_unpaired hm ho).mp h))
    have hx : m.pos.cars.get k = markedRecord mm seen (b.pos.cars.get k) := by rw [hkept]; exact markedState_self
    have hy : m.pos.cars.get (otherCar k) = b.pos.cars.get (otherCar k) := by rw [hkept]; exact markedState_other
    rw [hx, hy]
    exact ⟨rfl, rfl, hu.agenda _ (by rw [hkept]; exact hag.1), hu.agenda _ (by rw [hkept]; exact hag.2),
      fun hn => absurd hn hun, fun _ => ⟨rfl, rfl, rfl, rfl⟩⟩

/-- What a present marker does while a car is referenced: from the state `b` that the report's first steps leave to the state that its
marker leaves (R15, R16, R17). -/
theorem takeMarker_cases {k : CarId} {id : Nat} {kind : MarkerKind} {mm : Int} {s b m u : State} {t : GroupB} {i : Nat}
    (hm : markerPos t i = some mm) (hb : FaultStays s b) (hmk : takeMarker k id kind mm b = m) (hu : FaultStays m u) :
    let c := b.pos.cars.get k
    let o := b.pos.cars.get (otherCar k)
    let error := (mm * 1000 - c.accumulator.toInt).natAbs
    let limit := b.params.correctionLimit.toNat * 1000
    let again : Prop := kind = .PASSED ∧ c.lastMarker = some (id, kind)
    let x := m.pos.cars.get k
    let y := m.pos.cars.get (otherCar k)
    (c.referenced = true →
      (again → markKept c x ∧ markKept o y) ∧
      (¬ again → limit < error →
        x.accumulator = c.accumulator ∧ x.referenced = false ∧ x.lastMarker = none ∧ markKept o y ∧ FaultShown s u) ∧
      (¬ again → error ≤ limit → MarkApplied k mm (id, kind) s b m u)) ∧
    (c.referenced = false → o.referenced = true → MarkApplied k mm (id, kind) s b m u) := by
  intro c o error limit again x y
  have same : ∀ r : CarRecord, markKept r r := fun _ => ⟨rfl, rfl, rfl⟩
  have happ : _ → _ := fun h => markApplied_of_pairCheck hm hb hu (hmk.symm.trans (takeMarker_applied h))
  cases hc : c.referenced with
  | false =>
    exact ⟨nofun, fun _ ho => happ (.inl ⟨hc, ho⟩)⟩
  | true =>
    by_cases hag : again
    · obtain rfl : b = m := (takeMarker_again hc hag.1 hag.2).symm.trans hmk
      exact ⟨fun _ => ⟨fun _ => ⟨same _, same _⟩, fun hn => absurd hag hn, fun hn => absurd hag hn⟩, nofun⟩
    · by_cases hle : error ≤ limit
      · exact ⟨fun _ => ⟨fun hy => absurd hy hag, fun _ hgt => absurd hle (Nat.not_le.mpr hgt),
          fun _ _ => happ (.inr ⟨hc, hag, hle⟩)⟩, nofun⟩
      · have hfault : m = positionFault (fun x => x == k) b := hmk.symm.trans (takeMarker_fault hc hag (Nat.not_le.mp hle))
        have hp := pos_of_rest (positionFault_spec (fun x => x == k) b).1
        have hx : x = faultedRecord true c := by
          change m.pos.cars.get k = faultedRecord true (b.pos.cars.get k)
          rw [hfault, hp]
          cases k <;> rfl
        have hy : y = o := by
          change m.pos.cars.get (otherCar k) = b.pos.cars.get (otherCar k)
          rw [hfault, hp]
          cases k <;> rfl
        rw [hx, hy]
        exact ⟨fun _ => ⟨fun hy => absurd hy hag,
          fun _ _ => ⟨rfl, rfl, rfl, same _, positionFault_shown hb (by rw [← hfault]; exact hu)⟩, fun _ h => absurd h hle⟩, nofun⟩

/-- Settles O13: the record by the report's steps, the marker by its cases. -/
theorem carReportsSetRecordAndPosition : Obligations.CarReportsSetRecordAndPosition := by
  refine ⟨carReport_record, carReport_first, fun hdr p e mm s h hm => ?_⟩
  intro c o error limit seen again unpaired kept
  have hbase := reportHeard_rest p (heardOn hdr.port s)
  have hbstay := reportHeard_faultStays p (heardOn hdr.port s)
  have htake := takeCarReport_eq p (heardOn hdr.port s)
  have hfinal := takeCarReport_rest p (heardOn hdr.port s)
  generalize reportHeard p (heardOn hdr.port s) = b at hbase hbstay htake hfinal
  have hbp : b.pos = { s.pos with cars := s.pos.cars.set p.car (carAfterReport s.params.carReportTimeout.toNat p c) } := pos_of_rest hbase
  have hbb : b.active.b = s.active.b := activeB_of_rest hbase
  have hmark : takeMarkerField p b = takeMarker p.car p.markerId.toNat p.markerKind mm b := by
    unfold takeMarkerField
    rw [hbb, hm]
  obtain ⟨cars, hmr, -⟩ := takeMarkerField_only p b
  rw [hmark] at htake hmr
  dsimp only at hfinal
  rw [hmark] at hfinal
  obtain ⟨m, hmk⟩ : ∃ m, takeMarker p.car p.markerId.toNat p.markerKind mm b = m := ⟨_, rfl⟩
  rw [hmk] at htake hmr hfinal
  obtain ⟨l, hl⟩ := react_eq (takeCarReport p) (heardOn hdr.port s)
  have hu : FaultStays m (react (takeCarReport p) (heardOn hdr.port s)) := by
    refine ((slipTest_faultStays p.car m).trans (carHeardByReport_faultStays p.car _)).trans ?_
    rw [hl, ← htake]
    exact .of_eq rfl rfl ⟨l, rfl⟩
  have hup : (react (takeCarReport p) (heardOn hdr.port s)).pos = { m.pos with cars := m.pos.cars.set p.car (slipAfter p.car m.pos) } := by
    rw [hl]
    exact pos_of_rest hfinal
  obtain ⟨b', y', hs⟩ := slipAfter_eq p.car m.pos
  have hux : (react (takeCarReport p) (heardOn hdr.port s)).pos.cars.get p.car = { m.pos.cars.get p.car with slipTimer := y', slip := b' } := by
    rw [hup, ← hs]; exact PerCar.get_set_self ..
  have huy : (react (takeCarReport p) (heardOn hdr.port s)).pos.cars.get (otherCar p.car) = m.pos.cars.get (otherCar p.car) := by
    rw [hup]; exact PerCar.get_set_ne _ _ (otherCar_ne _)
  have hbc : b.pos.cars.get p.car = carAfterReport s.params.carReportTimeout.toNat p c := by rw [hbp]; exact PerCar.get_set_self ..
  have hbo : b.pos.cars.get (otherCar p.car) = o := by rw [hbp]; exact PerCar.get_set_ne _ _ (otherCar_ne _)
  obtain ⟨hacc, href, hlast⟩ := carAfterReport_markKept s.params.carReportTimeout.toNat p c
  have hcases := takeMarker_cases hm hbstay hmk hu
  unfold MarkApplied MarkUnpaired at hcases
  dsimp only at hcases
  rw [hbc, hbo, hacc, href, hlast, show b.params = s.params from congrArg GroupB.params hbb, hbb] at hcases
  refine ⟨react (takeCarReport p) (heardOn hdr.port s), running_receive h, ?_⟩
  dsimp only
  rw [hux, huy]
  refine ⟨?_, fun hc => ?_, hcases.2⟩
  · rw [hup, pos_of_rest hmr, hbp]
  · obtain ⟨h1, h2, h3⟩ := hcases.1 hc
    refine ⟨fun hag => ?_, h2, h3⟩
    obtain ⟨⟨k1, k2, k3⟩, k4⟩ := h1 hag
    exact ⟨⟨k1.trans hacc, k2.trans href, k3.trans hlast⟩, k4⟩

end Sys2Proof.Machine
end

section
/-!
PROOFS. The demand filter (chapter 3) and the brake supervisor (chapter 4): the statements O15 to O21.
-/

namespace Sys2Proof.Machine

/-! ## O15 and O16: the console demand and its loss -/

theorem tripUnderWay_iff (st : TripState) : tripUnderWay st = true ↔ st = .DEPARTING ∨ st = .RUNNING ∨ st = .STOPPING := by
  cases st <;> decide

theorem stateForcesZero_iff (s : State) :
    stateForcesZero s = true ↔ ¬ (s.trip.state = .RUNNING ∨ (s.trip.state = .STOPPING ∧ s.brake.latchS = none)) := by
  unfold stateForcesZero
  split
  next h => simp [h]
  next h => simp [h, Option.isSome_iff_ne_none]
  next h1 h2 => exact iff_of_true rfl fun h => h.elim h1 fun h => h2 h.1

/-- The forwarded code and the clamp flag by direction, state and requested code (R41, R42). -/
theorem demandOutcome_eq {s : State} {p : DemandP} {code : Nat} {clamp : Bool}
    (h : let req := min 0xFFF p.code.toNat
      let v := min 0xFFE (1 + s.speed.vPerm / 5)
      let free := s.trip.state = .RUNNING ∨ (s.trip.state = .STOPPING ∧ s.brake.latchS = none)
      let last := s.filter.lastForwarded
      ((p.dir ≠ s.trip.dir ∨ ¬ free) ∧ code = 1 ∧ clamp = decide (1 < req)) ∨
        (p.dir = s.trip.dir ∧ free ∧
          ((req = 0 ∧ last = none ∧ code = 1 ∧ clamp = false) ∨
            (∃ l, req = 0 ∧ last = some l ∧ code = min l v ∧ clamp = decide (v < l)) ∨
            (req = 0xFFF ∧ code = 1 ∧ clamp = true) ∨
            (req ≠ 0 ∧ req ≠ 0xFFF ∧ code = min req v ∧ clamp = decide (v < req))))) :
    demandOutcome s p = (code, clamp) ∧ code < 2 ^ 16 := by
  dsimp only at h
  have hv : permittedCode s = min 0xFFE (1 + s.speed.vPerm / 5) := rfl
  unfold demandOutcome
  rcases h with ⟨hbar, rfl, rfl⟩ | ⟨hdir, hfree, h⟩
  · rw [← stateForcesZero_iff] at hbar
    exact ⟨if_pos hbar, by decide⟩
  · have hno : ¬ (p.dir ≠ s.trip.dir ∨ stateForcesZero s = true) := by
      rw [stateForcesZero_iff]
      exact not_or.mpr ⟨fun hne => hne hdir, fun hne => hne hfree⟩
    rw [if_neg hno]
    unfold clampCode requestedCode
    dsimp only
    rw [hv]
    rcases h with ⟨h0, hl, rfl, rfl⟩ | ⟨l, h0, hl, rfl, rfl⟩ | ⟨hF, rfl, rfl⟩ | ⟨h0, hF, rfl, rfl⟩
    · rw [if_pos h0, hl]
      exact ⟨rfl, by decide⟩
    · rw [if_pos h0, hl]
      exact ⟨rfl, by omega⟩
    · rw [if_neg (by omega), if_pos hF]
      exact ⟨rfl, by decide⟩
    · rw [if_neg h0, if_neg hF]
      exact ⟨rfl, by omega⟩

/-- Settles O15: the outcome of R41 and R42, forwarded as R43 and R44 say. -/
theorem consoleDemandIsClamped : Obligations.ConsoleDemandIsClamped := by
  have settled : ∀ (hdr : Header) (p : DemandP) (e : NodeEntry) (s : State), acceptedFrom s hdr (.demand p) e → quiet s = true →
      exec (.demand hdr p) s = .next (takeDemand hdr.dst hdr.src p (heardOn hdr.port s)) := by
    intro hdr p e s h hq
    refine (running_receive h).trans (congrArg _ ?_)
    have hfields : ∃ f q, takeDemand hdr.dst hdr.src p (heardOn hdr.port s) = { heardOn hdr.port s with filter := f, ports := q } := by
      unfold takeDemand
      split
      · exact ⟨_, _, rfl⟩
      · dsimp only
        split
        · exact ⟨_, _, rfl⟩
        · exact ⟨_, _, rfl⟩
    obtain ⟨f, q, hf⟩ := hfields
    refine settle_react_quiet (heardOn_quiet hdr.port hq) ?_ ?_ ?_ ?_ ?_ ?_ ?_ ?_ ?_ ?_ ?_ ?_ ?_ ?_ ?_ ?_ ?_
    all_goals rw [hf]
    rfl
  refine ⟨fun hdr p e s code clamp h hq hsub => ?_, fun hdr p e s h hq hsub => ?_⟩
  · intro req v free last underWay hcase q
    obtain ⟨hout, hlt⟩ := demandOutcome_eq hcase
    rw [settled hdr p e s h hq]
    have hout' : demandOutcome (heardOn hdr.port s) p = (code, clamp) := hout
    have hway : tripUnderWay s.trip.state = decide underWay := Bool.eq_iff_iff.mpr (by rw [tripUnderWay_iff, decide_eq_true_eq])
    have hcode : (BitVec.ofNat 16 code).toNat = code := by rw [BitVec.toNat_ofNat, Nat.mod_eq_of_lt hlt]
    have hq : forwardedDemand (heardOn hdr.port s) p = q := by
      unfold forwardedDemand demandFlags
      dsimp only
      rw [hout', show (heardOn hdr.port s).trip = s.trip from rfl, hway]
      simp only [decide_eq_true_eq]
      rfl
    unfold takeDemand
    rw [if_neg (by rw [show (heardOn hdr.port s).filter = s.filter from rfl, hsub]; exact nofun), hout', hq]
    dsimp only
    rw [show (heardOn hdr.port s).trip = s.trip from rfl, hway]
    unfold placeDemand
    dsimp only
    rw [hcode]
    by_cases hw : underWay
    · rw [if_pos (decide_eq_true hw), if_pos hw]; rfl
    · rw [if_neg (by rwa [decide_eq_true_eq]), if_neg hw]; rfl
  · rw [settled hdr p e s h hq]
    exact congrArg _ (if_pos hsub)

theorem announceChange_foldl_agenda (v : Vector (BitVec 32) 6) (ms : List (Vector (BitVec 32) 6)) (s : State) :
    ∃ l, ms.foldl (fun s m => announceChange v m s) s = { s with agenda := s.agenda ++ l } ∧ ∀ x ∈ l, ∃ w q, x = .outside w q := by
  induction ms generalizing s with
  | nil => exact ⟨[], by simp, nofun⟩
  | cons m ms ih =>
    obtain ⟨l, h, hl⟩ := ih (announceChange v m s)
    rw [List.foldl_cons, h]
    unfold announceChange
    rw [announceIf_eq]
    refine ⟨_, by simp only [List.append_assoc]; rfl, fun x hx => ?_⟩
    rcases List.mem_append.mp hx with hx | hx
    · split at hx
      · exact ⟨_, _, List.mem_singleton.mp hx⟩
      · cases hx
    · exact hl x hx

/-- What announcing the changes of an event adds: a departure that may be due, and outside changes (R86, R125). -/
theorem react_agenda (f : State → State) (s : State) : ∃ l, react f s = { f s with agenda := (f s).agenda ++ l } ∧
    ∀ x ∈ l, x = .tripReady ∨ ∃ v q, x = .outside v q := by
  unfold react announceChanges announceConditions
  rw [announceIf_eq]
  dsimp only
  have hready : ∀ x ∈ (if (((f s).trip.state == .READY) && departureReady (f s)) = true then [Ann.tripReady] else []),
      x = .tripReady ∨ ∃ v q, x = .outside v q := by
    intro x hx
    split at hx
    · exact .inl (List.mem_singleton.mp hx)
    · cases hx
  generalize (if (((f s).trip.state == .READY) && departureReady (f s)) = true then [Ann.tripReady] else []) = r at hready ⊢
  split
  · exact ⟨_, rfl, hready⟩
  · obtain ⟨l, h, hl⟩ := announceChange_foldl_agenda _ changeKinds _
    refine ⟨_, h.trans (by simp only [List.append_assoc]; rfl), fun x hx => ?_⟩
    rcases List.mem_append.mp hx with hx | hx
    · exact hready x hx
    · exact .inr (hl x hx)

/-- An announcement of a block's own is not one of those that follow every event. -/
theorem react_not_mem {f : State → State} {s : State} {a : Ann} (ha : a ∉ (f s).agenda) (h1 : a ≠ .tripReady)
    (h2 : ∀ v q, a ≠ .outside v q) : a ∉ (react f s).agenda := by
  obtain ⟨l, h, hl⟩ := react_agenda f s
  rw [h]
  intro hm
  rcases List.mem_append.mp hm with hm | hm
  · exact ha hm
  · rcases hl a hm with e | ⟨v, q, e⟩
    · exact h1 e
    · exact h2 v q e

theorem react_head {f : State → State} {s : State} {a : Ann} {l : List Ann} (h : (f s).agenda = a :: l) :
    (react f s).agenda.head? = some a := by
  obtain ⟨l', hl⟩ := react_eq f s
  rw [hl, h]
  rfl

theorem occur_agenda (n : Notice) (s : State) : (occur n s).agenda = s.agenda := by
  obtain ⟨p, v, -, h⟩ := occur_fields n s
  rw [h]

/-- Settles O16: by the trip state. -/
theorem lostDemandIsSubstituted : Obligations.LostDemandIsSubstituted := by
  intro s hr ht ha stopped on
  have hon : on.agenda = [] := (occur_agenda ..).trans ha
  have hstop : stopped.agenda = [] := ha
  have hf : ∀ t, demandTimerExpires s = t → (react demandTimerExpires s).bare = t.bare := fun t e => e ▸ react_bare _ _
  have hlost : ∀ t, demandTimerExpires s = announce .tripDemandLost t → t.agenda = [] →
      (react demandTimerExpires s).bare = t.bare ∧ (react demandTimerExpires s).agenda.head? = some .tripDemandLost := by
    intro t e h0
    exact ⟨(hf _ e).trans rfl, react_head (l := []) (by rw [e, announce_agenda, h0]; rfl)⟩
  have hsilent : ∀ t, demandTimerExpires s = t → t.agenda = [] →
      (react demandTimerExpires s).bare = t.bare ∧ .tripDemandLost ∉ (react demandTimerExpires s).agenda := by
    intro t e h0
    exact ⟨hf _ e, react_not_mem (by rw [e, h0]; exact List.not_mem_nil) nofun nofun⟩
  have hexp : demandTimerExpires s = match s.trip.state with
      | .DEPARTING => announce .tripDemandLost stopped
      | .RUNNING => announce .tripDemandLost on
      | .STOPPING => on
      | _ => stopped := by
    unfold demandTimerExpires
    exact (if_neg (by simpa using ht)).trans rfl
  refine ⟨react demandTimerExpires s, event_eq hr, fun h => ?_, fun h => ?_, fun h => ?_, fun h1 h2 h3 => ?_⟩
  · exact hlost _ (by rw [hexp, h]) hstop
  · exact hlost _ (by rw [hexp, h]) hon
  · exact hsilent _ (by rw [hexp, h]) hon
  · refine hsilent _ ?_ hstop
    rw [hexp]
    split
    next h => exact absurd h h1
    next h => exact absurd h h2
    next h => exact absurd h h3
    next => rfl

/-! ## O17: demand lost and the rises of the stage -/

/-- A change of the trip state is announced to the brake supervisor, the speed limit unit and the demand filter (R76). -/
theorem carry_entered {f : State → State} {s : State} {st : TripState} (h : (f s).trip.state = st) (hne : s.trip.state ≠ st) :
    .brakeTrip st ∈ (carry f s).agenda ∧ .recompute false ∈ (carry f s).agenda ∧ .demandTrip (some st) ∈ (carry f s).agenda := by
  unfold carry announceTrip
  simp only [announceIf_eq, h]
  refine ⟨?_, ?_, ?_⟩
  · split <;> simp [hne]
  · split <;> simp [hne]
  · split <;> simp [hne]

theorem carry_trip (f : State → State) (s : State) : (carry f s).trip = (f s).trip := by
  obtain ⟨v, l, h⟩ := carry_fields f s
  rw [h]

theorem enterStopping_standing {s : State} (h : s.pos.standstill = true) : enterStopping s = modTrip (tripEnter .HELD) s := if_pos h

theorem enterStopping_moving {s : State} (h : s.pos.standstill = false) :
    enterStopping s = modTrip (fun t => { tripEnter .STOPPING t with virtualStop := some (virtualStopFor s) }) s :=
  if_neg (by rw [h]; exact nofun)

/-- An entry to STOPPING leaves plan, hold, berths and trip number. -/
theorem enterStopping_kept (s : State) : let t := (enterStopping s).trip
    t.plan = s.trip.plan ∧ t.hold = s.trip.hold ∧ t.berth = s.trip.berth ∧ t.number = s.trip.number := by
  unfold enterStopping
  split
  · exact ⟨rfl, rfl, rfl, rfl⟩
  · exact ⟨rfl, rfl, rfl, rfl⟩

/-- The virtual stop lies ahead by the service stopping distance and the stop margin (R32). -/
theorem virtualStopFor_eq (s : State) :
    let v := s.pos.measured.natAbs
    let ahead : Int := ((v * v / (2 * s.params.serviceDecel.toNat) + s.params.stopMargin.toNat) * 1000 : Nat)
    virtualStopFor s = s.pos.ropeTravel + BitVec.ofInt 48 (match s.trip.dir with
      | .UP => ahead
      | .DOWN => -ahead) := by
  unfold virtualStopFor dirSign State.speedNow
  dsimp only
  cases s.trip.dir
  · rw [one_mul]
  · rw [neg_one_mul]

/-- Settles O17: by the trip state, and by the rank of the new stage. -/
theorem demandLostAndRisesStopTheTrip : Obligations.DemandLostAndRisesStopTheTrip := by
  refine ⟨fun s => ?_, fun old new s => ?_⟩
  · intro t v ahead
    have hrun : s.trip.state = .RUNNING → t.trip = (enterStopping s).trip := fun h => by
      have ht : t = carry enterStopping s := if_pos h
      rw [ht, carry_trip]
    have hdep : s.trip.state = .DEPARTING → t = carry (modTrip tripAbandon) s := fun h =>
      (if_neg (by rw [h]; exact nofun)).trans (if_pos h)
    have helse : s.trip.state ≠ .RUNNING → s.trip.state ≠ .DEPARTING → t = s := fun h1 h2 => (if_neg h1).trans (if_neg h2)
    refine ⟨fun h hs => ?_, fun h hs => ?_, fun h => ?_, helse, ?_⟩
    · rw [hrun h, enterStopping_standing hs]
      exact ⟨rfl, rfl⟩
    · rw [hrun h, enterStopping_moving hs]
      exact ⟨rfl, congrArg some (virtualStopFor_eq s)⟩
    · have hstate : (modTrip tripAbandon s).trip.state = t.trip.state := by rw [hdep h, carry_trip]
      have hne : s.trip.state ≠ t.trip.state := by
        rw [h, ← hstate]
        change _ ≠ (s.trip.origin.map originState).getD .HELD
        rcases s.trip.origin with _ | _ | _ | _ <;> exact nofun
      refine ⟨?_, ?_, ?_, ?_⟩
      · rw [← hstate]
        change (s.trip.origin.map originState).getD .HELD = _
        rcases s.trip.origin with _ | _ | _ | _ <;> rfl
      · rw [hdep h, carry_trip]; rfl
      · rw [hdep h, carry_trip]
        change (if (s.trip.origin.map originState).getD .HELD = .DEPARTING then _ else none) = none
        rcases s.trip.origin with _ | _ | _ | _ <;> rfl
      · have := (carry_entered hstate hne).1
        rwa [← hdep h] at this
    · by_cases h1 : s.trip.state = .RUNNING
      · rw [hrun h1]
        exact enterStopping_kept s
      · by_cases h2 : s.trip.state = .DEPARTING
        · rw [hdep h2, carry_trip]
          exact ⟨rfl, rfl, rfl, rfl⟩
        · rw [helse h1 h2]
          exact ⟨rfl, rfl, rfl, rfl⟩
  · intro t
    refine ⟨fun hrise => ⟨fun hs => ?_, fun hh => ?_, fun hE => ⟨fun hst => ?_, fun h1 h2 => ?_⟩⟩, fun hfall h => ?_⟩
    · exact (if_pos hrise).trans (if_pos hs)
    · refine (if_pos hrise).trans ((if_neg (by rw [hh]; exact nofun)).trans (if_neg ?_))
      rw [hh]
      exact fun hc => absurd hc.1 (by decide)
    · refine (if_pos hrise).trans ((if_neg ?_).trans (if_neg ?_))
      · rcases hE with rfl | rfl <;> exact nofun
      · exact fun hc => hst.elim hc.2.1 hc.2.2
    · have ht : t = carry (modTrip tripTrip) s := by
        refine (if_pos hrise).trans ((if_neg ?_).trans (if_pos ⟨?_, h1, h2⟩))
        · rcases hE with rfl | rfl <;> exact nofun
        · rcases hE with rfl | rfl <;> decide
      have hin := carry_entered (f := modTrip tripTrip) (s := s) (st := .TRIPPED) rfl h2
      rw [← ht] at hin
      exact ⟨by rw [ht, carry_trip]; rfl, hin⟩
    · refine (if_neg (Nat.not_lt.mpr hfall)).trans (if_neg fun hc => ?_)
      exact h.elim (fun hn => hn hc.1) fun hn => hn hc.2

end Sys2Proof.Machine
end

section
/-!
PROOFS. The brake supervisor (chapter 4): the stage rule in full, orders and answers, the deceleration check and the two resets: the
statements O18 to O21.
-/

namespace Sys2Proof.Machine

/-! ## The demanded stage (R62) -/

theorem stageRank_injective : ∀ {x y : Stage}, stageRank x = stageRank y → x = y := by
  intro x y h
  cases x <;> cases y <;> first | rfl | cases h

theorem stageRank_stageMax (x y : Stage) : stageRank (stageMax x y) = max (stageRank x) (stageRank y) := by
  unfold stageMax
  split <;> omega

/-- The demanded stage is within `n` where the trip request, the latches and every active cause are (R62). -/
theorem demandedStage_le_iff (b : Supervisor) (n : Nat) : stageRank (demandedStage b) ≤ n ↔
    stageRank (requestStage b) ≤ n ∧ stageRank (latchStage b) ≤ n ∧ ∀ c ∈ b.active, stageRank (causeStage c) ≤ n := by
  have fold : ∀ (l : List Cause) (st : Stage), stageRank (l.foldl (fun st c => stageMax st (causeStage c)) st) ≤ n ↔
      stageRank st ≤ n ∧ ∀ c ∈ l, stageRank (causeStage c) ≤ n := by
    intro l
    induction l with
    | nil => simp
    | cons c l ih =>
      intro st
      rw [List.foldl_cons, ih, stageRank_stageMax, List.forall_mem_cons, Nat.max_le, and_assoc]
  unfold demandedStage
  rw [fold, stageRank_stageMax, Nat.max_le, and_assoc]

theorem latchStage_le_demanded (b : Supervisor) : stageRank (latchStage b) ≤ stageRank (demandedStage b) :=
  ((demandedStage_le_iff b _).mp le_rfl).2.1

theorem requestStage_le_demanded (b : Supervisor) : stageRank (requestStage b) ≤ stageRank (demandedStage b) :=
  ((demandedStage_le_iff b _).mp le_rfl).1

theorem causeStage_le_demanded {b : Supervisor} {c : Cause} (h : c ∈ b.active) : stageRank (causeStage c) ≤ stageRank (demandedStage b) :=
  ((demandedStage_le_iff b _).mp le_rfl).2.2 c h

theorem stageRank_le_four (x : Stage) : stageRank x ≤ 4 := by cases x <;> decide

/-- Under latch R the demanded stage is RAIL (R62). -/
theorem demandedStage_latchR {b : Supervisor} (h : b.latchR ≠ none) : demandedStage b = .RAIL := by
  refine stageRank_injective (Nat.le_antisymm (stageRank_le_four _) ?_)
  have hl : latchStage b = .RAIL := if_pos (Option.isSome_iff_ne_none.mpr h)
  have := latchStage_le_demanded b
  rwa [hl] at this

/-- Under latch E the demanded stage is EMERGENCY or higher (R62). -/
theorem demandedStage_latchE {b : Supervisor} (h : b.latchE ≠ none) : 3 ≤ stageRank (demandedStage b) := by
  refine le_trans ?_ (latchStage_le_demanded b)
  unfold latchStage
  split
  · decide
  · rw [if_pos (Option.isSome_iff_ne_none.mpr h)]
    decide

/-! ## The stage rule (R62, R64, R67) -/

/-- The supervisor after the stage rule: a new stage with its order, the rollback monitor and the deceleration check. -/
theorem stageRule_brake (s : State) : (stageRule s).brake = if demandedStage s.brake = s.brake.commanded then s.brake else
    { s.brake with
      commanded := demandedStage s.brake
      counter := s.brake.counter + 1#8
      outstanding := some ⟨s.brake.counter + 1#8, demandedStage s.brake, none⟩
      rollback := if demandedStage s.brake = .RELEASED then some s.pos.ropeTravel else none
      decel := decelAfter s.brake.commanded (demandedStage s.brake) s.pos.measured.natAbs s.params.emergencyDecel.toNat s.brake.decel } := by
  unfold stageRule
  dsimp only
  split
  · rfl
  · obtain ⟨p, h⟩ := placeBrakeOrder_fields s.brake.commanded (demandedStage s.brake)
      { s with brake := { s.brake with commanded := demandedStage s.brake } }
    rw [h]
    generalize hs : announce (.doorEval .car2) _ = t
    obtain ⟨p', v, h'⟩ := stageNotice_fields s.brake.commanded (demandedStage s.brake) t
    rw [h', ← hs]
    rfl

/-- The stage rule touches neither positions, trip nor doors. -/
theorem stageRule_frame (s : State) : ∃ b p v l, stageRule s =
    { s with brake := b, ports := p, mgmt := { s.mgmt with notices := v }, agenda := s.agenda ++ l } := by
  obtain ⟨c, o, r, d, p, v, l, h⟩ := stageRule_fields s
  exact ⟨_, p, v, l, h⟩

/-- The causes that act: their latches, the stage rule, and the deceleration check of an EMERGENCY cause under EMERGENCY (R61, R62, R67). -/
theorem causesAct_brake (cs : List (Cause × Stage)) (s : State) : ∃ x y z v,
    let b : State := { s with brake := { s.brake with latchS := x, latchE := y, latchR := z }, pulses := v }
    cs.foldl (fun s c => setLatch c.1 c.2 s) s = b ∧
    (causesAct cs s).brake = { (stageRule b).brake with
      decel := if (stageRule b).brake.commanded = .EMERGENCY ∧ (stageRule b).brake.decel = none ∧ ∃ c ∈ cs, c.2 = .EMERGENCY then
        some ⟨s.pos.measured.natAbs, s.params.emergencyDecel.toNat, 500⟩ else (stageRule b).brake.decel } := by
  obtain ⟨x, y, z, v, h, -⟩ := setLatches_fields cs s
  refine ⟨x, y, z, v, h, ?_⟩
  unfold causesAct
  simp only [h, announceIf_eq]
  have hany : (cs.any fun c => c.2 == .EMERGENCY) = true ↔ ∃ c ∈ cs, c.2 = .EMERGENCY := by simp [List.any_eq_true]
  obtain ⟨b, p, n, l, hf⟩ := stageRule_frame { s with brake := { s.brake with latchS := x, latchE := y, latchR := z }, pulses := v }
  simp only [Option.isNone_iff_eq_none, hany]
  split
  · simp only [hf]
    rfl
  · rfl

/-! ## Unanswered orders (R66) -/

/-- After the stage rule the outstanding order is the former, or the new one of the new stage (R64). -/
theorem stageRule_outstanding (s : State) : (stageRule s).brake.outstanding = s.brake.outstanding ∨
    (stageRule s).brake.outstanding = some ⟨s.brake.counter + 1#8, (stageRule s).brake.commanded, none⟩ := by
  rw [stageRule_brake]
  split
  · exact .inl rfl
  · exact .inr rfl

theorem stageRule_commanded_eq (s : State) : (stageRule s).brake.commanded = demandedStage s.brake := by
  rw [stageRule_brake]
  split
  next h => exact h.symm
  next => rfl

/-- What the stage rule does, and what it leaves (R62, R64). -/
structure StageRuled (s t : State) : Prop where
  commanded : t.brake.commanded = demandedStage s.brake
  active : t.brake.active = s.brake.active
  latchS : t.brake.latchS = s.brake.latchS
  latchE : t.brake.latchE = s.brake.latchE
  latchR : t.brake.latchR = s.brake.latchR
  wantsRelease : t.brake.wantsRelease = s.brake.wantsRelease
  outstanding : t.brake.outstanding = s.brake.outstanding ∨ t.brake.outstanding = some ⟨s.brake.counter + 1#8, t.brake.commanded, none⟩
  trip : t.trip = s.trip
  doors : t.doors = s.doors
  pending : PendingKept s t
  agenda : ∀ a ∈ s.agenda, a ∈ t.agenda

theorem stageRule_ruled (s : State) : StageRuled s (stageRule s) := by
  obtain ⟨c, o, r, d, p, v, l, h⟩ := stageRule_fields s
  refine ⟨?_, ?_, ?_, ?_, ?_, ?_, stageRule_outstanding s, ?_, ?_, stageRule_pendingKept s, ?_⟩
  all_goals rw [h]
  exact fun a ha => List.mem_append_left _ ha

/-- What an unanswered order leads to (R66). -/
structure Unanswered (o : BrakeOrder) (s t : State) : Prop where
  pending : (t.mgmt.notices.get (noticeIndex .BRAKE_NO_ANSWER)).pending = true
  active : t.brake.active = s.brake.active
  trip : t.trip = s.trip
  outstanding : t.brake.outstanding = none ∨ t.brake.outstanding = some ⟨s.brake.counter + 1#8, t.brake.commanded, none⟩
  released : o.stage = .RELEASED → t.brake.wantsRelease = false ∧ .tripReleaseLost ∈ t.agenda ∧ 1 ≤ stageRank t.brake.commanded
  service : o.stage = .HOLD ∨ o.stage = .SERVICE → t.brake.latchE ≠ none ∧ 3 ≤ stageRank t.brake.commanded
  emergency : o.stage = .EMERGENCY → t.brake.latchR ≠ none ∧ t.brake.commanded = .RAIL

section
variable {s : State}

/-- BRAKE_NO_ANSWER raised with a stage, where no order is outstanding (R66). -/
theorem raiseNoAnswer {st : Stage} (hp : (s.mgmt.notices.get (noticeIndex .BRAKE_NO_ANSWER)).pending = true)
    (ho : s.brake.outstanding = none) :
    let t := raiseEvent .BRAKE_NO_ANSWER st s
    (t.mgmt.notices.get (noticeIndex .BRAKE_NO_ANSWER)).pending = true ∧ t.brake.active = s.brake.active ∧ t.trip = s.trip ∧
      (t.brake.outstanding = none ∨ t.brake.outstanding = some ⟨s.brake.counter + 1#8, t.brake.commanded, none⟩) ∧
      (st = .EMERGENCY → t.brake.latchE ≠ none ∧ 3 ≤ stageRank t.brake.commanded) ∧
      (st = .RAIL → t.brake.latchR ≠ none ∧ t.brake.commanded = .RAIL) := by
  intro t
  obtain ⟨b, p, v, w, l, h, hact, -, -, -, -, hcom, -, -, -, hlatch⟩ := causesAct_fields [(.BRAKE_NO_ANSWER, st)] s
  obtain ⟨x, y, z, v', -, hb⟩ := causesAct_brake [(.BRAKE_NO_ANSWER, st)] s
  have ht : t = _ := h
  have hlatch' := hlatch _ (List.mem_singleton_self _)
  refine ⟨causesAct_pendingKept _ _ _ hp, by rw [ht]; exact hact, by rw [ht], ?_, fun hst => ?_, fun hst => ?_⟩
  · have hbrake : t.brake = _ := hb
    rw [hbrake]
    exact (stageRule_outstanding _).imp (fun h => h.trans ho) id
  · rw [ht]
    have hE := hlatch'.2.1 hst
    exact ⟨hE, by rw [hcom]; exact demandedStage_latchE hE⟩
  · rw [ht]
    have hR := hlatch'.2.2 hst
    exact ⟨hR, by rw [hcom]; exact demandedStage_latchR hR⟩

theorem orderUnanswered_rail {o : BrakeOrder} (h : o.stage = .RAIL) :
    orderUnanswered o s = occur .BRAKE_NO_ANSWER { s with brake := { s.brake with outstanding := none } } := by
  unfold orderUnanswered
  rw [h]

/-- An unanswered order, by its stage (R66). -/
theorem orderUnanswered_spec (o : BrakeOrder) (s : State) : Unanswered o s (orderUnanswered o s) := by
  obtain ⟨n, hn⟩ : ∃ n, occur .BRAKE_NO_ANSWER { s with brake := { s.brake with outstanding := none } } = n := ⟨_, rfl⟩
  obtain ⟨p, m, ho⟩ := occur_frame .BRAKE_NO_ANSWER { s with brake := { s.brake with outstanding := none } }
  have hp : (n.mgmt.notices.get (noticeIndex .BRAKE_NO_ANSWER)).pending = true := hn ▸ occur_pending ..
  have hb : n.brake = { s.brake with outstanding := none } := by rw [← hn, ho]
  have ht : n.trip = s.trip := by rw [← hn, ho]
  have hun : orderUnanswered o s = match o.stage with
      | .RELEASED => requestHold (announce .tripReleaseLost n)
      | .HOLD => raiseEvent .BRAKE_NO_ANSWER .EMERGENCY n
      | .SERVICE => raiseEvent .BRAKE_NO_ANSWER .EMERGENCY n
      | .EMERGENCY => raiseEvent .BRAKE_NO_ANSWER .RAIL n
      | .RAIL => n := by
    subst hn
    rfl
  have raised : ∀ st, orderUnanswered o s = raiseEvent .BRAKE_NO_ANSWER st n → o.stage ≠ .RELEASED →
      (o.stage = .HOLD ∨ o.stage = .SERVICE → st = .EMERGENCY) → (o.stage = .EMERGENCY → st = .RAIL) → Unanswered o s (orderUnanswered o s) := by
    intro st e h1 h2 h3
    obtain ⟨r1, r2, r3, r4, r5, r6⟩ := raiseNoAnswer (st := st) hp (by rw [hb])
    rw [hb] at r2 r4
    rw [ht] at r3
    rw [e]
    exact ⟨r1, r2, r3, r4, fun h => absurd h h1, fun h => r5 (h2 h), fun h => r6 (h3 h)⟩
  cases hst : o.stage with
  | RELEASED =>
    have e : orderUnanswered o s = stageRule { announce .tripReleaseLost n with brake := { n.brake with wantsRelease := false } } := by
      rw [hun, hst]; rfl
    have r := stageRule_ruled { announce .tripReleaseLost n with brake := { n.brake with wantsRelease := false } }
    rw [← e] at r
    refine ⟨r.pending _ hp, ?_, r.trip.trans ht, ?_, fun _ => ⟨r.wantsRelease, r.agenda _ (by simp), ?_⟩, ?_, ?_⟩
    · rw [r.active, hb]
    · have := r.outstanding
      rwa [hb] at this
    · rw [r.commanded]
      exact requestStage_le_demanded { n.brake with wantsRelease := false }
    · rw [hst]; exact nofun
    · rw [hst]; exact nofun
  | HOLD => exact raised .EMERGENCY (by rw [hun, hst]) (by rw [hst]; exact nofun) (fun _ => rfl) (by rw [hst]; exact nofun)
  | SERVICE => exact raised .EMERGENCY (by rw [hun, hst]) (by rw [hst]; exact nofun) (fun _ => rfl) (by rw [hst]; exact nofun)
  | EMERGENCY => exact raised .RAIL (by rw [hun, hst]) (by rw [hst]; exact nofun) (by rw [hst]; exact nofun) (fun _ => rfl)
  | RAIL =>
    rw [orderUnanswered_rail hst, hn]
    refine ⟨hp, by rw [hb], ht, .inl (by rw [hb]), ?_, ?_, ?_⟩
    all_goals rw [hst]; exact nofun

end

/-! ## O18: brake answers (R65, R166) -/

theorem copyToConsole_frame (src : Byte) (c : Content) (s : State) : ∃ p, copyToConsole src c s = { s with ports := p } := by
  unfold copyToConsole
  split
  · exact ⟨_, rfl⟩
  · exact ⟨_, rfl⟩

theorem copyToConsole_rest (src : Byte) (c : Content) (s : State) : (copyToConsole src c s).rest = s.rest := by
  unfold copyToConsole
  split
  · exact placeNormal_rest ..
  · rfl

theorem copyToConsole_announce (src : Byte) (c : Content) (a : Ann) (s : State) :
    copyToConsole src c (announce a s) = announce a (copyToConsole src c s) := by
  unfold copyToConsole
  rw [announce_active]
  cases firstRole s.active.b .CONSOLE <;> rfl

theorem conforms_iff (x y : Stage) : conforms x y = true ↔ y = x ∨ (1 ≤ stageRank x ∧ stageRank x < stageRank y) := by
  simp [conforms]

theorem takeBrakeState_stale {p : BrakeStateP} {s : State} (h : ∀ o, s.brake.outstanding = some o → o.number ≠ p.number) :
    takeBrakeState p s = { s with brake := { s.brake with stale := satInc s.brake.stale } } := by
  unfold takeBrakeState
  split
  next o ho => exact if_neg (h o ho)
  next => rfl

theorem takeBrakeState_taken {p : BrakeStateP} {o : BrakeOrder} {s : State} (ho : s.brake.outstanding = some o) (hn : o.number = p.number)
    (hc : conforms o.stage p.stage = true) :
    takeBrakeState p s =
      let t : State := { s with brake := { s.brake with outstanding := none, applied := some p.stage } }
      if o.stage = .RELEASED then announce .tripReleased (giveEvent .brakeReleased t) else t := by
  unfold takeBrakeState
  rw [ho]
  dsimp only
  rw [if_pos hn, if_pos hc]

theorem takeBrakeState_unanswered {p : BrakeStateP} {o : BrakeOrder} {s : State} (ho : s.brake.outstanding = some o)
    (hn : o.number = p.number) (hc : conforms o.stage p.stage = false) : takeBrakeState p s = orderUnanswered o s := by
  unfold takeBrakeState
  rw [ho]
  dsimp only
  rw [if_pos hn, if_neg (by rw [hc]; exact nofun)]

/-- Settles O18: by whether an order is outstanding with the number, and whether the stage conforms. -/
theorem brakeAnswersAreTakenOrStale : Obligations.BrakeAnswersAreTakenOrStale := by
  refine ⟨fun hdr p e s h hq hno => ?_, fun hdr p e o s h ha ho hn hc => ?_, fun hdr p e o s h ho hn hc => ?_⟩
  · have hs : takeBrakeState p (heardOn hdr.port s) = _ := takeBrakeState_stale hno
    refine (running_receive h).trans (congrArg _ ?_)
    obtain ⟨q, hf⟩ := copyToConsole_frame hdr.src (.brakeState p)
      { heardOn hdr.port s with brake := { s.brake with stale := satInc s.brake.stale } }
    refine Eq.trans (settle_react_quiet (f := fun s => copyToConsole hdr.src (.brakeState p) (takeBrakeState p s))
      (heardOn_quiet hdr.port hq) ?_ ?_ ?_ ?_ ?_ ?_ ?_ ?_ ?_ ?_ ?_ ?_ ?_ ?_ ?_ ?_ ?_) (by rw [hs]; rfl)
    all_goals rw [hs, show (heardOn hdr.port s).brake = s.brake from rfl, hf]
    all_goals rfl
  · intro heard taken given
    rw [← conforms_iff] at hc
    have ht : takeBrakeState p heard = if o.stage = .RELEASED then announce .tripReleased given else given := by
      rw [takeBrakeState_taken (s := heard) ho hn hc]
      by_cases hr : o.stage = .RELEASED
      · simp only [if_pos hr]; rw [show given = giveEvent .brakeReleased taken from if_pos hr]; rfl
      · simp only [if_neg hr]; rw [show given = taken from if_neg hr]; rfl
    have hga : given.agenda = [] := by
      change (if o.stage = .RELEASED then giveEvent .brakeReleased taken else taken).agenda = []
      split
      · exact ha
      · exact ha
    have happlied : given.brake.applied = some p.stage := by
      change (if o.stage = .RELEASED then giveEvent .brakeReleased taken else taken).brake.applied = _
      split <;> rfl
    obtain ⟨q, hq⟩ := copyToConsole_frame hdr.src (.brakeState p) given
    obtain ⟨f, hfdef⟩ : ∃ f : State → State, f = fun s => copyToConsole hdr.src (.brakeState p) (takeBrakeState p s) := ⟨_, rfl⟩
    have hf : f heard = if o.stage = .RELEASED then announce .tripReleased (copyToConsole hdr.src (.brakeState p) given) else
        copyToConsole hdr.src (.brakeState p) given := by
      rw [hfdef]
      dsimp only
      rw [ht]
      split
      · exact copyToConsole_announce ..
      · rfl
    refine ⟨react f heard, ?_, ?_, fun hr => ?_, fun hr => ?_, ?_⟩
    · rw [hfdef]; exact running_receive h
    · rw [react_bare, hf]
      split <;> rfl
    · refine react_head (l := []) ?_
      rw [hf, if_pos hr, announce_agenda, hq, hga]
      rfl
    · refine react_not_mem ?_ nofun nofun
      rw [hf, if_neg hr, hq, hga]
      exact List.not_mem_nil
    · have hrest : (settle (react f heard)).rest = given.rest := by
        rw [settle_rest, react_rest, hf]
        split
        · rw [announce_rest, copyToConsole_rest]
        · exact copyToConsole_rest ..
      exact (congrArg Rest.applied hrest).trans happlied
  · rw [← conforms_iff, Bool.not_eq_true] at hc
    have hs : takeBrakeState p (heardOn hdr.port s) = orderUnanswered o (heardOn hdr.port s) := takeBrakeState_unanswered ho hn hc
    have hun := orderUnanswered_spec o (heardOn hdr.port s)
    obtain ⟨q, hq⟩ := copyToConsole_frame hdr.src (.brakeState p) (orderUnanswered o (heardOn hdr.port s))
    obtain ⟨l, hl⟩ := react_eq (fun s => copyToConsole hdr.src (.brakeState p) (takeBrakeState p s)) (heardOn hdr.port s)
    dsimp only at hl
    rw [hs, hq] at hl
    refine ⟨react (fun s => copyToConsole hdr.src (.brakeState p) (takeBrakeState p s)) (heardOn hdr.port s), running_receive h, ?_, ?_⟩
    · rw [settle_rest, react_rest, copyToConsole_rest, hs, orderUnanswered_rest]
    · rw [hl]
      exact ⟨hun.pending, hun.trip, fun hr => ⟨(hun.released hr).1, List.mem_append_left _ (hun.released hr).2.1⟩, hun.service, hun.emergency⟩

/-! ## O19: the climb and the deceleration check (R66, R67) -/

/-- Under EMERGENCY in force no latch, cause or request demands RAIL (R62). -/
theorem demandedStage_emergency {b c : Supervisor} (h : demandedStage b = .EMERGENCY) (hw : c.wantsRelease = b.wantsRelease)
    (hR : c.latchR = b.latchR) (ha : ∀ x ∈ c.active, x ∈ b.active ∨ causeStage x = .EMERGENCY) (hge : 3 ≤ stageRank (demandedStage c)) :
    demandedStage c = .EMERGENCY := by
  have hle : stageRank (demandedStage b) ≤ 3 := by rw [h]; decide
  obtain ⟨hreq, hlatch, hcause⟩ := (demandedStage_le_iff b 3).mp hle
  refine stageRank_injective (Nat.le_antisymm ((demandedStage_le_iff c 3).mpr ⟨?_, ?_, fun x hx => ?_⟩) hge)
  · unfold requestStage at hreq ⊢
    rwa [hw]
  · have hnone : c.latchR.isSome = false := by
      rw [hR]
      by_contra hs
      rw [Bool.not_eq_false] at hs
      unfold latchStage at hlatch
      rw [if_pos hs] at hlatch
      exact absurd hlatch (by decide)
    unfold latchStage
    rw [hnone]
    split
    · contradiction
    · split
      · decide
      · split <;> decide
  · rcases ha x hx with hb | he
    · exact hcause x hb
    · rw [he]; decide

/-- EMERGENCY causes leave latch R (R61). -/
theorem setLatches_emergency {cs : List (Cause × Stage)} (hcs : ∀ c ∈ cs, c.2 = .EMERGENCY) (s : State) :
    (cs.foldl (fun s c => setLatch c.1 c.2 s) s).brake.latchR = s.brake.latchR := by
  induction cs generalizing s with
  | nil => rfl
  | cons c cs ih =>
    rw [List.foldl_cons, ih (fun d hd => hcs d (List.mem_cons_of_mem _ hd)), hcs c (List.mem_cons_self ..)]
    unfold setLatch
    dsimp only
    split <;> rfl

/-- EMERGENCY causes under EMERGENCY in force start the deceleration check where it is OFF (R67). -/
theorem causesAct_decel {cs : List (Cause × Stage)} {s : State} (hd : demandedStage s.brake = .EMERGENCY)
    (hc : s.brake.commanded = .EMERGENCY) (hcs : ∀ c ∈ cs, c.2 = .EMERGENCY) (hne : cs ≠ []) :
    (causesAct cs s).brake.decel = some (s.brake.decel.getD ⟨s.pos.measured.natAbs, s.params.emergencyDecel.toNat, 500⟩) := by
  obtain ⟨x, y, z, v, hfold, hb⟩ := causesAct_brake cs s
  have hR : z = s.brake.latchR := by
    have := setLatches_emergency hcs s
    rwa [hfold] at this
  have hge : 3 ≤ stageRank (demandedStage { s.brake with latchS := x, latchE := y, latchR := z }) := by
    obtain ⟨x', y', z', v', h', -, -, -, hlatch⟩ := setLatches_fields cs s
    have hE : y = y' := by
      have := hfold.symm.trans h'
      exact congrArg (·.brake.latchE) this
    obtain ⟨c, hmem⟩ := List.exists_mem_of_ne_nil cs hne
    exact demandedStage_latchE (hE ▸ (hlatch c hmem).2.1 (hcs c hmem))
  have hdem := demandedStage_emergency (c := { s.brake with latchS := x, latchE := y, latchR := z }) hd rfl hR
    (fun _ h => .inl h) hge
  have hstay : (stageRule { s with brake := { s.brake with latchS := x, latchE := y, latchR := z }, pulses := v }).brake =
      { s.brake with latchS := x, latchE := y, latchR := z } := by
    rw [stageRule_brake]
    exact if_pos (hdem.trans hc.symm)
  have hex : ∃ c ∈ cs, c.2 = .EMERGENCY := by
    obtain ⟨c, hmem⟩ := List.exists_mem_of_ne_nil cs hne
    exact ⟨c, hmem, hcs c hmem⟩
  rw [hb]
  dsimp only
  rw [hstay]
  rcases s.brake.decel with - | d
  · exact if_pos ⟨hc, rfl, hex⟩
  · exact if_neg fun hn => Option.some_ne_none d hn.2.1

/-- A level cause of EMERGENCY that begins under EMERGENCY in force does so as well (R67). -/
theorem levelCause_decel {c : Cause} {s : State} (hd : demandedStage s.brake = .EMERGENCY)
    (hc : s.brake.commanded = .EMERGENCY) (hst : causeStage c = .EMERGENCY) (hno : c ∉ s.brake.active) :
    (levelCause c true s).brake.decel = some (s.brake.decel.getD ⟨s.pos.measured.natAbs, s.params.emergencyDecel.toNat, 500⟩) := by
  have hlevel : levelCause c true s =
      causesAct [(c, causeStage c)] { s with brake := { s.brake with active := s.brake.active ++ [c] } } := by
    unfold levelCause changeCauses
    simp [hno]
  have hge : 3 ≤ stageRank (demandedStage { s.brake with active := s.brake.active ++ [c] }) := by
    have := causeStage_le_demanded (b := { s.brake with active := s.brake.active ++ [c] }) (c := c) (by simp)
    rwa [hst] at this
  rw [hlevel]
  refine causesAct_decel (s := { s with brake := { s.brake with active := s.brake.active ++ [c] } })
    (demandedStage_emergency hd rfl rfl (fun x hx => ?_) hge) hc (by simp [hst]) (List.cons_ne_nil _ _)
  rcases List.mem_append.mp hx with h | h
  · exact .inl h
  · exact .inr (List.mem_singleton.mp h ▸ hst)

/-- A raised RAIL cause sets latch R; RAIL comes into force and stops the deceleration check (R61, R62, R67). -/
theorem raiseEvent_rail (c : Cause) {s : State} (hoff : s.brake.decel = none) :
    let t := raiseEvent c .RAIL s
    t.brake.latchR ≠ none ∧ t.brake.commanded = .RAIL ∧ t.brake.decel = none ∧ t.trip = s.trip := by
  intro t
  obtain ⟨b, p, v, w, l, h, -, -, -, -, -, hcom, -, -, -, hlatch⟩ := causesAct_fields [(c, .RAIL)] s
  obtain ⟨x, y, z, v', hfold, hb⟩ := causesAct_brake [(c, .RAIL)] s
  have ht : t = _ := h
  have hR := (hlatch _ (List.mem_singleton_self _)).2.2 rfl
  have hcom' : t.brake.commanded = .RAIL := by rw [ht]; exact hcom.trans (demandedStage_latchR hR)
  refine ⟨by rw [ht]; exact hR, hcom', ?_, by rw [ht]⟩
  have htb : t.brake = _ := hb
  rw [htb] at hcom' ⊢
  dsimp only at hcom' ⊢
  rw [if_neg (fun h => Stage.noConfusion (hcom'.symm.trans h.1)), stageRule_brake]
  rw [stageRule_commanded_eq] at hcom'
  split
  · exact hoff
  · exact if_neg (fun e => Stage.noConfusion (hcom'.symm.trans e))

theorem decelCheckEnds_eq {d : DecelCheck} {s : State} (hd : s.brake.decel = some d) :
    decelCheckEnds s = if s.pos.standstill = false ∧ (s.params.standstillSpeed.toNat : Int) < (s.pos.measured.natAbs : Int) ∧
        (d.v0 : Int) - ((d.minimum / 2 : Nat) : Int) < (s.pos.measured.natAbs : Int) then
      raiseEvent .DECEL_NOT_ACHIEVED .RAIL { s with brake := { s.brake with decel := none } }
    else { s with brake := { s.brake with decel := none } } := by
  unfold decelCheckEnds
  rw [hd]
  dsimp only
  refine if_congr ?_ rfl rfl
  have habove : aboveThreshold s = true ↔ (s.params.standstillSpeed.toNat : Int) < (s.pos.measured.natAbs : Int) :=
    decide_eq_true_iff.trans Int.ofNat_lt.symm
  rw [Bool.and_eq_true, Bool.and_eq_true, Bool.not_eq_true', decide_eq_true_eq, habove, and_assoc]
  rfl

/-- Settles O19: the climb by the order's stage, the check by the stage rule. -/
theorem unansweredOrdersAndChecksRaiseTheStage : Obligations.UnansweredOrdersAndChecksRaiseTheStage := by
  refine ⟨fun o s hr ho hw => ?_, fun s hlt hE => ?_, fun c s hs hE => ?_, fun s hne hno => ?_, fun d s hr hd => ?_⟩
  · have hf : brakeWindowExpires s = orderUnanswered o s := by
      unfold brakeWindowExpires
      rw [ho]
      exact if_pos (Option.isSome_iff_ne_none.mpr hw)
    have hun := orderUnanswered_spec o s
    obtain ⟨l, hl⟩ := react_eq brakeWindowExpires s
    rw [hf] at hl
    refine ⟨react brakeWindowExpires s, event_eq hr, by rw [settle_rest, react_rest, hf, orderUnanswered_rest], ?_⟩
    rw [hl]
    exact ⟨hun.pending, hun.active, hun.trip, hun.outstanding,
      fun h => ⟨(hun.released h).1, List.mem_append_left _ (hun.released h).2.1, (hun.released h).2.2⟩, hun.service, hun.emergency,
      fun h => by rw [orderUnanswered_rail h]; rfl⟩
  · rw [stageRule_brake, if_neg (fun e => by rw [← e, hE] at hlt; exact absurd hlt (by decide)), hE]
    simp [decelAfter, hlt]
  · have hd : demandedStage s.brake = .EMERGENCY := (beq_iff_eq.mp hs).symm.trans hE
    intro started
    refine ⟨causesAct_decel hd hE (by simp) (List.cons_ne_nil _ _), levelCause_decel hd hE⟩
  · rw [stageRule_brake, if_neg hne]
    simp [decelAfter, hno]
  · intro v failed
    have hends := decelCheckEnds_eq hd
    refine ⟨fun hf => ?_, fun hf hq => ?_⟩
    · rw [if_pos hf] at hends
      obtain ⟨l, hl⟩ := react_eq decelCheckEnds s
      rw [hends] at hl
      refine ⟨react decelCheckEnds s, event_eq hr, by rw [settle_rest, react_rest, hends, raiseEvent_rest]; rfl, ?_⟩
      rw [hl]
      exact raiseEvent_rail _ rfl
    · rw [if_neg hf] at hends
      refine (event_eq hr).trans (congrArg _ ?_)
      rw [settle_react_quiet hq] <;> rw [hends] <;> rfl

end Sys2Proof.Machine
end

section
/-!
PROOFS. The two resets of the brake supervisor (R70, R71): the statements O20 and O21, from what the stage rule adds to the queues and
how an operation of the management agent is answered.
-/

namespace Sys2Proof.Machine

/-! ## What the stage rule places (R64, R68) -/

/-- A frame other than a LINE_STATUS is appended to the queue of its port, or dropped (R168). -/
theorem placeNormal_normal {x : OutFrame} (hx : isLineStatus x = false) (p q : PortId) (s : State) :
    ∃ l, ((placeNormal p x s).ports.get q).normal = (s.ports.get q).normal ++ l := by
  by_cases hpq : q = p
  · subst hpq
    rw [placeNormal_fields, PerPort.get_set_self]
    rcases withNormal_cases x (s.ports.get q) with ⟨h, -⟩ | ⟨-, h⟩ | ⟨-, h⟩
    · rw [hx] at h; contradiction
    · exact ⟨[x], by rw [h]⟩
    · exact ⟨[], by rw [h, List.append_nil]⟩
  · exact ⟨[], by rw [placeNormal_fields, PerPort.get_set_ne s.ports _ hpq, List.append_nil]⟩

theorem occur_normal (n : Notice) (s : State) (q : PortId) :
    ∃ l, ((occur n s).ports.get q).normal = (s.ports.get q).normal ++ l := by
  unfold occur sendNormal
  dsimp only
  split
  · split
    · exact ⟨[], (List.append_nil _).symm⟩
    · exact placeNormal_normal rfl _ q _
  · exact ⟨[], (List.append_nil _).symm⟩

theorem sendUrgent_normal (r : Role) (c : Content) (s : State) (q : PortId) :
    ((sendUrgent r c s).ports.get q).normal = (s.ports.get q).normal := by
  unfold sendUrgent
  split
  · rfl
  · cases q
    · rfl
    · rw [placeUrgent_fields]
      change (s.ports.f.withUrgent _).normal = s.ports.f.normal
      unfold Port.withUrgent
      split <;> rfl

theorem placeBrakeOrder_normal (old new : Stage) (s : State) (q : PortId) :
    ((placeBrakeOrder old new s).ports.get q).normal = (s.ports.get q).normal := by
  unfold placeBrakeOrder
  dsimp only
  split
  · rw [sendUrgent_normal, sendUrgent_normal, sendUrgent_normal]
  · rw [sendUrgent_normal]

/-- A change of stage is noticed where it rises to SERVICE, EMERGENCY or RAIL (R68). -/
theorem stageNotice_normal (old new : Stage) (s : State) (q : PortId) : ∃ l,
    ((stageNotice old new s).ports.get q).normal = (s.ports.get q).normal ++ l ∧
    (new = .HOLD ∨ stageRank new ≤ stageRank old → l = []) := by
  have noted : ∀ n, new ≠ .HOLD → stageRank old < stageRank new → ∃ l,
      ((occur n s).ports.get q).normal = (s.ports.get q).normal ++ l ∧ (new = .HOLD ∨ stageRank new ≤ stageRank old → l = []) := by
    intro n hn hr
    obtain ⟨l, h⟩ := occur_normal n s q
    exact ⟨l, h, fun h => h.elim (absurd · hn) (absurd · (Nat.not_le.mpr hr))⟩
  unfold stageNotice
  split
  next hr =>
    cases new with
    | RELEASED => exact ⟨[], (List.append_nil _).symm, fun _ => rfl⟩
    | HOLD => exact ⟨[], (List.append_nil _).symm, fun _ => rfl⟩
    | SERVICE => exact noted _ nofun hr
    | EMERGENCY => exact noted _ nofun hr
    | RAIL => exact noted _ nofun hr
  next => exact ⟨[], (List.append_nil _).symm, fun _ => rfl⟩

theorem stageRule_normal (s : State) (q : PortId) : ∃ l,
    ((stageRule s).ports.get q).normal = (s.ports.get q).normal ++ l ∧
    ((stageRule s).brake.commanded = .HOLD ∨ stageRank (stageRule s).brake.commanded ≤ stageRank s.brake.commanded → l = []) := by
  rw [stageRule_commanded_eq]
  unfold stageRule
  dsimp only
  split
  · exact ⟨[], (List.append_nil _).symm, fun _ => rfl⟩
  · obtain ⟨t, ht⟩ : ∃ t, placeBrakeOrder s.brake.commanded (demandedStage s.brake)
        { s with brake := { s.brake with commanded := demandedStage s.brake } } = t := ⟨_, rfl⟩
    have hn : (t.ports.get q).normal = (s.ports.get q).normal := by rw [← ht, placeBrakeOrder_normal]
    rw [ht, ← hn]
    exact stageNotice_normal _ _ _ q

/-! ## O20: BRAKE_RESET (R70) -/

@[simp] theorem answerLine_rest (hdr : Header) (n kind : Byte) (a : LineAnswer) (s : State) : (answerLine hdr n kind a s).rest = s.rest :=
  placeNormal_rest ..

@[simp] theorem answerMgmt_rest (hdr : Header) (tag kind : Byte) (c : MgmtCode) (d : List Byte) (s : State) :
    (answerMgmt hdr tag kind c d s).rest = s.rest :=
  placeNormal_rest ..

theorem brakeResetAnswer_moving {s : State} (h : s.pos.standstill = false) : brakeResetAnswer s = .REFUSED .NOT_AT_STANDSTILL := by
  unfold brakeResetAnswer
  rw [h]
  rfl

@[simp] theorem brakeResetEffect_rest (s : State) : (brakeResetEffect s).rest = s.rest := stageRule_rest _

@[simp] theorem railResetEffect_rest (s : State) : (railResetEffect s).rest = s.rest := stageRule_rest _

/-- The causes that bar a BRAKE_RESET (R70). -/
theorem barred_iff (s : State) : (s.brake.active.any fun c => (causeStage c == .SERVICE) || (causeStage c == .EMERGENCY)) = true ↔
    ∃ c ∈ s.brake.active, causeStage c = .SERVICE ∨ causeStage c = .EMERGENCY := by
  simp [List.any_eq_true]

theorem brakeResetAnswer_standing {s : State} (h : s.pos.standstill = true) : brakeResetAnswer s =
    if ∃ c ∈ s.brake.active, causeStage c = .SERVICE ∨ causeStage c = .EMERGENCY then .REFUSED .CAUSE_ACTIVE else .ACCEPTED := by
  unfold brakeResetAnswer
  rw [if_neg (by rw [h]; decide)]
  exact if_congr (barred_iff s) rfl rfl

/-- Without a cause, a latch and a release wanted the demanded stage is HOLD (R62). -/
theorem demandedStage_hold {b : Supervisor} (hw : b.wantsRelease = false) (ha : b.active = []) (hS : b.latchS = none)
    (hE : b.latchE = none) (hR : b.latchR = none) : demandedStage b = .HOLD := by
  unfold demandedStage requestStage latchStage
  rw [hw, ha, hS, hE, hR]
  rfl

/-- What a reset leaves, with the latches `x`, `y` and `z` (R70, R71). -/
structure ResetTo (x y z : Option Cause) (a t : State) : Prop where
  latchS : t.brake.latchS = x
  latchE : t.brake.latchE = y
  latchR : t.brake.latchR = z
  wantsRelease : t.brake.wantsRelease = false
  active : t.brake.active = a.brake.active
  trip : t.trip = a.trip
  doors : t.doors = a.doors
  hold : x = none → y = none → z = none → a.brake.active = [] → t.brake.commanded = .HOLD
  emergency : y ≠ none → z = none → (∀ c ∈ a.brake.active, causeStage c ≠ .RAIL) → t.brake.commanded = .EMERGENCY
  rail : z ≠ none → t.brake.commanded = .RAIL
  normal : ∀ q, ∃ behind, (t.ports.get q).normal = (a.ports.get q).normal ++ behind ∧
    (t.brake.commanded = .HOLD ∨ stageRank t.brake.commanded ≤ stageRank a.brake.commanded → behind = [])

theorem stageRank_le_three {x : Stage} (h : x ≠ .RAIL) : stageRank x ≤ 3 := by
  cases x
  all_goals first | contradiction | decide

theorem stageRule_reset (x y z : Option Cause) (a : State) : ResetTo x y z a
    (stageRule { a with brake := { a.brake with latchS := x, latchE := y, latchR := z, wantsRelease := false } }) := by
  have r := stageRule_ruled { a with brake := { a.brake with latchS := x, latchE := y, latchR := z, wantsRelease := false } }
  refine ⟨r.latchS, r.latchE, r.latchR, r.wantsRelease, r.active, r.trip, r.doors, fun hx hy hz ha => ?_, fun hy hz hno => ?_,
    fun hz => r.commanded.trans (demandedStage_latchR hz), fun q => stageRule_normal _ q⟩
  · exact r.commanded.trans (demandedStage_hold rfl ha hx hy hz)
  · refine r.commanded.trans (stageRank_injective (Nat.le_antisymm ((demandedStage_le_iff _ 3).mpr ⟨?_, ?_, ?_⟩) (demandedStage_latchE hy)))
    · exact (by decide : stageRank .HOLD ≤ 3)
    · unfold latchStage
      rw [hz, if_neg (fun h => Bool.noConfusion h)]
      split
      · decide
      · split <;> decide
    · exact fun c hc => stageRank_le_three (hno c hc)

/-- Settles O20: two refusals, and the stage rule behind the answer. -/
theorem brakeResetClearsTheLatches : Obligations.BrakeResetClearsTheLatches := by
  intro hdr n e s hacc h barred
  refine ⟨fun hm hq => running_request_answered hacc hq (request_refused (s := h) (brakeResetAnswer_moving hm) ..),
    fun hst hb hq => running_request_answered hacc hq
      (request_refused (s := h) ((brakeResetAnswer_standing hst).trans (if_pos hb)) ..), fun hst hb => ?_⟩
  have hf : takeRequest hdr n .brakeReset h = brakeResetEffect (answerLine hdr n 6 .ACCEPTED h) :=
    request_accepted (s := h) ((brakeResetAnswer_standing hst).trans (if_neg hb)) ..
  have r : ResetTo none none s.brake.latchR (answerLine hdr n 6 .ACCEPTED h) (takeRequest hdr n .brakeReset h) :=
    hf ▸ stageRule_reset none none s.brake.latchR (answerLine hdr n 6 .ACCEPTED h)
  refine ⟨react (takeRequest hdr n .brakeReset) h, running_receive hacc, ?_, ?_⟩
  · rw [settle_rest, react_rest, hf, brakeResetEffect_rest, answerLine_rest]
  · obtain ⟨l, hl⟩ := react_eq (takeRequest hdr n .brakeReset) h
    rw [hl]
    exact ⟨r.latchS, r.latchE, r.latchR, r.wantsRelease, r.active, r.trip, r.doors, fun hR ha => r.hold rfl rfl hR ha, r.rail,
      r.normal hdr.port⟩

/-! ## O21: RAIL_RESET (R71, R173) -/

/-- When RAIL_RESET is answered OK (R71). -/
theorem railResetAllowed_iff (s : State) : railResetAllowed s = true ↔
    s.pos.standstill = true ∧ (∀ c ∈ s.brake.active, causeStage c ≠ .RAIL) ∧
      (∀ k, (s.pos.cars.get k).linkUp = true ∧ (s.pos.cars.get k).rail = some .READY) := by
  have each : (∀ k, (s.pos.cars.get k).linkUp = true ∧ (s.pos.cars.get k).rail = some .READY) ↔
      ((s.car .car1).linkUp = true ∧ (s.car .car1).rail = some .READY) ∧ ((s.car .car2).linkUp = true ∧ (s.car .car2).rail = some .READY) :=
    ⟨fun h => ⟨h .car1, h .car2⟩, fun h k => by cases k; exacts [h.1, h.2]⟩
  rw [each]
  simp only [railResetAllowed, Bool.and_eq_true, Bool.not_eq_true', List.any_eq_false, beq_iff_eq]
  tauto

section
variable {hdr : Header} {tag : Byte} {s : State}

/-- Check 1: an operation that the console may not make (R173). -/
theorem guarded_of_console {named : Bool} {f : State → State} (h : s.mgmt.locks.writeAll = false) :
    guarded hdr tag true true named f s = answerControl hdr tag .NO_ITEM s := by
  simp [guarded, h]

/-- An operation for the maintenance terminal only, from it (R173). -/
theorem guarded_of_maint {maintOnly : Bool} {f : State → State} (h : s.mgmt.locks.writeAll = false) :
    guarded hdr tag false maintOnly true f s = f s := by
  simp [guarded, h]

theorem takeRailReset_maint (h : s.mgmt.locks.writeAll = false) : takeRailReset hdr false tag s =
    if railResetAllowed s then railResetEffect (answerControl hdr tag .OK s) else answerControl hdr tag .WRONG_STATE s :=
  guarded_of_maint h

/-- An operation that a quiet state answers, and nothing else, is settled with its answer. -/
theorem settle_react_answered {f : State → State} {c : MgmtCode} (hq : quiet s = true) (h : f s = answerControl hdr tag c s) :
    settle (react f s) = answerMgmt hdr tag 0x12 c (List.replicate 29 0#8) s :=
  (settle_react_of_management (ports := (f s).ports) (staged := s.staged) (mgmt := s.mgmt) hq (by rw [h]; rfl)).trans h

end

/-- Settles O21: the checks, the answer WRONG_STATE, and the stage rule behind the answer OK. -/
theorem railResetClearsLatchR : Obligations.RailResetClearsLatchR := by
  intro hdr tag arg e s hacc h allowed answered
  have hexec : exec (.railReset hdr tag arg) s = .next (settle (react (takeRailReset hdr (nodeRole e == .CONSOLE) tag) h)) :=
    running_receive hacc
  have hq' : quiet s = true → quiet h = true := heardOn_quiet hdr.port
  refine ⟨fun hl hq => ?_, fun hl hc hq => ?_, fun hl hm hno hq => ?_, fun hl hm hall => ?_⟩
  · exact hexec.trans (congrArg _ (settle_react_answered (hq' hq) (guarded_of_locked hl)))
  · rw [hc] at hexec
    exact hexec.trans (congrArg _ (settle_react_answered (hq' hq) (guarded_of_console hl)))
  · rw [hm] at hexec
    exact hexec.trans (congrArg _ (settle_react_answered (hq' hq)
      ((takeRailReset_maint (s := h) hl).trans (if_neg fun ha => hno ((railResetAllowed_iff h).mp ha)))))
  · rw [hm] at hexec
    have hf : takeRailReset hdr false tag h = railResetEffect (answered .OK) :=
      (takeRailReset_maint (s := h) hl).trans (if_pos ((railResetAllowed_iff h).mpr hall))
    have r : ResetTo s.brake.latchS s.brake.latchE none (answered .OK) (takeRailReset hdr false tag h) :=
      hf ▸ stageRule_reset s.brake.latchS s.brake.latchE none (answered .OK)
    refine ⟨_, hexec, ?_, ?_⟩
    · change (settle (react (takeRailReset hdr false tag) h)).rest = _
      rw [settle_rest, react_rest, hf, railResetEffect_rest]
      exact answerMgmt_rest ..
    · obtain ⟨l, hl⟩ := react_eq (takeRailReset hdr false tag) h
      rw [show (Role.MAINT == Role.CONSOLE) = false from rfl, hl]
      exact ⟨r.latchR, r.latchS, r.latchE, r.wantsRelease, r.active, r.trip, r.doors, fun hE => r.emergency hE rfl hall.2.1,
        fun hE hS ha => r.hold hS hE rfl ha, r.normal hdr.port⟩

end Sys2Proof.Machine
end

section
/-!
PROOFS. What the work of the stations can touch: gates, sequencers, pulses and doors place frames behind those that wait, give notices
and make announcements, and leave every other block.
-/

namespace Sys2Proof.Machine

/-- The work of the doors, the gates, the sequencers and the pulses: what it may change, with the notices that stay pending and the
frames that stay in the normal queues. -/
structure StationWork (s t : State) : Prop where
  frame : ∃ d q p g v w l, t = { s with
    doors := d, seqs := q, pulses := p, gates := g, ports := v, mgmt := { s.mgmt with notices := w }, agenda := s.agenda ++ l }
  pending : PendingKept s t
  normal : ∀ q, ∃ l, (t.ports.get q).normal = (s.ports.get q).normal ++ l

namespace StationWork

theorem refl (s : State) : StationWork s s where
  frame := ⟨s.doors, s.seqs, s.pulses, s.gates, s.ports, s.mgmt.notices, [], by rw [List.append_nil]⟩
  pending _ := id
  normal _ := ⟨[], (List.append_nil _).symm⟩

theorem trans {s t u : State} (h : StationWork s t) (h' : StationWork t u) : StationWork s u where
  frame := by
    obtain ⟨d, q, p, g, v, w, l, e⟩ := h.frame
    obtain ⟨d', q', p', g', v', w', l', e'⟩ := h'.frame
    subst e
    exact ⟨d', q', p', g', v', w', l ++ l', by rw [e', List.append_assoc]⟩
  pending i hi := h'.pending i (h.pending i hi)
  normal q := by
    obtain ⟨l, e⟩ := h.normal q
    obtain ⟨l', e'⟩ := h'.normal q
    exact ⟨l ++ l', by rw [e', e, List.append_assoc]⟩

section
variable {s t : State} (h : StationWork s t)
include h

theorem trip : t.trip = s.trip := by obtain ⟨_, _, _, _, _, _, _, e⟩ := h.frame; rw [e]
theorem brake : t.brake = s.brake := by obtain ⟨_, _, _, _, _, _, _, e⟩ := h.frame; rw [e]
theorem pos : t.pos = s.pos := by obtain ⟨_, _, _, _, _, _, _, e⟩ := h.frame; rw [e]
theorem speed : t.speed = s.speed := by obtain ⟨_, _, _, _, _, _, _, e⟩ := h.frame; rw [e]
theorem filter : t.filter = s.filter := by obtain ⟨_, _, _, _, _, _, _, e⟩ := h.frame; rw [e]
theorem active : t.active = s.active := by obtain ⟨_, _, _, _, _, _, _, e⟩ := h.frame; rw [e]
theorem staged : t.staged = s.staged := by obtain ⟨_, _, _, _, _, _, _, e⟩ := h.frame; rw [e]
theorem mgmt : ∃ w, t.mgmt = { s.mgmt with notices := w } := by
  obtain ⟨_, _, _, _, _, w, _, e⟩ := h.frame
  exact ⟨w, by rw [e]⟩
theorem agenda : ∃ l, t.agenda = s.agenda ++ l := by
  obtain ⟨_, _, _, _, _, _, l, e⟩ := h.frame
  exact ⟨l, by rw [e]⟩

end
end StationWork

section
variable {s t : State}

/-! ## One part of the state replaced -/

theorem work_seqs (h : StationWork s t) {x : Vector SeqRecord 6} : StationWork s { t with seqs := x } :=
  h.trans ⟨⟨_, x, _, _, _, _, [], by rw [List.append_nil]⟩, .of_mgmt rfl, fun _ => ⟨[], (List.append_nil _).symm⟩⟩

theorem work_pulses (h : StationWork s t) {x : Vector PulseRun 16} : StationWork s { t with pulses := x } :=
  h.trans ⟨⟨_, _, x, _, _, _, [], by rw [List.append_nil]⟩, .of_mgmt rfl, fun _ => ⟨[], (List.append_nil _).symm⟩⟩

theorem work_modDoors {k : CarId} {f : CarDoors → CarDoors} (h : StationWork s t) : StationWork s (modDoors k f t) :=
  h.trans ⟨⟨(modDoors k f t).doors, _, _, _, _, _, [], by rw [List.append_nil]; rfl⟩, .of_mgmt rfl,
    fun _ => ⟨[], (List.append_nil _).symm⟩⟩

theorem work_modGates {f : GateUnit → GateUnit} (h : StationWork s t) : StationWork s (modGates f t) :=
  h.trans ⟨⟨_, _, _, f t.gates, _, _, [], by rw [List.append_nil]; rfl⟩, .of_mgmt rfl, fun _ => ⟨[], (List.append_nil _).symm⟩⟩

theorem work_agenda (h : StationWork s t) {l : List Ann} : StationWork s { t with agenda := t.agenda ++ l } :=
  h.trans ⟨⟨_, _, _, _, _, _, l, rfl⟩, .of_mgmt rfl, fun _ => ⟨[], (List.append_nil _).symm⟩⟩

theorem work_ite {c : Prop} [Decidable c] {u v : State} (hu : c → StationWork s u) (hv : ¬ c → StationWork s v) :
    StationWork s (if c then u else v) := by
  split
  next hc => exact hu hc
  next hc => exact hv hc

/-- Work that is done only in some states. -/
theorem work_when {c : Prop} [Decidable c] (f : State → State) (hf : ∀ {u}, StationWork s u → StationWork s (f u)) (h : StationWork s t) :
    StationWork s (if c then f t else t) :=
  work_ite (fun _ => hf h) fun _ => h

theorem work_foldl {α : Type} {g : State → α → State} (hg : ∀ t x, StationWork s t → StationWork s (g t x)) (l : List α)
    (h : StationWork s t) : StationWork s (l.foldl g t) := by
  induction l generalizing t with
  | nil => exact h
  | cons x xs ih => exact ih (hg t x h)

/-! ## Shared operations -/

theorem work_announceIf {b : Bool} {a : Ann} (h : StationWork s t) : StationWork s (announceIf b a t) :=
  work_ite (fun _ => work_agenda h) fun _ => h

theorem work_announceConditions {a : State} (h : StationWork s t) : StationWork s (announceConditions a t) := by
  obtain ⟨l, e⟩ := announceConditions_eq a t
  rw [e]
  exact work_agenda h

theorem work_watch {f : State → State} (hf : StationWork s (f t)) : StationWork s (watch f t) := work_announceConditions hf

theorem work_giveEvent {ev : RefEvent} (h : StationWork s t) : StationWork s (giveEvent ev t) := work_pulses h

theorem work_placeNormal {x : OutFrame} {q : PortId} (hx : isLineStatus x = false) (h : StationWork s t) :
    StationWork s (placeNormal q x t) :=
  h.trans ⟨⟨_, _, _, _, (placeNormal q x t).ports, _, [], by rw [List.append_nil]; rfl⟩, .of_mgmt rfl,
    fun p => placeNormal_normal hx q p t⟩

theorem work_placeUrgent {x : OutFrame} (h : StationWork s t) : StationWork s (placeUrgent x t) := by
  refine h.trans ⟨⟨_, _, _, _, (placeUrgent x t).ports, _, [], by rw [List.append_nil]; rfl⟩, .of_mgmt rfl, fun q => ⟨[], ?_⟩⟩
  rw [List.append_nil]
  cases q
  · rfl
  · exact (withUrgent_cases x t.ports.f).1

theorem work_sendNormal {r : Role} {c : Content} (hc : ∀ dst src, isLineStatus ⟨dst, src, none, c⟩ = false) (h : StationWork s t) :
    StationWork s (sendNormal r c t) := by
  unfold sendNormal
  split
  · exact h
  · exact work_placeNormal (hc ..) h

theorem work_sendGate {g : GateId} {c : Content} (hc : ∀ dst src, isLineStatus ⟨dst, src, none, c⟩ = false) (h : StationWork s t) :
    StationWork s (sendGate g c t) := by
  unfold sendGate
  split
  · exact h
  · exact work_placeNormal (hc ..) h

theorem work_occur {n : Notice} (h : StationWork s t) : StationWork s (occur n t) := by
  refine h.trans ⟨?_, occur_pendingKept n t, occur_normal n t⟩
  obtain ⟨v, w, -, e⟩ := occur_fields n t
  exact ⟨_, _, _, _, v, w, [], by rw [e, List.append_nil]⟩

/-! ## Doors (R107, R115) -/

theorem work_placeDoorOrder {k : CarId} {o : DoorOrder} (h : StationWork s t) : StationWork s (placeDoorOrder k o t) := by
  unfold placeDoorOrder
  split
  · exact h
  · exact work_modDoors (work_placeUrgent h)

theorem work_giveWithdrawn {k : CarId} {o : DoorOrder} (h : StationWork s t) : StationWork s (giveWithdrawn k o t) := by
  obtain ⟨w, e⟩ := giveWithdrawn_frame k o t
  rw [e]
  exact work_pulses h

theorem work_buildDoorOrder {k : CarId} {rl wl rr wr : Compartments} (h : StationWork s t) :
    StationWork s (buildDoorOrder k rl wl rr wr t) :=
  work_giveWithdrawn (work_placeDoorOrder (work_modDoors h))

theorem work_evaluateDoors {k : CarId} (h : StationWork s t) : StationWork s (evaluateDoors k t) :=
  work_ite (fun _ => work_modDoors h) fun _ => work_buildDoorOrder (work_modDoors h)

theorem work_doorEvaluation {k : CarId} (h : StationWork s t) : StationWork s (doorEvaluation k t) :=
  work_announceIf (work_evaluateDoors h)

/-! ## Gates (R139, R141, R142, R151, R156) -/

theorem work_modWindow {x : Halt} {f : Window → Window} (h : StationWork s t) : StationWork s (modWindow x f t) := work_modGates h

theorem work_orderMode {g : GateId} (h : StationWork s t) : StationWork s (orderMode g t) := by
  unfold orderMode
  exact work_modGates (work_sendGate (fun _ _ => rfl) h)

theorem work_updateMode {g : GateId} (h : StationWork s t) : StationWork s (updateMode g t) := work_when (orderMode g) work_orderMode h

theorem work_updateModesOf {p : GateId → Bool} (h : StationWork s t) : StationWork s (updateModesOf p t) :=
  work_foldl (fun _ g => work_when (updateMode g) work_updateMode) _ h

theorem work_updateModes (h : StationWork s t) : StationWork s (updateModes t) := work_updateModesOf h

theorem work_hearGate {g : GateId} (h : StationWork s t) : StationWork s (hearGate g t) :=
  work_ite (fun _ => h) fun _ => work_orderMode (work_modGates h)

theorem work_sendRefusal {g : GateId} {n : Byte} {r : GateReason} {sr : Byte} (h : StationWork s t) :
    StationWork s (sendRefusal g n r sr t) :=
  work_modGates (work_sendGate (fun _ _ => rfl) h)

theorem work_deliverGo {g : GateId} {n : Nat} (h : StationWork s t) : StationWork s (deliverGo g n t) := by
  induction n generalizing t with
  | zero => exact h
  | succ n ih =>
    unfold deliverGo
    refine work_ite (fun _ => h) fun _ => ?_
    split
    · exact h
    · refine work_ite (fun _ => ?_) fun _ => h
      split
      · exact work_modGates (work_sendGate (fun _ _ => rfl) h)
      · exact ih (work_modGates (work_sendRefusal h))
      · exact h

theorem work_deliver {g : GateId} (h : StationWork s t) : StationWork s (deliver g t) := work_deliverGo h

theorem work_openWindow {x : Halt} (h : StationWork s t) : StationWork s (openWindow x t) := by
  unfold openWindow
  split
  · exact work_modGates h
  · exact work_modWindow h

theorem work_closeOut {hs : Halt → Bool} (h : StationWork s t) : StationWork s (closeOut hs t) := by
  have each : ∀ (f : Halt → Window → Window) {u : State}, StationWork s u →
      StationWork s (allHalts.foldl (fun s x => if hs x then modWindow x (f x) s else s) u) :=
    fun f _ hu => work_foldl (fun _ x => work_when (modWindow x (f x)) work_modWindow) _ hu
  exact work_foldl (fun _ _ => work_deliver) _ (work_modGates (each _ (work_updateModesOf (each _ h))))

theorem work_gateTakesTrip {lost gained : BitVec 6} {left : Bool} (h : StationWork s t) : StationWork s (gateTakesTrip lost gained left t) := by
  refine work_updateModes (work_foldl (fun _ x => work_when (openWindow x) work_openWindow) _ ?_)
  exact work_ite (fun _ => work_closeOut h) fun _ => work_ite (fun _ => work_closeOut h) fun _ => h

theorem work_gateTakesOutputs {x : Halt} {rose fell : Bool} (h : StationWork s t) : StationWork s (gateTakesOutputs x rose fell t) :=
  work_updateModes (work_when (openWindow x) work_openWindow (work_when (closeOut _) work_closeOut h))

theorem work_gateEntersRunning (h : StationWork s t) : StationWork s (gateEntersRunning t) := work_modGates (work_closeOut h)

theorem work_gateTakesGroupA {old new : GroupA} (h : StationWork s t) : StationWork s (gateTakesGroupA old new t) :=
  work_updateModes (work_modGates h)

/-! ## Sequencers (R125 to R130) -/

theorem work_modSeq {q : Halt} {f : SeqRecord → SeqRecord} (h : StationWork s t) : StationWork s (modSeq q f t) := work_seqs h

theorem work_giveUserEvents {q : Halt} {old new : Byte} (h : StationWork s t) : StationWork s (giveUserEvents q old new t) :=
  work_foldl (fun _ _ hu => work_ite (fun _ => hu) fun _ => work_ite (fun _ => work_giveEvent hu) fun _ => work_giveEvent hu) _ h

section
variable {tell : Halt → Byte → State → State} (ht : ∀ q b {u}, StationWork s u → StationWork s (tell q b u))
include ht

theorem work_publish {q : Halt} (h : StationWork s t) : StationWork s (publish tell q t) := by
  refine work_ite (fun _ => h) fun _ => ?_
  refine work_giveUserEvents (work_watch (ht _ _ (work_ite (fun _ => work_watch (work_gateTakesOutputs ?_)) fun _ => ?_)))
  all_goals
    exact work_ite (fun _ => work_foldl (fun _ _ hu => work_watch (work_doorEvaluation hu)) _ (work_modSeq h)) fun _ => work_modSeq h

theorem work_seqPass {levels : Vector (BitVec 32) 6} {fresh : Bool} {q : Halt} (h : StationWork s t) :
    StationWork s (seqPass tell levels fresh q t) :=
  work_publish ht (work_when (occur _) work_occur (work_watch (work_modSeq h)))

theorem work_answerGo {levels : Vector (BitVec 32) 6} {n : Nat} {l d : List Halt} (h : StationWork s t) :
    StationWork s (answerGo tell levels n l d t) := by
  induction n generalizing l d t with
  | zero => exact h
  | succ n ih =>
    cases l with
    | nil => exact h
    | cons q rest => exact ih (work_seqPass ht h)

theorem work_answerOutside {changed : Vector (BitVec 32) 6} {due : BitVec 6} (h : StationWork s t) :
    StationWork s (answerOutside tell changed due t) := work_answerGo ht h

end

/-! ## The application of group A (R178) -/

/-- What follows the active generation and the commit status: the notice and the work of the stations. -/
theorem applyGroupA_work (s : State) : StationWork
    (occur .COMMIT_APPLIED { s with active := { s.active with a := s.staged.a }, mgmt := { s.mgmt with commitA := ⟨false, .OK⟩ } })
    (applyGroupA s) :=
  work_gateTakesGroupA (work_pulses (work_answerOutside (fun _ _ => id) (work_foldl (fun _ _ => work_modSeq) _ (.refl _))))

end

/-- The application of the staged group A: the generation, the status and the notice (R178). -/
theorem applyGroupA_spec (s : State) :
    let u := applyGroupA s
    u.active = ⟨s.staged.a, s.active.b⟩ ∧ u.mgmt.commitA = ⟨false, .OK⟩ ∧
      (u.mgmt.notices.get (noticeIndex .COMMIT_APPLIED)).pending = true ∧ u.trip = s.trip ∧
      ∀ q, ∃ l, (u.ports.get q).normal = (s.ports.get q).normal ++ l := by
  intro u
  have w : StationWork _ u := applyGroupA_work s
  have o := work_occur (n := .COMMIT_APPLIED) (.refl
    { s with active := { s.active with a := s.staged.a }, mgmt := { s.mgmt with commitA := ⟨false, .OK⟩ } })
  obtain ⟨v, hv⟩ := (o.trans w).mgmt
  exact ⟨(o.trans w).active, by rw [hv], w.pending _ (occur_pending ..), (o.trans w).trip, (o.trans w).normal⟩

end Sys2Proof.Machine
end

section
/-!
PROOFS. The management agent (chapter 10): records, commits, operations, notices and the store: the statements O45, O46, O48, O49, O50.
-/

namespace Sys2Proof.Machine

section
variable {hdr : Header} {tag arg : Byte} {console : Bool} {s : State}

/-! ## O45: records are read and written (R173, R175, R176) -/

/-- What the console may not name (R173). -/
theorem barred_console_iff (e : NodeEntry) (bank item : Nat) : ((nodeRole e == .CONSOLE) && maintOnlyItem bank item) = true ↔
    nodeRole e = .CONSOLE ∧ bank = 5 ∧ (item = 1 ∨ item = 4) := by
  simp [maintOnlyItem]

theorem readAnswer_barred {p : MgmtReadP} (h : (console && maintOnlyItem p.bank.toNat p.item.toNat) = true) :
    readAnswer console p s = (.NO_ITEM, []) := if_pos h

theorem readAnswer_absent {p : MgmtReadP} (h : readBytes s p.bank.toNat p.item.toNat p.index.toNat p.staged = none) :
    readAnswer console p s = (.NO_ITEM, []) := by
  unfold readAnswer
  rw [h]
  split <;> rfl

theorem readAnswer_present {p : MgmtReadP} {b : List Byte} (hb : ¬ (console && maintOnlyItem p.bank.toNat p.item.toNat) = true)
    (h : readBytes s p.bank.toNat p.item.toNat p.index.toNat p.staged = some b) : readAnswer console p s =
      if p.segment.toNat < segmentCount b then
        (.OK, [p.bank, p.item, p.index, p.segment] ++ natBytes 1 (segmentCount b) ++
          (if s.mgmt.locks.read && decide (p.bank.toNat ≤ 3) then absentBytes 24 else segmentBytes b p.segment.toNat))
      else (.NO_ITEM, []) := by
  unfold readAnswer
  rw [if_neg hb, h]

/-- An answer that a quiet state gives, and nothing else, is settled with it. -/
theorem exec_answered {c : Instr} {pl : Payload} {e : NodeEntry} {f : State → State} {t : State} (hq : quiet s = true)
    (hexec : exec c s = running (receivePayload hdr pl) s) (hacc : acceptedFrom s hdr pl e)
    (hf : handlePayload hdr e pl (heardOn hdr.port s) = react f (heardOn hdr.port s)) {staged : Tables} {mgmt : Management}
    {ports : PerPort Port} (ht : f (heardOn hdr.port s) = t) (h : t = { heardOn hdr.port s with ports := ports, staged := staged, mgmt := mgmt }) :
    exec c s = .next t := by
  rw [hexec, running_receive hacc, hf,
    settle_react_of_management (heardOn_quiet hdr.port hq) (ht.trans h), ht]

theorem takeWrite_locked {p : MgmtWriteP} (h : s.mgmt.locks.writeAll = true) :
    takeWrite hdr console p s = answerMgmt hdr p.tag kindWrite .OK (detail []) s := if_pos h

theorem takeWrite_barred {p : MgmtWriteP} (h : s.mgmt.locks.writeAll = false)
    (hb : (console && maintOnlyItem p.bank.toNat p.item.toNat) = true) :
    takeWrite hdr console p s = answerMgmt hdr p.tag kindWrite .NO_ITEM (detail []) s := by
  unfold takeWrite
  dsimp only
  rw [h, if_neg Bool.false_ne_true, if_pos hb]

theorem takeWrite_absent {p : MgmtWriteP} (h : s.mgmt.locks.writeAll = false)
    (hw : writableBytes s p.bank.toNat p.item.toNat p.index.toNat = none) :
    takeWrite hdr console p s = answerMgmt hdr p.tag kindWrite .NO_ITEM (detail []) s := by
  unfold takeWrite
  dsimp only
  rw [h, if_neg Bool.false_ne_true, hw]
  split <;> rfl

theorem takeWrite_present {p : MgmtWriteP} {b : List Byte} (h : s.mgmt.locks.writeAll = false)
    (hb : ¬ (console && maintOnlyItem p.bank.toNat p.item.toNat) = true)
    (hw : writableBytes s p.bank.toNat p.item.toNat p.index.toNat = some b) :
    takeWrite hdr console p s =
      if segmentCount b ≤ p.segment.toNat then answerMgmt hdr p.tag kindWrite .NO_ITEM (detail []) s
      else if p.bank.toNat ≤ 3 ∧ s.mgmt.locks.write = true then answerMgmt hdr p.tag kindWrite .OK (detail []) s
      else if (p.bank.toNat ≤ 3 ∧ 2 ≤ p.bank.toNat) ∧ s.mgmt.commitA.pending = true then
        answerMgmt hdr p.tag kindWrite .PENDING (detail []) s
      else writeRecord p.bank.toNat p.item.toNat p.index.toNat (withSegment b p.segment.toNat p.data.toList)
        (answerMgmt hdr p.tag kindWrite .OK (detail []) s) := by
  unfold takeWrite
  dsimp only
  rw [h, if_neg Bool.false_ne_true, if_neg hb, hw]
  simp only [Bool.and_eq_true, decide_eq_true_eq, bankInGroupA]

end

/-- Settles O45: the answers by the checks in order, and the one record that a write replaces. -/
theorem recordsAreReadAndWritten : Obligations.RecordsAreReadAndWritten := by
  refine ⟨fun hdr p e s hacc hq => ?_, fun hdr p e s hacc hq => ?_⟩
  · intro bank barred record answered
    have done : ∀ c d, readAnswer (nodeRole e == .CONSOLE) p (heardOn hdr.port s) = (c, d) → answered c d := fun c d h =>
      exec_answered (f := takeRead hdr (nodeRole e == .CONSOLE) p) (mgmt := s.mgmt) (staged := s.staged) hq rfl hacc rfl
        (by unfold takeRead; rw [h]; rfl) rfl
    refine ⟨fun h => done _ _ ?_, fun hb b hrec => ?_⟩
    · exact h.elim (fun h => readAnswer_barred ((barred_console_iff ..).mpr h)) readAnswer_absent
    · have heq := readAnswer_present (s := heardOn hdr.port s) (fun h => hb ((barred_console_iff ..).mp h)) hrec
      refine ⟨fun hle => done _ _ (heq.trans (if_neg (Nat.not_lt.mpr hle))), fun hlt => ?_⟩
      intro head
      rw [if_pos hlt] at heq
      refine ⟨fun hr hbank => done _ _ (heq.trans (congrArg (fun x => (MgmtCode.OK, head ++ x)) (if_pos ?_))),
        fun hr => done _ _ (heq.trans (congrArg (fun x => (MgmtCode.OK, head ++ x)) (if_neg ?_)))⟩
      · exact Bool.and_eq_true_iff.mpr ⟨hr, decide_eq_true hbank⟩
      · rw [Bool.and_eq_true_iff, decide_eq_true_eq]
        rintro ⟨h1, h2⟩
        exact hr.elim (fun h => Bool.noConfusion (h.symm.trans h1)) fun h => absurd h2 (Nat.not_le.mpr h)
  · intro bank item barred record answer answered
    have done : ∀ {t} (staged mgmt), takeWrite hdr (nodeRole e == .CONSOLE) p (heardOn hdr.port s) = t →
        t = { answer .OK with ports := t.ports, staged := staged, mgmt := mgmt } → answered t := fun staged mgmt h ht =>
      exec_answered (f := takeWrite hdr (nodeRole e == .CONSOLE) p) hq rfl hacc rfl h ht
    refine ⟨fun hl => done _ _ (takeWrite_locked hl) rfl, fun hl => ⟨fun h => done s.staged s.mgmt ?_ rfl, fun hb b hrec => ?_⟩⟩
    · exact h.elim (fun h => takeWrite_barred hl ((barred_console_iff ..).mpr h)) (takeWrite_absent (s := heardOn hdr.port s) hl)
    · intro new
      have heq := takeWrite_present (s := heardOn hdr.port s) (hdr := hdr) hl (fun h => hb ((barred_console_iff ..).mp h)) hrec
      refine ⟨fun hle => done s.staged s.mgmt (heq.trans (if_pos hle)) rfl, fun hlt => ?_⟩
      rw [if_neg (Nat.not_le.mpr hlt)] at heq
      have unlocked (h : ¬ (p.bank.toNat ≤ 3 ∧ s.mgmt.locks.write = true))
          (h' : ¬ ((p.bank.toNat ≤ 3 ∧ 2 ≤ p.bank.toNat) ∧ s.mgmt.commitA.pending = true)) := heq.trans ((if_neg h).trans (if_neg h'))
      have far (h : 3 < bank) := unlocked (fun x => absurd x.1 (Nat.not_le.mpr h)) fun x => absurd x.1.1 (Nat.not_le.mpr h)
      have open_ (h : s.mgmt.locks.write = false) : ¬ (p.bank.toNat ≤ 3 ∧ s.mgmt.locks.write = true) :=
        fun x => Bool.noConfusion (h.symm.trans x.2)
      refine ⟨fun hbank hw => done s.staged s.mgmt (heq.trans (if_pos ⟨hbank, hw⟩)) rfl,
        fun hw h2 h3 hp => done s.staged s.mgmt (heq.trans ((if_neg (open_ hw)).trans (if_pos ⟨⟨h3, h2⟩, hp⟩))) rfl,
        fun hw h3 hp => done _ s.mgmt ((unlocked (open_ hw) ?_).trans (if_pos h3)) rfl, fun h3 hi => done s.staged _ ((far h3).trans ?_) rfl,
        fun h3 hi => done s.staged _ ((far h3).trans ?_) rfl⟩
      · rintro ⟨⟨-, h2⟩, hpend⟩
        exact hp.elim (fun h => absurd h2 (Nat.not_le.mpr (Nat.lt_succ_of_le h))) fun h => Bool.noConfusion (h.symm.trans hpend)
      · exact (if_neg (Nat.not_le.mpr h3)).trans (if_pos hi)
      · exact (if_neg (Nat.not_le.mpr h3)).trans (if_neg hi)

/-! ## O49: NEXT_NOTICE (R182) -/

@[simp] theorem natBytes_length (n x : Nat) : (natBytes n x).length = n := by
  induction n generalizing x with
  | zero => rfl
  | succ n ih => simp [natBytes, ih]

@[simp] theorem optBytes_length (n : Nat) (x : Option Nat) : (optBytes n x).length = n := by
  cases x <;> simp [optBytes, absentBytes]

theorem detail_of_le {d : List Byte} (h : d.length ≤ 29) : detail d = d ++ List.replicate (29 - d.length) 0#8 := by
  unfold detail
  rw [List.take_of_length_le h]

theorem firstPending_none {m : Management} (h : ∀ i, (m.notices.get i).pending = false) : firstPending m = none :=
  List.find?_eq_none.mpr fun i _ => by rw [h i]; exact Bool.false_ne_true

theorem firstPending_some {m : Management} {i : Fin 24} (hi : (m.notices.get i).pending = true)
    (hlt : ∀ j, j < i → (m.notices.get j).pending = false) : firstPending m = some i := by
  refine List.find?_eq_some_iff_getElem.mpr ⟨hi, i.val, by simp, by simp, fun j hj => ?_⟩
  rw [List.getElem_finRange, Bool.not_eq_true']
  exact hlt _ hj

/-- How many notices are left pending when one is cleared (R182). -/
theorem pendingNotices_clear (m : Management) (i : Fin 24) :
    pendingNotices { m with notices := vset m.notices i NoticeRecord.clear } =
      ((List.finRange 24).filter fun j => decide (j ≠ i) && (m.notices.get j).pending).length := by
  have hlist : (vset m.notices i NoticeRecord.clear).toList = (List.finRange 24).map (vset m.notices i NoticeRecord.clear).get := by
    refine List.ext_getElem (by simp) fun j h1 h2 => ?_
    simp [Vector.get_eq_getElem]
  unfold pendingNotices
  rw [hlist, List.filter_map, List.length_map]
  refine congrArg List.length (List.filter_congr fun j _ => ?_)
  by_cases hj : j = i
  · subst hj
    simp [NoticeRecord.clear]
  · simp [vset_get_ne _ _ hj, hj]

/-- Settles O49: without a pending notice the bare answer, else the record of the first one. -/
theorem nextNoticeTakesTheHighestPriority : Obligations.NextNoticeTakesTheHighestPriority := by
  intro hdr tag arg e s hacc hq next
  have done : ∀ {t} (mgmt), takeNextNotice hdr tag (heardOn hdr.port s) = t →
      t = { heardOn hdr.port s with ports := t.ports, staged := s.staged, mgmt := mgmt } → exec (.nextNotice hdr tag arg) s = .next t :=
    fun mgmt h ht => exec_answered (f := takeNextNotice hdr tag) hq rfl hacc rfl h ht
  refine ⟨fun hno => done s.mgmt ?_ rfl, fun i hi hlt => ?_⟩
  · unfold takeNextNotice
    rw [firstPending_none (m := (heardOn hdr.port s).mgmt) hno]
    rfl
  · intro r left
    refine done { s.mgmt with notices := vset s.mgmt.notices i NoticeRecord.clear } ?_ rfl
    have hfirst : firstPending (heardOn hdr.port s).mgmt = some i := firstPending_some hi hlt
    have hleft := pendingNotices_clear s.mgmt i
    unfold takeNextNotice
    rw [hfirst]
    dsimp only [modMgmt]
    rw [← detail_of_le (by simp)]
    exact congrArg (fun n => answerMgmt hdr tag kindControl .OK (detail (_ ++ natBytes 1 n)) _) hleft

/-! ## What a commit of group B touches of positions and stage (R11, R24) -/

theorem causesAct_normal (cs : List (Cause × Stage)) (s : State) (q : PortId) :
    ∃ l, ((causesAct cs s).ports.get q).normal = (s.ports.get q).normal ++ l := by
  obtain ⟨x, y, z, v, hfold, -⟩ := causesAct_brake cs s
  obtain ⟨l, h, -⟩ := stageRule_normal { s with brake := { s.brake with latchS := x, latchE := y, latchR := z }, pulses := v } q
  refine ⟨l, Eq.trans ?_ h⟩
  unfold causesAct
  dsimp only
  rw [hfold, announceIf_eq]
  split <;> rfl

/-- Work on the positions: of the rest of the state it changes them alone; notices stay pending and frames stay queued. -/
structure PositionWork (s t : State) : Prop where
  rest : { t.rest with pos := s.pos } = s.rest
  trip : t.trip = s.trip
  pending : PendingKept s t
  normal : ∀ q, ∃ l, (t.ports.get q).normal = (s.ports.get q).normal ++ l

namespace PositionWork

theorem refl (s : State) : PositionWork s s := ⟨rfl, rfl, fun _ => id, fun _ => ⟨[], (List.append_nil _).symm⟩⟩

variable {s t u : State}

theorem trans (h : PositionWork s t) (h' : PositionWork t u) : PositionWork s u where
  rest := by rw [← h.rest, ← h'.rest]
  trip := h'.trip.trans h.trip
  pending i hi := h'.pending i (h.pending i hi)
  normal q := by
    obtain ⟨l, e⟩ := h.normal q
    obtain ⟨l', e'⟩ := h'.normal q
    exact ⟨l ++ l', by rw [e', e, List.append_assoc]⟩

theorem modPos (h : PositionWork s t) (f : Position → Position) : PositionWork s (modPos f t) :=
  h.trans ⟨rfl, rfl, fun _ => id, fun _ => ⟨[], (List.append_nil _).symm⟩⟩

theorem announce (h : PositionWork s t) (a : Ann) : PositionWork s (announce a t) :=
  h.trans ⟨rfl, rfl, fun _ => id, fun _ => ⟨[], (List.append_nil _).symm⟩⟩

theorem levelCause (h : PositionWork s t) (c : Cause) (b : Bool) : PositionWork s (levelCause c b t) := by
  obtain ⟨x, p, v, w, l, e, -⟩ := levelCause_any c b t
  refine h.trans ⟨by rw [levelCause_rest]; rfl, by rw [e], levelCause_pendingKept c b t, fun q => ?_⟩
  unfold Machine.levelCause changeCauses
  split
  · exact causesAct_normal ..
  · exact causesAct_normal ..

theorem ite {c : Prop} [Decidable c] {v : State} (hu : PositionWork s u) (hv : PositionWork s v) : PositionWork s (if c then u else v) := by
  split
  · exact hu
  · exact hv

theorem recomputeMeasured (h : PositionWork s t) : PositionWork s (recomputeMeasured t) := by
  obtain ⟨b, x, e, -⟩ := recomputeMeasured_eq t
  rw [e]
  exact h.modPos fun p => { p with measured := measuredFrom t, standstill := b, standstillTimer := x }

theorem discrepancyTest (h : PositionWork s t) : PositionWork s (discrepancyTest t) := by
  unfold Machine.discrepancyTest
  split
  · exact ite (ite (h.modPos _) h) ((h.modPos _).levelCause _ _)
  · exact (h.modPos _).levelCause _ _

theorem announceStandstill (h : PositionWork s t) (a : State) : PositionWork s (announceStandstill a t) := ite h (h.levelCause _ _)

theorem announceCrossing (h : PositionWork s t) (a : State) : PositionWork s (announceCrossing a t) :=
  ite h ((h.announce _).announce _)

theorem positionTakesGroupB (h : PositionWork s t) (old new : GroupB) : PositionWork s (positionTakesGroupB old new t) := by
  have emptied : ∀ (ch : Channel) {v : State}, PositionWork s v → PositionWork s
      (if channelSettings old ch = channelSettings new ch then v else modChan ch (fun c => { c with window := [] }) v) :=
    fun _ _ hv => ite hv (hv.modPos _)
  have h1 := emptied .B (emptied .A h)
  have lost : ∀ {v : State}, PositionWork s v → PositionWork s (if old.pairSum = new.pairSum ∧ old.markers = new.markers then v else
      modCar .car2 (fun c => { c with referenced := false }) (modCar .car1 (fun c => { c with referenced := false }) v)) :=
    fun hv => ite hv ((hv.modPos _).modPos _)
  exact lost (ite h1 ((h1.recomputeMeasured.discrepancyTest.announceStandstill t).announceCrossing t))

end PositionWork

/-! ## O46: COMMIT (R177, R178) -/

section
variable {hdr : Header} {tag : Byte} {s : State}

/-- The application of the staged group B: the generation, the status, the notice and the line cap (R178, R50). -/
theorem applyGroupB_spec (s : State) :
    let u := applyGroupB s
    (∃ p, u.rest = { s.rest with activeB := s.staged.b, commitB := ⟨false, .OK⟩, pos := p }) ∧
      (u.mgmt.notices.get (noticeIndex .COMMIT_APPLIED)).pending = true ∧ u.trip.state = s.trip.state ∧
      u.trip.lineCap = clampNat s.staged.b.params.creepSpeed.toNat s.staged.b.params.designMax.toNat s.trip.lineCap ∧
      ∀ q, ∃ l, (u.ports.get q).normal = (s.ports.get q).normal ++ l := by
  intro u
  obtain ⟨n, hn⟩ : ∃ n, occur .COMMIT_APPLIED
    { s with active := { s.active with b := s.staged.b }, mgmt := { s.mgmt with commitB := ⟨false, .OK⟩ } } = n := ⟨_, rfl⟩
  have w := work_occur (n := .COMMIT_APPLIED) (.refl
    { s with active := { s.active with b := s.staged.b }, mgmt := { s.mgmt with commitB := ⟨false, .OK⟩ } })
  have hp := occur_pending .COMMIT_APPLIED
    { s with active := { s.active with b := s.staged.b }, mgmt := { s.mgmt with commitB := ⟨false, .OK⟩ } }
  have hr := occur_rest .COMMIT_APPLIED
    { s with active := { s.active with b := s.staged.b }, mgmt := { s.mgmt with commitB := ⟨false, .OK⟩ } }
  rw [hn] at w hp hr
  have p := (PositionWork.refl n).positionTakesGroupB s.active.b s.staged.b
  obtain ⟨m, hm⟩ : ∃ m, positionTakesGroupB s.active.b s.staged.b n = m := ⟨_, rfl⟩
  rw [hm] at p
  obtain ⟨v, l, hc⟩ := carry_fields (modTrip fun t =>
      { t with
        lineCap := clampedCap m t.lineCap
        pendingCap := match t.pendingCap with
          | some p => if clampedCap m t.lineCap ≤ clampedCap m p then none else some (clampedCap m p)
          | none => none }) m
  have hu : u = announce (.doorEval .car2) (announce (.doorEval .car1) (announce (.recompute false) (tripTakesGroupB m))) := by
    rw [← hm, ← hn]
    rfl
  have ht : tripTakesGroupB m = _ := hc
  rw [ht] at hu
  have hb : m.active.b = s.staged.b := (congrArg Rest.activeB p.rest).trans (congrArg Rest.activeB hr)
  refine ⟨⟨m.pos, ?_⟩, ?_, ?_, ?_, fun q => ?_⟩
  · have hm' : m.rest = { ({ m.rest with pos := n.pos } : Rest) with pos := m.pos } := rfl
    rw [p.rest, hr] at hm'
    rw [hu]
    exact hm'
  · rw [hu]; exact p.pending _ hp
  · have hstate : m.trip.state = s.trip.state := congrArg Trip.state (p.trip.trans w.trip)
    rw [hu, ← hstate]
    rfl
  · have hcap : m.trip.lineCap = s.trip.lineCap := congrArg Trip.lineCap (p.trip.trans w.trip)
    rw [hu, ← hb, ← hcap]
    rfl
  · obtain ⟨l1, h1⟩ := w.normal q
    obtain ⟨l2, h2⟩ := p.normal q
    rw [hu]
    exact ⟨l1 ++ l2, by rw [← List.append_assoc]; exact h2.trans (congrArg (· ++ l2) h1)⟩

end

section
variable {hdr : Header} {tag : Byte} {s : State}

theorem inService_iff (s : State) : s.inService = true ↔ ¬ s.trip.state = .IDLE := bne_iff_ne

theorem commitA_pending (h : s.mgmt.commitA.pending = true) : commitA hdr tag s = answerControl hdr tag .PENDING s := if_pos h

theorem commitA_invalid {r : ItemRef} (h : s.mgmt.commitA.pending = false) (hr : invalidA s.staged.a s.active.b = some r) :
    commitA hdr tag s = answerInvalid hdr tag r (modMgmt (fun m => { m with commitA := ⟨false, .INVALID r⟩ }) s) := by
  unfold commitA
  rw [h, if_neg Bool.false_ne_true, hr]

theorem commitA_valid (h : s.mgmt.commitA.pending = false) (hr : invalidA s.staged.a s.active.b = none) : commitA hdr tag s =
    if s.inService = true then
      answerControl hdr tag .PENDING (modMgmt (fun m => { m with commitA := { m.commitA with pending := true } }) s)
    else applyGroupA (answerControl hdr tag .OK s) := by
  unfold commitA
  rw [h, if_neg Bool.false_ne_true, hr]

theorem commitB_invalid {r : ItemRef} (hr : invalidB s.staged.b s.active.a s.mgmt.ownAddress = some r) :
    commitB hdr tag s = answerInvalid hdr tag r (modMgmt (fun m => { m with commitB := ⟨false, .INVALID r⟩ }) s) := by
  unfold commitB
  rw [hr]

theorem commitB_valid (hr : invalidB s.staged.b s.active.a s.mgmt.ownAddress = none) : commitB hdr tag s =
    if s.inService = true then
      answerControl hdr tag .WRONG_STATE (modMgmt (fun m => { m with commitB := ⟨false, .WRONG_STATE⟩ }) s)
    else applyGroupB (answerControl hdr tag .OK s) := by
  unfold commitB
  rw [hr]

end

/-- Settles O46: the checks, the refusals in their order, and the application behind the answer. -/
theorem commitAppliesTheStagedGroup : Obligations.CommitAppliesTheStagedGroup := by
  intro hdr tag arg e s hacc m h next same answered outside
  have hexec : exec (.commit hdr tag arg) s = .next (settle (react (takeCommit hdr (nodeRole e == .CONSOLE) tag arg) h)) :=
    running_receive hacc
  have done : ∀ {c d f}, takeCommit hdr (nodeRole e == .CONSOLE) tag arg h =
      { answerMgmt hdr tag 0x12 c (detail d) h with mgmt := f h.mgmt } → next c d f := by
    intro c d f ht hq
    refine hexec.trans (congrArg _ ?_)
    rw [settle_react_of_management (heardOn_quiet hdr.port hq) ht, ht]
    rfl
  refine ⟨fun hl => done (guarded_of_locked hl), fun hl => ⟨fun h2 => done ?_, fun h0 => ?_, fun h1 => ?_⟩⟩
  · have hn : decide (arg.toNat ≤ 1) = false := decide_eq_false (by omega)
    unfold takeCommit
    rw [hn]
    exact guarded_of_unnamed hl
  · subst h0
    have ht : takeCommit hdr (nodeRole e == .CONSOLE) tag 0#8 h = commitA hdr tag h := guarded_of_named hl
    refine ⟨fun hp => done (ht.trans (commitA_pending hp)), fun hp => ⟨fun r hr => done (c := .INVALID) (d := refBytes r)
        (f := fun m => { m with commitA := ⟨false, .INVALID r⟩ }) (ht.trans (commitA_invalid (s := h) hp hr)),
      fun hr hin => done (c := .PENDING) (d := []) (f := fun m => { m with commitA := { m.commitA with pending := true } })
        (ht.trans ((commitA_valid (s := h) hp hr).trans (if_pos ((inService_iff h).mpr hin)))), fun hr hout => ?_⟩⟩
    have happly := ht.trans ((commitA_valid (s := h) hp hr).trans (if_neg fun hin => (inService_iff h).mp hin hout))
    have hspec := applyGroupA_spec (answerControl hdr tag .OK h)
    have hrest : (applyGroupA (answerControl hdr tag .OK h)).rest = h.rest := (applyGroupA_rest _).trans (answerMgmt_rest ..)
    obtain ⟨u, hu⟩ : ∃ u, applyGroupA (answerControl hdr tag .OK h) = u := ⟨_, rfl⟩
    rw [hu] at hspec happly hrest
    obtain ⟨hactive, hstatus, hnotice, htrip, hnormal⟩ := hspec
    obtain ⟨l, hl'⟩ := react_eq (takeCommit hdr (nodeRole e == .CONSOLE) tag 0#8) h
    rw [happly] at hl'
    refine ⟨_, hexec, ?_, ?_⟩
    · rw [settle_rest, react_rest, happly, hrest]
    · rw [hl']
      exact ⟨hactive, hstatus, hnotice, htrip, hnormal hdr.port⟩
  · subst h1
    have ht : takeCommit hdr (nodeRole e == .CONSOLE) tag 1#8 h = commitB hdr tag h := guarded_of_named hl
    refine ⟨fun r hr => done (c := .INVALID) (d := refBytes r)
        (f := fun m => { m with commitB := ⟨false, .INVALID r⟩ }) (ht.trans (commitB_invalid (s := h) hr)),
      fun hr hin => done (c := .WRONG_STATE) (d := []) (f := fun m => { m with commitB := ⟨false, .WRONG_STATE⟩ })
        (ht.trans ((commitB_valid (s := h) hr).trans (if_pos ((inService_iff h).mpr hin)))), fun hr hout => ?_⟩
    have happly := ht.trans ((commitB_valid (s := h) hr).trans (if_neg fun hin => (inService_iff h).mp hin hout))
    have hspec := applyGroupB_spec (answerControl hdr tag .OK h)
    obtain ⟨u, hu⟩ : ∃ u, applyGroupB (answerControl hdr tag .OK h) = u := ⟨_, rfl⟩
    rw [hu] at hspec happly
    obtain ⟨⟨p, hrest⟩, hnotice, hstate, hcap, hnormal⟩ := hspec
    obtain ⟨l, hl'⟩ := react_eq (takeCommit hdr (nodeRole e == .CONSOLE) tag 1#8) h
    have hr' := (settle_rest _).trans ((react_rest (takeCommit hdr (nodeRole e == .CONSOLE) tag 1#8) h).trans
      ((congrArg State.rest happly).trans hrest))
    rw [happly] at hl'
    refine ⟨_, hexec, congrArg Rest.activeB hr', congrArg Rest.staged hr', congrArg Rest.commitB hr', ?_⟩
    rw [hl']
    exact ⟨hnotice, hstate.trans hout, hcap, hnormal hdr.port⟩

/-! ## O48: the operations (R180, R183, R145, R155) -/

section
variable {hdr : Header} {tag op arg : Byte} {s : State} {e : NodeEntry}

/-- A SET_LOCK that names no lock is refused by its codes (R190). -/
theorem entryAllows_setLock (h : 3 ≤ arg.toNat) : entryAllows e (.mgmtControl tag 4 arg) = false := by
  have hn : codesNamed (.mgmtControl tag 4 arg) = false := decide_eq_false (show ¬ arg.toNat ≤ 2 by omega)
  exact Bool.and_eq_false_iff.mpr (.inl hn)

/-- An operation that its sender may make, with an argument that names something, passes the checks (R173). -/
theorem guarded_passed {console maintOnly : Bool} {f : State → State} (h : s.mgmt.locks.writeAll = false)
    (hc : (console && maintOnly) = false) : guarded hdr tag console maintOnly true f s = f s := by
  simp [guarded, h, hc]

theorem handlePayload_control (s : State) : handlePayload hdr e (.mgmtControl tag op arg) s =
    takeControl hdr (nodeRole e == .CONSOLE) tag op arg s := rfl

theorem takeControl_unknown {console : Bool} (h : 10 ≤ op.toNat) :
    takeControl hdr console tag op arg s = react (takeUnknownOperation hdr console tag) s := by
  obtain ⟨n, hn⟩ : ∃ n, op.toNat = n + 10 := ⟨op.toNat - 10, by omega⟩
  unfold takeControl
  rw [hn]
  rfl

theorem clearGate_eq {g : GateId} : clearGate g s = updateMode g { s with gates := { s.gates with
    records := vset s.gates.records g { s.gates.records.get g with fault := false } } } := rfl

/-- Clearing a gate leaves what the conditions are read from (R155, R124). -/
theorem clearGate_fields (g : GateId) (s : State) : ∃ p r, clearGate g s = { s with ports := p, gates := { s.gates with records := r } } := by
  obtain ⟨p, r, h, -⟩ := updateMode_fields g { s with gates := { s.gates with
    records := vset s.gates.records g { s.gates.records.get g with fault := false } } }
  exact ⟨p, r, h⟩

end

/-- Settles O48: the checks, and the effect of each operation behind its answer. -/
theorem operationsHaveOneEffectEach : Obligations.OperationsHaveOneEffectEach := by
  refine ⟨fun hdr tag arg e s hr ha hup hsrc harg => ?_, fun hdr tag op arg e s hacc hq => ?_⟩
  · intro p
    have hreceive : receivePayload hdr (.mgmtControl tag 4 arg) s =
        modCounters hdr.port (fun c => { c with kindRefused := satInc c.kindRefused }) (heardOn hdr.port s) :=
      (receive_up (by rw [linkHears_up hup]; exact hup)).trans (acceptFrame_refused hsrc (entryAllows_setLock harg))
    refine (running_eq hr).trans (congrArg _ ?_)
    have hagenda : (modCounters hdr.port (fun c => { c with kindRefused := satInc c.kindRefused }) (heardOn hdr.port s)).agenda = [] := ha
    refine (congrArg settle hreceive).trans ((settle_of_empty hagenda).trans ?_)
    simp only [heardOn, modCounters, modPort, linkHears_up hup, PerPort.get_set_self, PerPort.set_set]
    rfl
  · intro m maint free answer next locked
    have hq' := heardOn_quiet hdr.port hq
    have done : ∀ {c f t}, exec c s = running (receivePayload hdr (.mgmtControl tag op arg)) s →
        takeControl hdr (nodeRole e == .CONSOLE) tag op arg (heardOn hdr.port s) = react f (heardOn hdr.port s) →
        f (heardOn hdr.port s) = t → settle (react f (heardOn hdr.port s)) = f (heardOn hdr.port s) → next c t := by
      intro c f t hexec hf ht hs
      refine hexec.trans ((running_receive hacc).trans (congrArg _ ?_))
      rw [handlePayload_control, hf, hs, ht]
    have plain : ∀ {c f code}, exec c s = running (receivePayload hdr (.mgmtControl tag op arg)) s →
        takeControl hdr (nodeRole e == .CONSOLE) tag op arg (heardOn hdr.port s) = react f (heardOn hdr.port s) →
        f (heardOn hdr.port s) = answerControl hdr tag code (heardOn hdr.port s) → next c (answer code) :=
      fun hexec hf ht => done hexec hf ht ((settle_react_answered hq' ht).trans ht.symm)
    refine ⟨fun hl => ⟨fun h => ?_, fun h => ?_, fun h => ?_, fun h => ?_, fun h => ?_⟩, fun h hl hm => ?_,
      fun h hl hm => ⟨fun ha => ?_, fun ha => ?_, fun ha => ?_⟩,
      fun h hl => ?_, fun h hl => ?_, fun h hl ha => ?_, fun h hl g hg => ?_, fun h hl => ?_⟩
    · subst h; exact plain rfl rfl (guarded_of_locked hl)
    · subst h; exact plain rfl rfl (guarded_of_locked hl)
    · subst h; exact plain rfl rfl (guarded_of_locked hl)
    · subst h; exact plain rfl rfl (guarded_of_locked hl)
    · exact plain rfl (takeControl_unknown h) (guarded_of_locked hl)
    · subst h
      have hc : (nodeRole e == .CONSOLE) = true := beq_iff_eq.mpr (not_not.mp hm)
      refine plain (f := takeSetLock hdr (nodeRole e == .CONSOLE) tag arg) rfl rfl ?_
      rw [hc]
      exact guarded_of_console hl
    iterate 3
      subst h ha
      have hc : ((nodeRole e == .CONSOLE) && true) = false := by rw [Bool.and_true]; exact beq_eq_false_iff_ne.mpr hm
      refine done (f := takeSetLock hdr (nodeRole e == .CONSOLE) tag _) rfl rfl (guarded_passed hl hc) ?_
      exact settle_react_of_management hq' (guarded_passed hl hc)
    · subst h
      refine done (f := takeClearCounters hdr (nodeRole e == .CONSOLE) tag) rfl rfl (guarded_of_named hl) ?_
      have hf : takeClearCounters hdr (nodeRole e == .CONSOLE) tag (heardOn hdr.port s) = clearCounters (answer .OK) := guarded_of_named hl
      rw [settle_react_quiet hq'] <;> rw [hf] <;> rfl
    · subst h
      refine done (f := takeInvalidateCache hdr (nodeRole e == .CONSOLE) tag) rfl rfl (guarded_of_named hl) ?_
      have hf : takeInvalidateCache hdr (nodeRole e == .CONSOLE) tag (heardOn hdr.port s) = modGates invalidateCache (answer .OK) :=
        guarded_of_named hl
      rw [settle_react_quiet hq'] <;> rw [hf] <;> rfl
    · subst h
      have hn : decide (arg.toNat ≤ 15) = false := decide_eq_false (by omega)
      refine plain (f := takeClearGate hdr (nodeRole e == .CONSOLE) tag arg) rfl rfl ?_
      unfold takeClearGate
      rw [hn]
      exact guarded_of_unnamed hl
    · subst h
      have hf : takeClearGate hdr (nodeRole e == .CONSOLE) tag arg (heardOn hdr.port s) = clearGate g (answer .OK) := by
        have hn : decide (arg.toNat ≤ 15) = true := decide_eq_true (by have := g.isLt; omega)
        have hi : indexOf 16 arg.toNat = some g := by
          unfold indexOf
          rw [hg]
          exact dif_pos g.isLt
        unfold takeClearGate
        rw [hn, guarded_of_named (s := heardOn hdr.port s) hl, hi]
        rfl
      obtain ⟨p, r, hp⟩ := clearGate_fields g (answer .OK)
      refine done (f := takeClearGate hdr (nodeRole e == .CONSOLE) tag arg) rfl rfl hf ?_
      rw [settle_react_quiet hq'] <;> rw [hf, hp] <;> rfl
    · refine plain rfl (takeControl_unknown h) ?_
      have hw : ¬ (heardOn hdr.port s).mgmt.locks.writeAll = true := fun h => Bool.noConfusion (hl.symm.trans h)
      exact (if_neg hw).trans (if_pos (by simp))

end Sys2Proof.Machine
end

section
/-!
PROOFS. The store and the start-up (chapter 11): the statements O50 and O51.
-/

namespace Sys2Proof.Machine

/-! ## Reference events (R134) -/

/-- A table in which the places of a list that satisfy `p` are set. -/
theorem foldl_vset_get {α : Type} {n : Nat} (p : Fin n → Bool) (f : Fin n → α) (l : List (Fin n)) (v : Vector α n) (i : Fin n) :
    (l.foldl (fun v j => if p j then vset v j (f j) else v) v).get i = if i ∈ l ∧ p i = true then f i else v.get i := by
  induction l generalizing v with
  | nil => simp
  | cons j l ih =>
    rw [List.foldl_cons, ih]
    by_cases hl : i ∈ l ∧ p i = true
    · rw [if_pos hl, if_pos ⟨List.mem_cons_of_mem _ hl.1, hl.2⟩]
    · rw [if_neg hl]
      by_cases hij : i = j
      · subst hij
        by_cases hp : p i = true
        · rw [if_pos hp, vset_get_self, if_pos ⟨List.mem_cons_self .., hp⟩]
        · rw [if_neg hp, if_neg fun h => hp h.2]
      · have hc : ¬ (i ∈ j :: l ∧ p i = true) := fun h => hl ⟨(List.mem_cons.mp h.1).resolve_left hij, h.2⟩
        rw [if_neg hc]
        split
        · exact vset_get_ne _ _ hij
        · rfl

theorem mem_all16 (i : Fin 16) : i ∈ all16 := by
  revert i
  decide

/-- A reference event starts or restarts every enabled entry that it matches (R134). -/
theorem giveEvent_get (ev : RefEvent) (s : State) (i : Fin 16) : (giveEvent ev s).pulses.get i =
    if yes (s.active.a.pulses.get i).enabled = true ∧ refEventOf (s.active.a.pulses.get i) = some ev then
      startRun (s.active.a.pulses.get i) else s.pulses.get i := by
  have h := foldl_vset_get (fun i => yes (s.active.a.pulses.get i).enabled && (refEventOf (s.active.a.pulses.get i) == some ev))
    (fun i => startRun (s.active.a.pulses.get i)) all16 s.pulses i
  refine h.trans (if_congr ?_ rfl rfl)
  rw [Bool.and_eq_true, beq_iff_eq]
  exact and_iff_right (mem_all16 i)

/-! ## START and ESTOP (R59, R73) -/

/-- A notice does not read the supervisor's record or the agenda. -/
theorem occur_brake_agenda (n : Notice) (s : State) (b : Supervisor) (l : List Ann) :
    occur n { s with brake := b, agenda := l } = { occur n s with brake := b, agenda := l } := by
  unfold occur sendNormal
  dsimp only
  split
  · rcases firstRole s.active.b .CONSOLE with - | e
    · rfl
    · rfl
  · rfl

theorem demandedStage_start {b : Supervisor} (hw : b.wantsRelease = false) (ha : b.active = [] ∨ b.active = [.ESTOP])
    (hE : b.latchE ≠ none) (hR : b.latchR = none) : demandedStage b = .EMERGENCY := by
  refine stageRank_injective (Nat.le_antisymm ((demandedStage_le_iff b 3).mpr ⟨?_, ?_, fun c hc => ?_⟩) (demandedStage_latchE hE))
  · unfold requestStage
    rw [hw]
    decide
  · unfold latchStage
    rw [hR, if_neg (fun h => Bool.noConfusion h), if_pos (Option.isSome_iff_ne_none.mpr hE)]
    decide
  · rcases ha with h | h
    · rw [h] at hc; cases hc
    · rw [h, List.mem_singleton] at hc
      rw [hc]; decide

/-- The supervisor's record after START and ESTOP (R73, R67). -/
def startedBrake (c : Byte) (speed minimum : Nat) : Supervisor :=
  { Supervisor.start (c + 1#8) with
    commanded := .EMERGENCY
    active := [.ESTOP]
    latchE := some .START
    outstanding := some ⟨c + 1#8, .EMERGENCY, none⟩
    decel := some ⟨speed, minimum, 500⟩ }

theorem sendUrgent_brake_agenda (r : Role) (x : Content) (s : State) (b : Supervisor) (l : List Ann) :
    sendUrgent r x { s with brake := b, agenda := l } = { sendUrgent r x s with brake := b, agenda := l } := by
  unfold sendUrgent
  dsimp only
  rcases firstRole s.active.b r with - | e
  · rfl
  · rfl

/-- The stage rule under the latch of START (R62, R64, R67, R68). -/
theorem stageRule_start {w : State} {c : Byte} :
    stageRule { w with brake := { Supervisor.start c with latchE := some .START } } =
      { occur .EMERGENCY_STAGE (sendUrgent .BRAKE (.brakeOrder (c + 1#8) .EMERGENCY) w) with
        brake := { startedBrake c w.pos.measured.natAbs w.params.emergencyDecel.toNat with active := [] }
        agenda := w.agenda ++ [.tripStage .HOLD .EMERGENCY, .doorEval .car1, .doorEval .car2] } := by
  have hd : demandedStage { Supervisor.start c with latchE := some .START } = .EMERGENCY :=
    demandedStage_start rfl (.inl rfl) (Option.some_ne_none _) rfl
  have hplace : placeBrakeOrder .HOLD .EMERGENCY
      { w with brake := { Supervisor.start c with latchE := some .START, commanded := .EMERGENCY } } =
      { sendUrgent .BRAKE (.brakeOrder (c + 1#8) .EMERGENCY) w with
        brake := { Supervisor.start (c + 1#8) with
          latchE := some .START, commanded := .EMERGENCY, outstanding := some ⟨c + 1#8, .EMERGENCY, none⟩ }
        agenda := w.agenda } := by
    unfold placeBrakeOrder
    dsimp only
    rw [if_neg (by decide)]
    exact sendUrgent_brake_agenda ..
  obtain ⟨p, hp⟩ := sendUrgent_fields .BRAKE (.brakeOrder (c + 1#8) .EMERGENCY) w
  rw [← occur_brake_agenda]
  unfold stageRule
  dsimp only
  rw [hd, if_neg (by exact nofun)]
  have hold : (Supervisor.start c).commanded = .HOLD := rfl
  rw [hold, hplace, hp]
  have hagenda : w.agenda ++ [.tripStage .HOLD .EMERGENCY, .doorEval .car1, .doorEval .car2] =
      ((w.agenda ++ [.tripStage .HOLD .EMERGENCY]) ++ [.doorEval .car1]) ++ [.doorEval .car2] := by simp
  rw [hagenda]
  rfl

/-- ESTOP becomes active under the latch and the stage of START, which both stay (R59). -/
theorem evalEstop_started {x : State} {c : Byte} {speed minimum : Nat} (hb : x.brake = { startedBrake c speed minimum with active := [] })
    (hdin : dinLevel x 0 = .OPEN) : evalEstop x = { x with brake := startedBrake c speed minimum } := by
  have hlevel : evalEstop x = causesAct [(.ESTOP, .EMERGENCY)] { x with brake := startedBrake c speed minimum } := by
    unfold evalEstop levelCause changeCauses
    rw [hdin, hb]
    rfl
  have hd : demandedStage (startedBrake c speed minimum) = .EMERGENCY :=
    demandedStage_start rfl (.inr rfl) (Option.some_ne_none _) rfl
  have hrule : stageRule { x with brake := startedBrake c speed minimum } = { x with brake := startedBrake c speed minimum } := by
    unfold stageRule
    exact if_pos hd
  rw [hlevel]
  unfold causesAct
  dsimp only [List.foldl_cons, List.foldl_nil]
  have hset : setLatch .ESTOP .EMERGENCY { x with brake := startedBrake c speed minimum } =
    { x with brake := startedBrake c speed minimum } := rfl
  rw [hset, hrule]
  rfl

/-- START sets latch E and brings EMERGENCY into force, with order, notice and deceleration check; ESTOP is active then (R73). -/
theorem raiseStart_eq {s : State} {c : Byte} (hb : s.brake = Supervisor.start c) (hdin : dinLevel s 0 = .OPEN)
    (hv : s.pos.measured = 0) : raiseStart s =
      { occur .EMERGENCY_STAGE (sendUrgent .BRAKE (.brakeOrder (c + 1#8) .EMERGENCY) (giveEvent .latchSet s)) with
        brake := startedBrake c 0 s.params.emergencyDecel.toNat
        agenda := s.agenda ++ [.tripStage .HOLD .EMERGENCY, .doorEval .car1, .doorEval .car2] } := by
  obtain ⟨w, hw⟩ : ∃ w, giveEvent .latchSet s = w := ⟨_, rfl⟩
  have hlatch : setLatch .START .EMERGENCY s = { w with brake := { Supervisor.start c with latchE := some .START } } := by
    unfold setLatch
    rw [← hw, hb]
    rfl
  have hrule := stageRule_start (w := w) (c := c)
  have hw0 : w.pos.measured.natAbs = 0 := by rw [← hw]; exact Int.natAbs_eq_zero.mpr hv
  have hwp : w.params = s.params := by rw [← hw]; rfl
  have hwa : w.agenda = s.agenda := by rw [← hw]; rfl
  rw [hw0, hwp] at hrule
  have hraise : raiseEvent .START .EMERGENCY s = stageRule { w with brake := { Supervisor.start c with latchE := some .START } } := by
    unfold raiseEvent causesAct
    dsimp only [List.foldl_cons, List.foldl_nil]
    rw [hlatch, hrule, hb]
    rfl
  obtain ⟨x, hx⟩ : ∃ x, occur .EMERGENCY_STAGE (sendUrgent .BRAKE (.brakeOrder (c + 1#8) .EMERGENCY) w) = x := ⟨_, rfl⟩
  have hxd : dinLevel x 0 = .OPEN := by
    obtain ⟨p, hp⟩ := sendUrgent_fields .BRAKE (.brakeOrder (c + 1#8) .EMERGENCY) w
    obtain ⟨p', m, ho⟩ := occur_frame .EMERGENCY_STAGE (sendUrgent .BRAKE (.brakeOrder (c + 1#8) .EMERGENCY) w)
    rw [← hx, ho, hp, ← hw]
    exact hdin
  unfold raiseStart
  rw [hraise, hrule, hw, hx, hwa]
  exact evalEstop_started rfl hxd

/-! ## Start-up, past the start values (R188) -/

theorem work_sendUrgent {s t : State} {r : Role} {c : Content} (h : StationWork s t) : StationWork s (sendUrgent r c t) := by
  unfold sendUrgent
  split
  · exact h
  · exact work_placeUrgent h

theorem work_noticeInvalid {s t : State} (h : StationWork s t) : StationWork s (noticeInvalid t) := work_ite (fun _ => h) fun _ => work_occur h

theorem work_startPasses {s t : State} (h : StationWork s t) : StationWork s (startPasses t) := work_answerOutside (fun _ _ => id) h

@[simp] theorem raiseStart_rest (s : State) : (raiseStart s).rest = s.rest := (evalEstop_rest _).trans (raiseEvent_rest ..)

@[simp] theorem noticeInvalid_rest (s : State) : (noticeInvalid s).rest = s.rest := by
  unfold noticeInvalid
  split
  · rfl
  · exact occur_rest ..

@[simp] theorem startPasses_rest (s : State) : (startPasses s).rest = s.rest := answerOutside_rest _ (fun _ _ _ => rfl) ..

@[simp] theorem startUp_rest (reload : Bool) (s : State) : (startUp reload s).rest = (startBlocks reload s).rest := by
  unfold startUp
  rw [startPasses_rest, noticeInvalid_rest, raiseStart_rest]

/-- What START and ESTOP leave as it was, beside the supervisor's record and three announcements. -/
theorem raiseStart_work {s : State} {c : Byte} (hb : s.brake = Supervisor.start c) (hdin : dinLevel s 0 = .OPEN)
    (hv : s.pos.measured = 0) : ∃ x, StationWork s x ∧ raiseStart s = { x with
      brake := startedBrake c 0 s.params.emergencyDecel.toNat
      agenda := s.agenda ++ [.tripStage .HOLD .EMERGENCY, .doorEval .car1, .doorEval .car2] } :=
  ⟨_, work_occur (work_sendUrgent (work_giveEvent (.refl s))), raiseStart_eq hb hdin hv⟩

theorem startBlocks_dinLevel (reload : Bool) (s : State) : dinLevel (startBlocks reload s) 0 = .OPEN := by
  unfold dinLevel startBlocks
  dsimp only
  rw [Vector.get_eq_getElem, Vector.getElem_ofFn]
  rfl

/-- What start-up leaves of the start values: the supervisor's record is that of START, the work of the stations adds the rest. -/
theorem startUp_work (reload : Bool) (s : State) : ∃ x, StationWork (startBlocks reload s) x ∧
    StationWork { x with
      brake := startedBrake (startBlocks reload s).brake.counter 0 (startBlocks reload s).params.emergencyDecel.toNat
      agenda := [.tripStage .HOLD .EMERGENCY, .doorEval .car1, .doorEval .car2] } (startUp reload s) := by
  obtain ⟨x, hx, he⟩ := raiseStart_work (s := startBlocks reload s) (c := (startBlocks reload s).brake.counter) rfl
    (startBlocks_dinLevel reload s) rfl
  refine ⟨x, hx, ?_⟩
  unfold startUp
  rw [he]
  exact work_startPasses (work_noticeInvalid (.refl _))

/-- A store whose write did not come to its end does not agree (R185, R187). -/
theorem brokenStore_disagrees (c : StoreContents) : storeAgrees (brokenStore c) = false := by
  refine beq_eq_false_iff_ne.mpr fun h => ?_
  have hbit : (~~~ storeCheck c).getLsbD 0 = (storeCheck c).getLsbD 0 := congrArg (·.getLsbD 0) h
  rw [BitVec.getLsbD_not] at hbit
  cases hc : (storeCheck c).getLsbD 0 <;> rw [hc] at hbit <;> contradiction

/-! ## O50: the store and the reload (R187, R189) -/

section
variable {hdr : Header} {tag : Byte} {s : State}

theorem reloadAllowed_iff (s : State) : reloadAllowed s = true ↔
    s.trip.state = .IDLE ∧ s.pos.standstill = true ∧ s.brake.commanded = .HOLD ∧ s.mgmt.flight = none := by
  simp [reloadAllowed, State.inService, and_assoc]

theorem takeReload_named {console : Bool} (h : s.mgmt.locks.writeAll = false) (hc : console = false) : takeReload hdr console tag s =
    if reloadAllowed s = true then
      announceIf (s.trip.dir != .UP) (.demandTrip none) (startUp true (answerControl hdr tag .OK s))
    else answerControl hdr tag .WRONG_STATE s := by
  subst hc
  exact guarded_of_maint h

end

/-- Settles O50: the refusals in their order, what a store takes, what a reload starts on, and what a store's end holds. -/
theorem storeAndReloadCarryTheTables : Obligations.StoreAndReloadCarryTheTables := by
  refine ⟨fun hdr tag op arg e s hacc => ?_, fun agrees s hr => ⟨fun hf => ?_, fun f hf => ?_⟩⟩
  · intro m h answer next free taken allowed
    refine ⟨fun hop => ?_, fun hop => ?_⟩
    · subst hop
      have hexec : exec (.store hdr tag arg) s = .next (settle (react (takeStore hdr (nodeRole e == .CONSOLE) tag) h)) :=
        running_receive hacc
      have taken_ : m.locks.writeAll = false → takeStore hdr (nodeRole e == .CONSOLE) tag h =
          if s.mgmt.flight.isSome then answerControl hdr tag .BUSY h
          else { h with mgmt := { m with flight := some taken } } := fun hl => guarded_of_named hl
      refine ⟨fun hl hq => hexec.trans (congrArg _ ?_), fun hl hf hq => hexec.trans (congrArg _ ?_),
        fun hl hf hq => hexec.trans (congrArg _ ?_)⟩
      · exact settle_react_answered (heardOn_quiet hdr.port hq) (guarded_of_locked (Bool.not_eq_false _ ▸ hl))
      · exact settle_react_answered (heardOn_quiet hdr.port hq) ((taken_ hl).trans (if_pos (Option.isSome_iff_ne_none.mpr hf)))
      · have ht := (taken_ hl).trans (if_neg (by rw [hf]; exact Bool.false_ne_true))
        rw [settle_react_of_management (heardOn_quiet hdr.port hq) ht, ht]
    · subst hop
      have hexec : exec (.reload hdr tag arg) s = .next (settle (takeReload hdr (nodeRole e == .CONSOLE) tag h)) :=
        running_receive hacc
      have answered : ∀ {c}, s.agenda = [] → takeReload hdr (nodeRole e == .CONSOLE) tag h = answerControl hdr tag c h →
          exec (.reload hdr tag arg) s = .next (answer c) := by
        intro c ha ht
        rw [hexec, ht, settle_of_empty (s := answerControl hdr tag c h) ha]
        rfl
      refine ⟨fun ha hl => answered ha (guarded_of_locked ?_), fun ha hl hc => answered ha ?_, fun ha hl hm hno => answered ha ?_,
        fun hl hm hall => ?_⟩
      · exact Bool.not_eq_false _ ▸ hl
      · rw [hc]
        exact guarded_of_console hl
      · exact (takeReload_named (s := h) hl (beq_eq_false_iff_ne.mpr hm)).trans (if_neg fun x => hno ((reloadAllowed_iff h).mp x))
      · have ht := (takeReload_named (s := h) (hdr := hdr) (tag := tag) hl (beq_eq_false_iff_ne.mpr hm)).trans
          (if_pos ((reloadAllowed_iff h).mpr hall))
        have hcut : cutStore s.mgmt = s.mgmt := by
          unfold cutStore
          rw [hall.2.2.2]
        rw [ht] at hexec
        obtain ⟨x, hx, hu⟩ := startUp_work true (answer .OK)
        have hrest := startUp_rest true (answer .OK)
        have hload : loadStore (cutStore s.mgmt).store = loadStore m.store := congrArg (fun m : Management => loadStore m.store) hcut
        have htables : (startBlocks true (answer .OK)).active = (loadStore m.store).1.tables := congrArg (fun l => l.1.tables) hload
        have hlast : (startBlocks true (answer .OK)).mgmt.storeLast = m.storeLast := by
          change (cutStore s.mgmt).storeLast = s.mgmt.storeLast
          rw [hcut]
        have htrip : (startBlocks true (answer .OK)).trip = Trip.start (loadStore m.store).1.tables.b.params.designMax.toNat :=
          congrArg (fun l : StoreContents × LoadedFrom => Trip.start l.1.tables.b.params.designMax.toNat) hload
        have hr' : (settle (announceIf (s.trip.dir != .UP) (.demandTrip none) (startUp true (answer .OK)))).rest =
            (startBlocks true (answer .OK)).rest := by
          rw [settle_rest, announceIf_rest, hrest]
        refine ⟨_, hexec, ?_⟩
        refine ⟨?_, (congrArg Rest.staged hr').trans htables, congrArg Rest.localMs hr',
          (congrArg Rest.storeLast hr').trans hlast, (congrArg Rest.loadedFrom hr').trans (congrArg Prod.snd hload),
          (congrArg Rest.locks hr').trans (congrArg (fun l => l.1.lockDefaults) hload), ?_, ?_, ?_, ?_, fun hdir => ?_⟩
        all_goals rw [announceIf_eq]
        · exact hu.active.trans (hx.active.trans htables)
        · exact (hu.trip.trans hx.trip).trans htrip
        · exact congrArg Supervisor.latchE hu.brake
        · exact congrArg Supervisor.counter hu.brake
        · obtain ⟨l1, h1⟩ := hx.normal hdr.port
          obtain ⟨l2, h2⟩ := hu.normal hdr.port
          have hstart : ((startBlocks true (answer .OK)).ports.get hdr.port).normal = ((answer .OK).ports.get hdr.port).normal := by
            cases hdr.port <;> rfl
          exact ⟨l1 ++ l2, by rw [← List.append_assoc, ← hstart, ← h1]; exact h2⟩
        · have hcond : (h.trip.dir != .UP) = true := bne_iff_ne.mpr hdir
          rw [if_pos hcond]
          exact List.getLast?_concat ..
  · refine (plainly_eq hr).trans (congrArg _ ?_)
    unfold storeCompletes
    rw [hf]
  · refine ⟨if agrees then ⟨f.contents, storeCheck f.contents⟩ else brokenStore f.contents, ?_, (plainly_eq hr).trans (congrArg _ ?_)⟩
    · cases agrees
      · exact ⟨rfl, brokenStore_disagrees f.contents⟩
      · exact ⟨rfl, beq_self_eq_true _⟩
    · unfold storeCompletes
      rw [hf]
      cases agrees
      · rfl
      · rfl

/-! ## O51: start-up, the RESET pin and power loss (R187, R188) -/

/-- A port that has room takes at most one NOTICE frame behind its others from an occurrence (R168, R181). -/
theorem occur_port (n : Notice) {s : State} {q : PortId} (h : (s.ports.get q).normal.length < 32) : ∃ l, l.length ≤ 1 ∧
    (∀ x ∈ l, contentKind x.content = 0x27#8) ∧
    (occur n s).ports.get q = { s.ports.get q with normal := (s.ports.get q).normal ++ l } := by
  have same : s.ports.get q = { s.ports.get q with normal := (s.ports.get q).normal ++ [] } := by rw [List.append_nil]
  unfold occur sendNormal
  dsimp only
  split
  · split
    · exact ⟨[], Nat.zero_le _, nofun, same⟩
    · next e he =>
      by_cases hq : q = nodeSide e
      · subst hq
        rw [placeNormal_fields, PerPort.get_set_self]
        rcases withNormal_cases (frameFor e none (.notice n s.localTime _) _) (s.ports.get (nodeSide e)) with ⟨hx, -⟩ | ⟨-, hx⟩ | ⟨hx, -⟩
        · exact absurd hx Bool.false_ne_true
        · exact ⟨[_], le_rfl, fun x hx => by rw [List.mem_singleton.mp hx]; rfl, hx⟩
        · exact absurd hx (Nat.not_le.mpr h)
      · rw [placeNormal_fields, PerPort.get_set_ne s.ports _ hq]
        exact ⟨[], Nat.zero_le _, nofun, same⟩
  · exact ⟨[], Nat.zero_le _, nofun, same⟩

/-- An occurrence makes its own notice pending and no other (R181). -/
theorem occur_pending_iff (n : Notice) (s : State) (i : Fin 24) : ((occur n s).mgmt.notices.get i).pending =
    (decide (i = noticeIndex n) || (s.mgmt.notices.get i).pending) := by
  obtain ⟨p, v, hv, h⟩ := occur_fields n s
  rw [h]
  change (v.get i).pending = _
  rw [hv]
  by_cases hi : i = noticeIndex n
  · subst hi
    rw [vset_get_self, decide_eq_true rfl]
    rfl
  · rw [vset_get_ne _ _ hi, decide_eq_false hi, Bool.false_or]

theorem noticeInvalid_pending (s : State) (i : Fin 24) : ((noticeInvalid s).mgmt.notices.get i).pending =
    (decide (s.mgmt.loadedFrom ≠ .STORE ∧ i = noticeIndex .CONFIG_INVALID) || (s.mgmt.notices.get i).pending) := by
  unfold noticeInvalid
  by_cases h : s.mgmt.loadedFrom = .STORE
  · rw [if_pos h, decide_eq_false (fun x => x.1 h), Bool.false_or]
  · rw [if_neg h, occur_pending_iff]
    simp [h]

theorem noticeInvalid_port {s : State} {q : PortId} (h : (s.ports.get q).normal.length < 32) : ∃ l, l.length ≤ 1 ∧
    (∀ x ∈ l, contentKind x.content = 0x27#8) ∧
    (noticeInvalid s).ports.get q = { s.ports.get q with normal := (s.ports.get q).normal ++ l } := by
  unfold noticeInvalid
  split
  · exact ⟨[], Nat.zero_le _, nofun, by rw [List.append_nil]⟩
  · exact occur_port _ h

theorem noticeInvalid_frame (s : State) : ∃ p v, noticeInvalid s = { s with ports := p, mgmt := { s.mgmt with notices := v } } := by
  unfold noticeInvalid
  split
  · exact ⟨_, _, rfl⟩
  · obtain ⟨p, v, -, h⟩ := occur_fields .CONFIG_INVALID s
    exact ⟨p, v, h⟩

/-- An order in an empty urgent queue of port F (R64, R168). -/
theorem sendUrgent_start {s : State} (r : Role) (c : Content) (h : s.ports = ⟨Port.start, Port.start⟩) :
    (sendUrgent r c s).ports = ⟨Port.start, { Port.start with urgent :=
      ((firstRole s.active.b r).map fun e => (⟨e.address, s.mgmt.ownAddress, some r, c⟩ : OutFrame)).toList }⟩ := by
  unfold sendUrgent
  split
  next hr => rw [hr, h]; rfl
  next e hr => rw [hr, placeUrgent_fields, h]; rfl

/-- The store that start-up loads, and where from (R185, R187): nothing of a STORE that was cut short. -/
theorem loadStore_cutStore (m : Management) : loadStore (cutStore m).store =
    if m.flight = none then loadStore m.store else (⟨Tables.factory, ⟨false, false, false⟩, 0xF0#8⟩, .CHECK_FAILED) := by
  unfold cutStore
  split
  next h => rw [h]; rfl
  next f h =>
    rw [h, if_neg (Option.some_ne_none f)]
    unfold loadStore
    dsimp only
    rw [brokenStore_disagrees]
    rfl

theorem cutStore_kept (m : Management) : (m.flight = none → (cutStore m).store = m.store) ∧
    (m.flight ≠ none → storeAgrees (cutStore m).store = false) := by
  unfold cutStore
  split
  next h => exact ⟨fun _ => rfl, fun hn => absurd h hn⟩
  next f h => exact ⟨fun hn => absurd (h.symm.trans hn) (Option.some_ne_none f), fun _ => brokenStore_disagrees _⟩

/-- The start values behind START, ESTOP and the notices. -/
structure Started (b v : State) : Prop where
  frame : ∃ pu po w, v = { b with
    brake := startedBrake 0 0 b.params.emergencyDecel.toNat
    agenda := [.tripStage .HOLD .EMERGENCY, .doorEval .car1, .doorEval .car2]
    pulses := pu
    ports := po
    mgmt := { b.mgmt with notices := w } }
  pulses : ∀ i, refEventOf (b.active.a.pulses.get i) ≠ some .latchSet → v.pulses.get i = b.pulses.get i
  pending : ∀ i, (v.mgmt.notices.get i).pending = (decide (b.mgmt.loadedFrom ≠ .STORE ∧ i = noticeIndex .CONFIG_INVALID) ||
    (decide (i = noticeIndex .EMERGENCY_STAGE) || (b.mgmt.notices.get i).pending))
  urgentC : v.ports.c.urgent = []
  urgentF : v.ports.f.urgent =
    ((firstRole b.active.b .BRAKE).map fun e => (⟨e.address, b.mgmt.ownAddress, some .BRAKE, .brakeOrder 1 .EMERGENCY⟩ : OutFrame)).toList
  port : ∀ q, { v.ports.get q with urgent := [], normal := [] } = Port.start ∧
    ∀ x ∈ (v.ports.get q).normal, contentKind x.content = 0x27#8

theorem started_spec {b : State} (hb : b.brake = Supervisor.start 0) (ha : b.agenda = []) (hdin : dinLevel b 0 = .OPEN)
    (hv : b.pos.measured = 0) (hports : b.ports = ⟨Port.start, Port.start⟩) : Started b (noticeInvalid (raiseStart b)) := by
  have hraise := raiseStart_eq hb hdin hv
  rw [ha] at hraise
  obtain ⟨u, hu⟩ : ∃ u, sendUrgent .BRAKE (.brakeOrder ((0 : Byte) + 1#8) .EMERGENCY) (giveEvent .latchSet b) = u := ⟨_, rfl⟩
  have hup := sendUrgent_start .BRAKE (.brakeOrder ((0 : Byte) + 1#8) .EMERGENCY) (s := giveEvent .latchSet b) hports
  obtain ⟨po, huf⟩ := sendUrgent_fields .BRAKE (.brakeOrder ((0 : Byte) + 1#8) .EMERGENCY) (giveEvent .latchSet b)
  rw [hu] at hraise hup huf
  obtain ⟨po', w, -, hof⟩ := occur_fields .EMERGENCY_STAGE u
  obtain ⟨po'', w', hnf⟩ := noticeInvalid_frame (raiseStart b)
  have hrp : (raiseStart b).ports = (occur .EMERGENCY_STAGE u).ports := by rw [hraise]
  have hload : (raiseStart b).mgmt.loadedFrom = b.mgmt.loadedFrom := by rw [hraise, hof, huf]; rfl
  have port : ∀ q, ∃ l, (∀ x ∈ l, contentKind x.content = 0x27#8) ∧
      (noticeInvalid (raiseStart b)).ports.get q = { u.ports.get q with normal := l } := by
    intro q
    have hempty : (u.ports.get q).normal = [] := by rw [hup]; cases q <;> rfl
    obtain ⟨l1, hlen, hk1, h1⟩ := occur_port .EMERGENCY_STAGE (s := u) (q := q) (by rw [hempty]; decide)
    rw [hempty, List.nil_append] at h1
    have hroom : ((raiseStart b).ports.get q).normal.length < 32 := by
      rw [hrp, h1]
      exact Nat.lt_of_le_of_lt hlen (by decide)
    obtain ⟨l2, -, hk2, h2⟩ := noticeInvalid_port hroom
    refine ⟨l1 ++ l2, fun x hx => (List.mem_append.mp hx).elim (hk1 x) (hk2 x), ?_⟩
    rw [h2, hrp, h1]
  obtain ⟨lC, -, hC⟩ := port .C
  obtain ⟨lF, -, hF⟩ := port .F
  refine ⟨⟨(giveEvent .latchSet b).pulses, po'', w', ?_⟩, fun i hi => ?_, fun i => ?_, ?_, ?_, fun q => ?_⟩
  · rw [hnf, hraise, hof, huf]
    rfl
  · have hpu : (noticeInvalid (raiseStart b)).pulses = (giveEvent .latchSet b).pulses := by rw [hnf, hraise, hof, huf]
    rw [hpu, giveEvent_get]
    exact if_neg fun h => hi h.2
  · have hn : (raiseStart b).mgmt = (occur .EMERGENCY_STAGE u).mgmt := by rw [hraise]
    have hun : u.mgmt = b.mgmt := by rw [huf]; rfl
    rw [noticeInvalid_pending, hload, hn, occur_pending_iff, hun]
  · exact (congrArg Port.urgent hC).trans (by rw [hup]; rfl)
  · exact (congrArg Port.urgent hF).trans (by rw [hup]; rfl)
  · obtain ⟨l, hk, h⟩ := port q
    rw [h]
    exact ⟨by rw [hup]; cases q <;> rfl, hk⟩

/-- Settles O51: the start values block by block, and what the pins and the supply do. -/
theorem startUpSetsEveryBlock : Obligations.StartUpSetsEveryBlock := by
  intro s f ld t p kept held
  have hld : loadStore (cutStore s.mgmt).store = ld := loadStore_cutStore s.mgmt
  have hkept : kept (cutStore s.mgmt) := cutStore_kept s.mgmt
  refine ⟨fun hlow => ?_, fun hhigh => ?_, fun hpow => ?_, fun hpow => ?_, fun hpow => ?_, fun hpow => ?_, fun hf => ?_, fun hf => ?_⟩
  · exact ⟨holdInReset s, congrArg _ (if_pos hlow), rfl, hlow, rfl, rfl, rfl, hkept⟩
  · have hstart := started_spec (b := startBlocks false s) rfl rfl (startBlocks_dinLevel ..) rfl rfl
    obtain ⟨v, hv⟩ : ∃ v, noticeInvalid (raiseStart (startBlocks false s)) = v := ⟨_, rfl⟩
    have hexec : exec .powerOn s = .next (settle (startPasses v)) := by
      rw [← hv]
      exact congrArg _ (if_neg (by rw [hhigh]; exact Bool.false_ne_true))
    rw [hv] at hstart
    obtain ⟨⟨pu, po, w, hframe⟩, hpulses, hpending, hC, hF, hport⟩ := hstart
    refine ⟨v, hexec, by rw [settle_rest, startPasses_rest], ?_⟩
    have hpend : ∀ i, (v.mgmt.notices.get i).pending =
        decide (i = noticeIndex .EMERGENCY_STAGE ∨ (ld.2 ≠ .STORE ∧ i = noticeIndex .CONFIG_INVALID)) := by
      intro i
      have hclear : ((startBlocks false s).mgmt.notices.get i).pending = false := by
        unfold startBlocks startMgmt
        simp [Vector.get_eq_getElem, NoticeRecord.clear]
      have hload : (startBlocks false s).mgmt.loadedFrom = ld.2 := congrArg Prod.snd hld
      rw [hpending, hclear, hload, Bool.or_false, Bool.or_comm, ← Bool.decide_or]
    rw [hframe]
    rw [hframe] at hpend hpulses hC hF hport
    have htables : (loadStore (cutStore s.mgmt).store).1.tables = t := congrArg (fun l => l.1.tables) hld
    have hlocks : (loadStore (cutStore s.mgmt).store).1.lockDefaults = ld.1.lockDefaults := congrArg (fun l => l.1.lockDefaults) hld
    have hown : (loadStore (cutStore s.mgmt).store).1.ownAddress = ld.1.ownAddress := congrArg (fun l => l.1.ownAddress) hld
    have hparams : (startBlocks false s).params = p := congrArg (fun t : Tables => t.b.params) htables
    refine ⟨rfl, hhigh, rfl, rfl, htables, htables, rfl, rfl, congrArg (fun p : Params => Position.start p.sampleLossTime.toNat) hparams,
      congrArg (fun p : Params => SpeedRecord.start p.designMax.toNat) hparams, rfl,
      congrArg (fun p : Params => Trip.start p.designMax.toNat) hparams, rfl,
      congrArg (fun p : Params => startedBrake 0 0 p.emergencyDecel.toNat) hparams, fun k => ?_, fun q => ?_, fun i hi => ?_, hC, ?_, hport,
      fun i => ?_, hlocks, hlocks, hown, hown, rfl, rfl, congrArg Prod.snd hld, rfl, rfl, hkept, hpend⟩
    · cases k <;> rfl
    · have hq : (startBlocks false s).seqs.get q = startSeq (t.a.programs.get q) := by
        rw [← htables]
        exact map_get ..
      exact hq
    · have hactive : (startBlocks false s).active = t := htables
      rw [hpulses i (by rw [hactive]; exact hi)]
      simp [startBlocks, Vector.get_eq_getElem, PulseRun.start]
    · have hactive : (startBlocks false s).active = t := htables
      have haddress : (startBlocks false s).mgmt.ownAddress = ld.1.ownAddress := hown
      rw [hF, hactive, haddress]
      rcases firstRole t.b .BRAKE with - | e
      · rfl
      · rfl
    · have hd : (startBlocks false s).dins.get i = ⟨(s.dins.get i).raw, none, some (t.b.filterTimes.get i).toNat⟩ := by
        rw [← htables]
        simp [startBlocks, Vector.get_eq_getElem]
      exact hd
  · exact congrArg _ (if_pos hpow)
  · exact congrArg _ (if_neg hpow)
  · exact congrArg _ (if_pos hpow)
  · exact ⟨holdInReset { s with resetLow := true }, congrArg _ (if_neg hpow), rfl, rfl, rfl, rfl, rfl, hkept⟩
  · have hc : cutStore s.mgmt = s.mgmt := by
      unfold cutStore
      rw [show s.mgmt.flight = none from hf]
    change Host.Outcome.next { s with power := .OFF, sigDriven := false, mgmt := cutStore s.mgmt } = _
    rw [hc]
  · refine ⟨losePower s, rfl, rfl, rfl, ?_, hkept.2 hf, rfl⟩
    change (cutStore s.mgmt).flight = none
    unfold cutStore
    split
    next h => exact absurd h hf
    next => rfl

end Sys2Proof.Machine
end

section
/-!
PROOFS. Line requests and the drive (R82 to R97): what a request leaves that is carried through in the trip record, then the refusals
of departure requests (O29), the holds (O28), cap, mode and flags (O31), service (O32, O33), the drive state (O35) and the departure
timers (O36).
-/

namespace Sys2Proof.Machine

/-! ## Events that are carried through in the trip record -/

/-- An event that is carried through leaves what it does, the overrun field and its announcements aside. -/
theorem react_carried {f g : State → State} {a b : State} (hf : f a = carry g b) :
    ∃ v l, react f a = { g b with speed := v, agenda := (carry g b).agenda ++ l } := by
  obtain ⟨v, l, h⟩ := carry_fields g b
  obtain ⟨l', hl⟩ := react_eq f a
  refine ⟨v, l', ?_⟩
  rw [hl, hf, h]

section
variable {hdr : Header} {n kind : Byte} {r : LineReq} {e : NodeEntry} {s : State} {ans : State → LineAnswer} {eff : State → State}

/-- A request is refused: its frame is answered, and nothing else follows. -/
theorem request_exec_refused {why : Reason} (hacc : acceptedFrom s hdr (.lineRequest n r) e) (hq : quiet s = true)
    (hreq : ∀ u, takeRequest hdr n r u = request hdr n kind ans eff u) (h : ans (heardOn hdr.port s) = .REFUSED why) :
    running (receivePayload hdr (.lineRequest n r)) s = .next (answerLine hdr n kind (.REFUSED why) (heardOn hdr.port s)) :=
  running_request_answered hacc hq ((hreq _).trans (request_refused h ..))

/-- A request is accepted: its frame is answered, and its effect announced and carried through. -/
theorem request_exec_accepted (hacc : acceptedFrom s hdr (.lineRequest n r) e)
    (hreq : ∀ u, takeRequest hdr n r u = request hdr n kind ans eff u) (h : ans (heardOn hdr.port s) = .ACCEPTED) :
    let u := react (takeRequest hdr n r) (heardOn hdr.port s)
    let t := eff (answerLine hdr n kind .ACCEPTED (heardOn hdr.port s))
    running (receivePayload hdr (.lineRequest n r)) s = .next (settle u) ∧ (settle u).rest = t.rest ∧
      ∃ l, u = { t with agenda := t.agenda ++ l } := by
  intro u t
  have hf : takeRequest hdr n r (heardOn hdr.port s) = t := (hreq _).trans (request_accepted h ..)
  refine ⟨running_receive hacc, ?_, hf ▸ react_eq (takeRequest hdr n r) (heardOn hdr.port s)⟩
  rw [settle_rest, react_rest, hf]

/-- A request is taken whose effect is carried through in the trip record. -/
theorem request_exec_carried {g : State → State} {a : State} (hacc : acceptedFrom s hdr (.lineRequest n r) e)
    (hf : takeRequest hdr n r (heardOn hdr.port s) = carry g a) :
    ∃ u v l, running (receivePayload hdr (.lineRequest n r)) s = .next (settle u) ∧ (settle u).rest = (g a).rest ∧
      u = { g a with speed := v, agenda := (carry g a).agenda ++ l } := by
  obtain ⟨v, l, hu⟩ := react_carried hf
  refine ⟨react (takeRequest hdr n r) (heardOn hdr.port s), v, l, running_receive hacc, ?_, hu⟩
  rw [settle_rest, react_rest, hf, carry_rest]

end

/-! ## The return to the origin (R89) -/

/-- The state of an origin is one in which no departure is under way. -/
theorem originState_not_departing (o : Option Origin) : let x := (o.map originState).getD .HELD
    x ≠ .STOPPING ∧ x ≠ .READY ∧ x ≠ .DEPARTING ∧ x ≠ .RUNNING := by
  rcases o with - | - | - | - <;> exact ⟨nofun, nofun, nofun, nofun⟩

theorem tripAbandon_eq (t : Trip) : tripAbandon t =
    { t with state := (t.origin.map originState).getD .HELD, origin := none, virtualStop := none, readyTimer := none, torqueTimer := none } := by
  obtain ⟨h1, h2, h3, -⟩ := originState_not_departing t.origin
  unfold tripAbandon tripEnter
  rw [if_neg h1, if_neg h2, if_neg h3]

/-- The return to the origin is announced (R76). -/
theorem abandon_announced {s : State} (h : s.trip.state = .READY ∨ s.trip.state = .DEPARTING) :
    .brakeTrip ((s.trip.origin.map originState).getD .HELD) ∈ (carry (modTrip tripAbandon) s).agenda := by
  refine (carry_entered (f := modTrip tripAbandon) rfl fun hc => ?_).1
  obtain ⟨-, h2, h3, -⟩ := originState_not_departing s.trip.origin
  exact h.elim (fun hr => h2 (hc.symm.trans hr)) fun hd => h3 (hc.symm.trans hd)

/-! ## O36: the departure timers (R86, R89) -/

theorem readyTimerExpires_running {s : State} (h : s.trip.state = .READY ∧ s.trip.readyTimer ≠ none) :
    readyTimerExpires s = occur .DISPATCH_TIMEOUT (carry (modTrip tripAbandon) s) :=
  if_pos ⟨h.1, Option.isSome_iff_ne_none.mpr h.2⟩

theorem readyTimerExpires_stopped {s : State} (h : ¬ (s.trip.state = .READY ∧ s.trip.readyTimer ≠ none)) :
    readyTimerExpires s = s :=
  if_neg fun hc => h ⟨hc.1, Option.isSome_iff_ne_none.mp hc.2⟩

theorem torqueTimerExpires_running {s : State} (h : s.trip.state = .DEPARTING ∧ s.trip.torqueTimer ≠ none) :
    torqueTimerExpires s = carry (modTrip tripAbandon) s :=
  (if_pos (Option.isSome_iff_ne_none.mpr h.2)).trans (if_pos h.1)

theorem torqueTimerExpires_stopped {s : State} (h : ¬ (s.trip.state = .DEPARTING ∧ s.trip.torqueTimer ≠ none)) :
    torqueTimerExpires s = s := by
  unfold torqueTimerExpires abandonDeparting
  by_cases ht : s.trip.torqueTimer.isSome = true
  · rw [if_pos ht, if_neg fun hc => h ⟨hc, Option.isSome_iff_ne_none.mp ht⟩]
  · rw [if_neg ht]

/-- An event that changes nothing leaves a quiet state as it is. -/
theorem event_idle {f : State → State} {s : State} (hr : s.power = .RUNNING) (hq : quiet s = true) (h : f s = s) :
    event f s = .next s := by
  refine (running_eq hr).trans (congrArg _ ?_)
  rw [settle_react_quiet hq] <;> rw [h]

/-- Settles O36: with its timer running the departure is abandoned, and else nothing changes. -/
theorem departureTimersReturnToTheOrigin : Obligations.DepartureTimersReturnToTheOrigin := by
  intro s hr origin back isReady isProof
  have horigin : (s.trip.origin.map originState).getD .HELD = origin := by
    change _ = (match s.trip.origin with
      | some .PARKED => TripState.PARKED
      | some .AT_STOP => .AT_STOP
      | _ => .HELD)
    rcases s.trip.origin with - | - | - | - <;> rfl
  have hback : tripAbandon s.trip = back := by rw [tripAbandon_eq, horigin]
  have hann : s.trip.state = .READY ∨ s.trip.state = .DEPARTING → .brakeTrip origin ∈ (carry (modTrip tripAbandon) s).agenda :=
    fun h => horigin ▸ abandon_announced h
  have hrest : (carry (modTrip tripAbandon) s).rest = s.rest := (carry_rest ..).trans rfl
  have htrip : (carry (modTrip tripAbandon) s).trip = back := (carry_trip ..).trans hback
  refine ⟨fun h => ?_, fun h hq => event_idle hr hq (readyTimerExpires_stopped h), fun h => ?_,
    fun h hq => event_idle hr hq (torqueTimerExpires_stopped h)⟩
  · obtain ⟨l, hl⟩ := react_eq readyTimerExpires s
    rw [readyTimerExpires_running h] at hl
    refine ⟨react readyTimerExpires s, running_eq hr, ?_, ?_⟩
    · rw [settle_rest, react_rest, readyTimerExpires_running h, occur_rest, hrest]
    · rw [hl]
      refine ⟨?_, occur_pending .., List.mem_append_left _ ((occur_agenda ..).symm ▸ hann (.inl h.1))⟩
      obtain ⟨p, v, -, ho⟩ := occur_fields .DISPATCH_TIMEOUT (carry (modTrip tripAbandon) s)
      rw [ho]
      exact htrip
  · obtain ⟨v, l, hl⟩ := react_carried (torqueTimerExpires_running h)
    refine ⟨react torqueTimerExpires s, running_eq hr, ?_, ?_⟩
    · rw [settle_rest, react_rest, torqueTimerExpires_running h, hrest]
    · rw [hl]
      exact ⟨hback, rfl, List.mem_append_left _ (hann (.inr h.1))⟩

/-! ## O29: refused departure requests (R85) -/

theorem keyBars_iff (s : State) : keyBars s = true ↔ s.trip.mode = .CREEP ∧ dinLevel s 1 = .OPEN := by
  simp [keyBars]

/-- Settles O29: the answers by their first reason. -/
theorem departureRequestsAreRefusedInOrder : Obligations.DepartureRequestsAreRefusedInOrder := by
  intro hdr n e s hq st keyOpen refused
  have hkey : keyBars (heardOn hdr.port s) = true ↔ keyOpen := keyBars_iff s
  refine ⟨fun hacc => ?_, fun hacc => ?_⟩
  · have no : ∀ r, dispatchAnswer (heardOn hdr.port s) = .REFUSED r → exec (.dispatch hdr n) s = refused 0 r := fun r h =>
      request_exec_refused (eff := dispatchEffect) hacc hq (fun _ => rfl) h
    refine ⟨fun h1 h2 => no _ (if_pos (not_or.mpr ⟨h1, h2⟩)), fun hst hk => no _ ?_, fun hst hk hh => no _ ?_,
      fun hst hk hh hp => no _ ?_⟩
    · exact (if_neg (not_not.mpr hst)).trans (if_pos (hkey.mpr hk))
    · exact (if_neg (not_not.mpr hst)).trans ((if_neg fun h => hk (hkey.mp h)).trans (if_pos hh))
    · exact (if_neg (not_not.mpr (.inr hst))).trans ((if_neg fun h => hk (hkey.mp h)).trans
        ((if_neg (not_not.mpr hh)).trans (if_pos ⟨hst, hp⟩)))
  · have no : ∀ r, resumeAnswer (heardOn hdr.port s) = .REFUSED r → exec (.resume hdr n) s = refused 5 r := fun r h =>
      request_exec_refused (eff := resumeEffect) hacc hq (fun _ => rfl) h
    refine ⟨fun h1 h2 h3 => no _ (if_pos ?_), fun hst hk => no _ ((if_neg (not_not.mpr hst)).trans (if_pos (hkey.mpr hk)))⟩
    exact not_or.mpr ⟨h1, not_or.mpr ⟨h2, h3⟩⟩

/-! ## O28: holds (R83, R84) -/

/-- What HOLD_HARD does to the trip, before it is announced (R84). -/
def holdHardTrip (s : State) : Trip :=
  match s.trip.state with
  | .READY => tripAbandon s.trip
  | .DEPARTING => tripAbandon s.trip
  | .RUNNING => (enterStopping s).trip
  | _ => s.trip

theorem enterStopping_eq (s : State) : enterStopping s = { s with trip := (enterStopping s).trip } := by
  unfold enterStopping
  split <;> rfl

theorem holdHardEffect_eq (s : State) :
    holdHardEffect s = carry (fun s => { s with trip := { holdHardTrip s with hold := .HARD } }) s := by
  unfold holdHardEffect
  refine congrArg (fun f : State → State => carry f s) (funext fun u => ?_)
  unfold holdHardTrip
  cases u.trip.state
  case RUNNING => dsimp only; rw [enterStopping_eq]; rfl
  all_goals rfl

theorem holdHardTrip_kept (s : State) : (holdHardTrip s).plan = s.trip.plan ∧ (holdHardTrip s).berth = s.trip.berth ∧
    (holdHardTrip s).mode = s.trip.mode ∧ (holdHardTrip s).flags = s.trip.flags ∧ (holdHardTrip s).lastDrive = s.trip.lastDrive ∧
    (holdHardTrip s).statusTimer = s.trip.statusTimer := by
  unfold holdHardTrip
  split
  · exact ⟨rfl, rfl, rfl, rfl, rfl, rfl⟩
  · exact ⟨rfl, rfl, rfl, rfl, rfl, rfl⟩
  · unfold enterStopping
    split <;> exact ⟨rfl, rfl, rfl, rfl, rfl, rfl⟩
  · exact ⟨rfl, rfl, rfl, rfl, rfl, rfl⟩

theorem holdHardTrip_abandoned {s : State} (h : s.trip.state = .READY ∨ s.trip.state = .DEPARTING) :
    holdHardTrip s = tripAbandon s.trip := by
  unfold holdHardTrip
  rcases h with h | h <;> rw [h]

theorem holdHardTrip_running {s : State} (h : s.trip.state = .RUNNING) : holdHardTrip s = (enterStopping s).trip := by
  unfold holdHardTrip
  rw [h]

theorem holdHardTrip_other {s : State} (h1 : s.trip.state ≠ .READY) (h2 : s.trip.state ≠ .DEPARTING) (h3 : s.trip.state ≠ .RUNNING) :
    holdHardTrip s = s.trip := by
  unfold holdHardTrip
  split
  next h => exact absurd h h1
  next h => exact absurd h h2
  next h => exact absurd h h3
  next => rfl

/-- Settles O28: both holds are refused in IDLE, and else carried through. -/
theorem holdsStopTheTrip : Obligations.HoldsStopTheTrip := by
  refine ⟨fun hdr n e s hacc => ?_, fun hdr n e s hacc => ?_⟩
  · intro answered hold
    refine ⟨fun hi hq => request_exec_refused (ans := holdAnswer) (eff := holdSoftEffect) hacc hq (fun _ => rfl) (if_pos hi),
      fun hi => ?_⟩
    have hf : takeRequest hdr n .holdSoft (heardOn hdr.port s) = holdSoftEffect (answered .ACCEPTED) :=
      request_accepted (ans := holdAnswer) (s := heardOn hdr.port s) (if_neg hi) hdr n 3 holdSoftEffect
    obtain ⟨u, v, l, hexec, hrest, hu⟩ := request_exec_carried hacc (hf.trans (by rfl : _ = carry _ _))
    refine ⟨u, hexec, hrest.trans rfl, ?_, ?_⟩
    · rw [hu]; rfl
    · rw [hu]; rfl
  · intro answered st origin
    refine ⟨fun hi hq => request_exec_refused (ans := holdAnswer) (eff := holdHardEffect) hacc hq (fun _ => rfl) (if_pos hi),
      fun hi => ?_⟩
    have hf : takeRequest hdr n .holdHard (heardOn hdr.port s) = holdHardEffect (answered .ACCEPTED) :=
      request_accepted (ans := holdAnswer) (s := heardOn hdr.port s) (if_neg hi) hdr n 4 holdHardEffect
    obtain ⟨u, v, l, hexec, hrest, hu⟩ := request_exec_carried hacc (hf.trans (holdHardEffect_eq _))
    have horigin : (s.trip.origin.map originState).getD .HELD = origin := by
      change _ = (match s.trip.origin with
        | some .PARKED => TripState.PARKED
        | some .AT_STOP => .AT_STOP
        | _ => .HELD)
      rcases s.trip.origin with - | - | - | - <;> rfl
    obtain ⟨hplan, hberth, hmode, hflags, hdrive, hstatus⟩ := holdHardTrip_kept (answered .ACCEPTED)
    refine ⟨u, hexec, hrest.trans ?_, ?_, ?_, ?_, ?_, fun hd => ?_, fun hrun hs => ?_, fun hrun hs => ?_, fun h1 h2 h3 => ?_⟩
    · unfold State.rest
      dsimp only
      rw [hmode, hflags, hdrive, hstatus]
    · rw [hu]
    · rw [hu]
    · rw [hu]; exact hplan
    · rw [hu]; exact hberth
    · have hab : holdHardTrip (answered .ACCEPTED) = _ := (holdHardTrip_abandoned (s := answered .ACCEPTED) hd).trans (tripAbandon_eq _)
      have hstate : (holdHardTrip (answered .ACCEPTED)).state = origin := by rw [hab]; exact horigin
      have hmem := (carry_entered (s := answered .ACCEPTED)
        (f := fun s => { s with trip := { holdHardTrip s with hold := .HARD } }) hstate ?_).1
      · rw [hu]
        exact ⟨hstate, congrArg Trip.origin hab, congrArg Trip.readyTimer hab, congrArg Trip.torqueTimer hab,
          List.mem_append_left _ hmem⟩
      · rw [← horigin]
        obtain ⟨-, h2, h3, -⟩ := originState_not_departing s.trip.origin
        exact fun hc => hd.elim (fun h => h2 (hc.symm.trans h)) fun h => h3 (hc.symm.trans h)
    · rw [hu]
      change (holdHardTrip (answered .ACCEPTED)).state = _
      rw [holdHardTrip_running (s := answered .ACCEPTED) hrun, enterStopping_standing (s := answered .ACCEPTED) hs]
      rfl
    · rw [hu]
      change (holdHardTrip (answered .ACCEPTED)).state = _ ∧ (holdHardTrip (answered .ACCEPTED)).virtualStop = _
      rw [holdHardTrip_running (s := answered .ACCEPTED) hrun, enterStopping_moving (s := answered .ACCEPTED) hs]
      exact ⟨rfl, rfl⟩
    · rw [hu]
      change { holdHardTrip (answered .ACCEPTED) with hold := .HARD } = _
      rw [holdHardTrip_other (s := answered .ACCEPTED) h1 h2 h3]
      rfl

/-! ## O35: the drive state (R74, R88) -/

section
variable {p : DriveStateP} {s : State}

theorem abandonDeparting_departing (h : s.trip.state = .DEPARTING) : abandonDeparting s = carry (modTrip tripAbandon) s := if_pos h

theorem takeDriveState_unready (h : s.trip.state = .DEPARTING) (hp : p.ready = false) :
    takeDriveState p s = carry (modTrip tripAbandon) { s with trip := { s.trip with lastDrive := some p } } := by
  unfold takeDriveState modTrip
  dsimp only
  rw [if_pos h, hp, if_pos (by rfl)]
  exact abandonDeparting_departing h

theorem takeDriveState_proving (h : s.trip.state = .DEPARTING) (hp : p.ready = true) (ht : p.torque = true)
    (htimer : s.trip.torqueTimer ≠ none) :
    takeDriveState p s = requestRelease { s with trip := { s.trip with lastDrive := some p, torqueTimer := none } } := by
  have hsome : s.trip.torqueTimer.isSome = true := Option.isSome_iff_ne_none.mpr htimer
  unfold takeDriveState modTrip
  dsimp only
  rw [if_pos h, hp, ht, hsome, if_neg (by exact nofun), if_pos (by rfl)]

theorem takeDriveState_plain (h1 : ¬ (s.trip.state = .DEPARTING ∧ p.ready = true ∧ p.torque = true ∧ s.trip.torqueTimer ≠ none))
    (h2 : ¬ (s.trip.state = .DEPARTING ∧ p.ready = false)) :
    takeDriveState p s = { s with trip := { s.trip with lastDrive := some p } } := by
  unfold takeDriveState modTrip
  dsimp only
  by_cases hd : s.trip.state = .DEPARTING
  · have hready : p.ready = true := by
      by_contra hn
      exact h2 ⟨hd, Bool.not_eq_true _ ▸ hn⟩
    rw [if_pos hd, hready, if_neg (by exact nofun), if_neg]
    rw [Bool.and_eq_true, Option.isSome_iff_ne_none]
    exact fun hc => h1 ⟨hd, hready, hc⟩
  · rw [if_neg hd]

theorem takeDriveState_rest (p : DriveStateP) (s : State) : (takeDriveState p s).rest = { s.rest with lastDrive := some p } := by
  unfold takeDriveState
  dsimp only
  split
  · split
    · rw [abandonDeparting_rest]; rfl
    · split
      · rw [requestRelease_rest]; rfl
      · rfl
  · rfl

theorem requestRelease_taken (h : s.trip.state = .DEPARTING) (hl : allLocked s = true) (hn : anyLatch s.brake = false) :
    requestRelease s = stageRule { s with brake := { s.brake with wantsRelease := true } } :=
  if_pos ⟨h, hl, by rw [hn]; exact nofun⟩

theorem requestRelease_refused (h : allLocked s = false ∨ anyLatch s.brake = true) :
    requestRelease s = announce .tripReleaseLost s := by
  refine if_neg fun hc => ?_
  obtain ⟨-, hl, hn⟩ := hc
  rcases h with h | h
  · rw [hl] at h; cases h
  · exact hn h

end

/-- Settles O35: by what DEPARTING makes of the drive state, each with the copy to the console behind it. -/
theorem driveStateProvesTorque : Obligations.DriveStateProvesTorque := by
  intro hdr p e s hacc h taken origin proves
  obtain ⟨f, hfdef⟩ : ∃ f : State → State, f = fun s => copyToConsole hdr.src (.driveState p) (takeDriveState p s) := ⟨_, rfl⟩
  have hf : f h = copyToConsole hdr.src (.driveState p) (takeDriveState p h) := by rw [hfdef]
  have horigin : (s.trip.origin.map originState).getD .HELD = origin := by
    change _ = (match s.trip.origin with
      | some .PARKED => TripState.PARKED
      | some .AT_STOP => .AT_STOP
      | _ => .HELD)
    rcases s.trip.origin with - | - | - | - <;> rfl
  obtain ⟨q, hcopy⟩ := copyToConsole_frame hdr.src (.driveState p) (takeDriveState p h)
  obtain ⟨l, hl⟩ := react_eq f h
  rw [hf, hcopy] at hl
  refine ⟨react f h, hfdef ▸ running_receive hacc, ?_, fun hd hp => ?_, fun hpr => ?_, fun h1 h2 => ?_⟩
  · rw [settle_rest, react_rest, hf, copyToConsole_rest, takeDriveState_rest]
  · rw [hl]
    obtain ⟨v, l', hc⟩ := carry_fields (modTrip tripAbandon) { h with trip := { h.trip with lastDrive := some p } }
    rw [takeDriveState_unready (s := h) hd hp, hc]
    refine ⟨?_, rfl⟩
    change tripAbandon taken = _
    rw [tripAbandon_eq, ← horigin]
  · obtain ⟨hd, hp, ht, htimer⟩ := hpr
    rw [hl, takeDriveState_proving (s := h) hd hp ht htimer]
    refine ⟨?_, fun hlock hlatch => ?_, fun hno => ?_⟩
    · change (requestRelease _).trip = _
      unfold requestRelease
      split
      · exact (stageRule_ruled _).trip
      · rfl
    · change (requestRelease _).brake.wantsRelease = true
      rw [requestRelease_taken]
      · exact (stageRule_ruled _).wantsRelease
      · exact hd
      · exact hlock
      · exact hlatch
    · rw [requestRelease_refused]
      · exact ⟨rfl, List.mem_append_left _ (List.mem_append_right _ (List.mem_singleton_self _))⟩
      · exact hno
  · rw [react_bare, hf, takeDriveState_plain (s := h) h1 h2]
    rfl

end Sys2Proof.Machine
end

section
/-!
PROOFS. Requests on cap, mode and flags (O31), on service (O32, O33), and calls (O26): the answers, and the trip record that an accepted
one leaves.
-/

namespace Sys2Proof.Machine

/-! ## O31: cap, mode and flags (R50, R96) -/

theorem capDeferred_iff (s : State) (cap : Nat) :
    capDeferred s cap = true ↔ clampedCap s cap < s.trip.lineCap ∧ s.pos.standstill = false := by
  simp [capDeferred]

theorem giveBerthed_trip (hs : List Halt) (s : State) : (giveBerthed hs s).trip = s.trip := by
  unfold giveBerthed
  induction hs generalizing s with
  | nil => rfl
  | cons h hs ih => rw [List.foldl_cons, ih]; rfl

theorem arriveAt_caps (st : Stop) (s : State) :
    (arriveAt st s).trip.lineCap = s.trip.lineCap ∧ (arriveAt st s).trip.pendingCap = s.trip.pendingCap := by
  unfold arriveAt
  rw [giveBerthed_trip]
  unfold modTrip
  dsimp only
  split <;> exact ⟨rfl, rfl⟩

theorem testArrival_caps (s : State) :
    (testArrival s).trip.lineCap = s.trip.lineCap ∧ (testArrival s).trip.pendingCap = s.trip.pendingCap := by
  unfold testArrival
  split
  · exact ⟨rfl, rfl⟩
  · split
    · rw [carry_trip]
      exact arriveAt_caps ..
    · exact ⟨rfl, rfl⟩

/-- A pending cap comes into force when standstill begins (R50). -/
theorem takeStandstill_caps (s : State) :
    (takeStandstill s).trip.lineCap = s.trip.pendingCap.getD s.trip.lineCap ∧ (takeStandstill s).trip.pendingCap = none := by
  unfold takeStandstill
  refine ⟨(testArrival_caps _).1.trans ?_, (testArrival_caps _).2.trans ?_⟩
  all_goals
    rw [carry_trip]
    unfold modTrip
    dsimp only
    split <;> rfl

theorem flagOfByte_some {b : Byte} {i : Fin 4} (h : b.toNat = i.val) : flagOfByte b = some i := by
  unfold flagOfByte
  rw [dif_pos (by omega)]
  exact congrArg some (Fin.ext h)

theorem flagOfByte_none {b : Byte} (h : 4 ≤ b.toNat) : flagOfByte b = none := dif_neg (Nat.not_lt.mpr h)

/-- Settles O31: by whether the cap is deferred, by the reasons that refuse a mode, and by the number of the flag. -/
theorem capModeAndFlagsAreSetOnRequest : Obligations.CapModeAndFlagsAreSetOnRequest := by
  refine ⟨fun hdr n cap e s hacc => ?_, takeStandstill_caps, fun hdr n m e s hacc => ?_, fun hdr n b v e s hacc => ?_⟩
  · intro c answered deferred
    have hdef : ∀ a, capDeferred (answered a) cap.toNat = true ↔ deferred := fun a => capDeferred_iff (answered a) cap.toNat
    have hdefh : capDeferred (heardOn hdr.port s) cap.toNat = true ↔ deferred := capDeferred_iff ..
    refine ⟨fun hd hq => ?_, fun hd => ?_⟩
    · have hans : setCapAnswer cap.toNat (heardOn hdr.port s) = .DEFERRED := if_pos (hdefh.mpr hd)
      have hf : takeRequest hdr n (.setCap cap) (heardOn hdr.port s) =
          { answered .DEFERRED with trip := { s.trip with pendingCap := some c } } := by
        change request hdr n 7 (setCapAnswer cap.toNat) (setCapEffect cap.toNat) (heardOn hdr.port s) = _
        simp only [request, hans]
        exact if_pos ((hdef .DEFERRED).mpr hd)
      refine (running_receive hacc).trans (congrArg _ ?_)
      change settle (react (takeRequest hdr n (.setCap cap)) (heardOn hdr.port s)) = _
      rw [settle_react_quiet (heardOn_quiet hdr.port hq)] <;> rw [hf] <;> rfl
    · have hans : setCapAnswer cap.toNat (heardOn hdr.port s) = .ACCEPTED := if_neg fun h => hd (hdefh.mp h)
      have hf : takeRequest hdr n (.setCap cap) (heardOn hdr.port s) =
          carry (modTrip fun t => { t with lineCap := c, pendingCap := none }) (answered .ACCEPTED) :=
        (request_accepted hans hdr n 7 (setCapEffect cap.toNat)).trans (if_neg fun h => hd ((hdef .ACCEPTED).mp h))
      obtain ⟨u, v, l, hexec, hrest, hu⟩ := request_exec_carried hacc hf
      refine ⟨u, hexec, hrest.trans rfl, ?_, ?_, fun hne => ?_⟩
      · rw [hu]; rfl
      · rw [hu]; rfl
      · rw [hu]
        exact List.mem_append_left _ (announceTrip_recompute fun h => hne h.symm)
  · intro st answered refused moving open1
    have no : ∀ why, setModeAnswer m (heardOn hdr.port s) = .REFUSED why → refused why := fun why h hq =>
      request_exec_refused (eff := setModeEffect m) hacc hq (fun _ => rfl) h
    have hmv : ((heardOn hdr.port s).inService = true ∧ ¬ (heardOn hdr.port s).pos.standstill = true) ↔ moving :=
      and_congr (inService_iff _) (by rw [Bool.not_eq_true]; rfl)
    have hfree : st = .IDLE ∨ st = .PARKED ∨ st = .HELD →
        ¬ ((heardOn hdr.port s).inService = true ∧ st ≠ .PARKED ∧ st ≠ .HELD) := by
      rintro hst ⟨hin, h2, h3⟩
      exact hst.elim ((inService_iff _).mp hin) (Or.elim · h2 h3)
    refine ⟨fun h1 h2 h3 => no _ (if_pos ⟨(inService_iff _).mpr h1, h2, h3⟩), fun hst => ⟨fun hm => no _ ?_, fun hm ho => no _ ?_,
      fun hm ho => ?_⟩⟩
    · exact (if_neg (hfree hst)).trans (if_pos (hmv.mpr hm))
    · exact (if_neg (hfree hst)).trans ((if_neg fun h => hm (hmv.mp h)).trans (if_pos ho))
    · have hans : setModeAnswer m (heardOn hdr.port s) = .ACCEPTED :=
        (if_neg (hfree hst)).trans ((if_neg fun h => hm (hmv.mp h)).trans (if_neg ho))
      have hf : takeRequest hdr n (.setMode m) (heardOn hdr.port s) = setModeEffect m (answered .ACCEPTED) :=
        request_accepted hans hdr n 8 (setModeEffect m)
      obtain ⟨u, v, l, hexec, hrest, hu⟩ := request_exec_carried hacc (hf.trans (by rfl : _ = carry _ _))
      refine ⟨u, hexec, hrest.trans rfl, ?_, ?_⟩
      · rw [hu]; rfl
      · rw [hu]; rfl
  · intro answered
    refine ⟨fun hb hq => request_exec_refused (ans := fun _ => setFlagAnswer b) (eff := setFlagEffect b v) hacc hq (fun _ => rfl) ?_,
      fun i hi => ?_⟩
    · unfold setFlagAnswer
      rw [flagOfByte_none hb]
      rfl
    · have hans : setFlagAnswer b = .ACCEPTED := by
        unfold setFlagAnswer
        rw [flagOfByte_some hi]
        rfl
      have heff : setFlagEffect b v (answered .ACCEPTED) =
          { answered .ACCEPTED with trip := { s.trip with flags := vset s.trip.flags i (decide (v = .SET)) } } := by
        unfold setFlagEffect
        rw [flagOfByte_some hi]
        cases v <;> rfl
      obtain ⟨hexec, hrest, l, hu⟩ := request_exec_accepted (kind := 11) (ans := fun _ => setFlagAnswer b) (eff := setFlagEffect b v) hacc
        (fun _ => rfl) hans
      refine ⟨_, hexec, ?_, ?_⟩
      · rw [hu, heff]; rfl
      · refine (congrArg Rest.flags hrest).trans ?_
        rw [heff]
        rfl

/-! ## O33: LEAVE_SERVICE (R95) -/

/-- The trip record out of service (R95). -/
def leftService (t : Trip) : Trip := { tripEnter .IDLE t with plan := [], hold := .NONE, origin := none, berth := ⟨none, none⟩ }

/-- A pending group A commit is applied, and without one nothing changes (R178). -/
theorem applyPendingA_spec (s : State) :
    let u := applyPendingA s
    u.trip = s.trip ∧
    (s.mgmt.commitA.pending = true → u.active.a = s.staged.a ∧ u.mgmt.commitA = ⟨false, .OK⟩ ∧
      (u.mgmt.notices.get (noticeIndex .COMMIT_APPLIED)).pending = true) ∧
    (s.mgmt.commitA.pending = false → u = s) := by
  intro u
  by_cases h : s.mgmt.commitA.pending = true
  · have hu : u = applyGroupA s := if_pos h
    obtain ⟨hactive, hcommit, hnotice, htrip, -⟩ := applyGroupA_spec s
    rw [hu]
    exact ⟨htrip, fun _ => ⟨by rw [hactive], hcommit, hnotice⟩, fun hn => absurd (h.symm.trans hn) nofun⟩
  · have hu : u = s := if_neg h
    rw [hu]
    exact ⟨rfl, fun hp => absurd hp h, fun _ => rfl⟩

/-- Settles O33: refused elsewhere, and else the line is out of service and a pending commit applied. -/
theorem leaveServiceGoesIdle : Obligations.LeaveServiceGoesIdle := by
  intro hdr n e s hacc answered
  refine ⟨fun h1 h2 hq => request_exec_refused (ans := leaveServiceAnswer) (eff := leaveServiceEffect) hacc hq (fun _ => rfl)
    (if_neg (not_or.mpr ⟨h1, h2⟩)), fun hst => ?_⟩
  have hf : takeRequest hdr n .leaveService (heardOn hdr.port s) = leaveServiceEffect (answered .ACCEPTED) :=
    request_accepted (ans := leaveServiceAnswer) (s := heardOn hdr.port s) (if_pos hst) hdr n 10 leaveServiceEffect
  obtain ⟨u, v, l, hexec, hrest, hu⟩ := request_exec_carried (g := fun s => applyPendingA (modTrip leftService s)) hacc hf
  obtain ⟨htrip, hpending, hnone⟩ := applyPendingA_spec (modTrip leftService (answered .ACCEPTED))
  obtain ⟨t, ht⟩ : ∃ t, applyPendingA (modTrip leftService (answered .ACCEPTED)) = t := ⟨_, rfl⟩
  dsimp only at hu
  rw [ht] at htrip hpending hnone hu
  refine ⟨u, hexec, hrest.trans ?_, ?_, fun hp => ?_, fun hp => ?_⟩
  · dsimp only
    rw [applyPendingA_rest]
    rfl
  · rw [hu]
    exact htrip
  · rw [hu]
    exact hpending hp
  · rw [hu, hnone hp]
    exact ⟨rfl, rfl, rfl⟩

/-! ## O32: ENTER_SERVICE (R91, R93, R94) -/

theorem firstFailure_ne_none {cs : List Check} {c : Check} (hmem : c ∈ cs) (hc : c.1 = false) : firstFailure cs ≠ none := by
  unfold firstFailure
  rw [Ne, Option.map_eq_none_iff, List.find?_eq_none]
  exact fun h => h c hmem (by rw [hc]; rfl)

/-- The termini of the factory tables lie at one point (R3, R185). -/
theorem invalidTables_factory (own : Byte) : invalidTables Tables.factory own ≠ none := by
  have hB : invalidB Tables.factory.b Tables.factory.a own ≠ none := by
    refine firstFailure_ne_none (c := (decide (stopPoint Tables.factory.b 0 < stopPoint Tables.factory.b 1), haltRef 0)) ?_ (by decide)
    simp only [geometryChecks, List.mem_append, List.mem_cons, true_or, or_true]
  unfold invalidTables
  obtain ⟨r, hr⟩ := Option.ne_none_iff_exists'.mp hB
  rw [hr]
  exact nofun

theorem bothReferenced_iff (s : State) : bothReferenced s = true ↔ ∀ k, (s.pos.cars.get k).referenced = true := by
  unfold bothReferenced
  rw [Bool.and_eq_true]
  exact ⟨fun h k => by cases k; exacts [h.1, h.2], fun h => ⟨h .car1, h .car2⟩⟩

theorem enterServiceAnswer_idle {invalid : Bool} {s : State} (h : s.trip.state = .IDLE) : enterServiceAnswer invalid s =
    if invalid then .REFUSED .CONFIG_INVALID else if !s.pos.standstill then .REFUSED .NOT_AT_STANDSTILL
    else if anyLatch s.brake then .REFUSED .LATCH_SET else if !bothReferenced s then .REFUSED .NOT_REFERENCED else .ACCEPTED :=
  if_neg (not_not.mpr h)

/-- The berths of referenced cars, and PARKED at the termini or HELD elsewhere (R93, R91). -/
theorem berthAndStand_spec {s : State} (href : ∀ k, (s.pos.cars.get k).referenced = true) :
    let t := (berthAndStand s).trip
    t.state = (if atTermini s then .PARKED else .HELD) ∧
    (∀ k, t.berth.get k = allHalts.find? fun x => withinWindow s.active.b x (reportedPos (s.pos.cars.get k))) ∧
    (atTermini s = true → t.plan = [] ∧ t.dir =
      if t.berth.get .car1 = some 0 then .UP else if t.berth.get .car1 = some 1 then .DOWN else s.trip.dir) ∧
    (atTermini s = false → t.plan = s.trip.plan ∧ t.dir = s.trip.dir) ∧
    t.mode = s.trip.mode ∧ t.number = s.trip.number ∧ t.lineCap = s.trip.lineCap ∧ t.flags = s.trip.flags ∧ t.hold = s.trip.hold := by
  have hb : ∀ k, berthFromWindows s k = allHalts.find? fun x => withinWindow s.active.b x (reportedPos (s.pos.cars.get k)) :=
    fun k => if_pos (href k)
  have hbk : ∀ k, (⟨berthFromWindows s .car1, berthFromWindows s .car2⟩ : PerCar (Option Halt)).get k =
      allHalts.find? fun x => withinWindow s.active.b x (reportedPos (s.pos.cars.get k)) := fun k => by
    cases k
    · exact hb .car1
    · exact hb .car2
  unfold berthAndStand modTrip
  dsimp only
  by_cases h : atTermini s = true
  · rw [if_pos h, if_pos h]
    exact ⟨rfl, hbk, fun _ => ⟨rfl, rfl⟩, fun hn => absurd (h.symm.trans hn) nofun, rfl, rfl, rfl, rfl, rfl⟩
  · rw [if_neg h, if_neg h]
    exact ⟨rfl, hbk, fun hp => absurd hp h, fun _ => ⟨rfl, rfl⟩, rfl, rfl, rfl, rfl, rfl⟩

/-- Settles O32: the tests in their order, and the berths and states that the windows give. -/
theorem enterServiceParksOrHolds : Obligations.EnterServiceParksOrHolds := by
  refine ⟨invalidTables_factory, fun hdr n e s hacc => ?_⟩
  intro answered refused invalid referenced
  have no : ∀ why, enterServiceAnswer invalid.isSome (heardOn hdr.port s) = .REFUSED why → refused why := fun why h hq =>
    request_exec_refused (ans := fun s => enterServiceAnswer (invalidTables s.active s.mgmt.ownAddress).isSome s)
      (eff := enterServiceEffect) hacc hq (fun _ => rfl) h
  refine ⟨fun hst => no _ (if_pos hst), fun hst => ?_⟩
  have hans := enterServiceAnswer_idle (invalid := invalid.isSome) (s := heardOn hdr.port s) hst
  rw [show (heardOn hdr.port s).pos = s.pos from rfl, show (heardOn hdr.port s).brake = s.brake from rfl] at hans
  have href : bothReferenced (heardOn hdr.port s) = true ↔ referenced := bothReferenced_iff s
  refine ⟨fun h1 => no _ ?_, fun h1 h2 => no _ ?_, fun h1 h2 h3 => no _ ?_, fun h1 h2 h3 h4 => no _ ?_, fun h1 h2 h3 h4 => ?_⟩
  · rw [hans, if_pos (Option.isSome_iff_ne_none.mpr h1)]
  · rw [hans, h1, h2]; rfl
  · rw [hans, h1, h2, h3]; rfl
  · rw [hans, h1, h2, h3, Bool.eq_false_iff.mpr fun h => h4 (href.mp h)]; rfl
  · rw [h1, h2, h3, href.mpr h4] at hans
    have hf : takeRequest hdr n .enterService (heardOn hdr.port s) = enterServiceEffect (answered .ACCEPTED) :=
      request_accepted (ans := fun s => enterServiceAnswer (invalidTables s.active s.mgmt.ownAddress).isSome s)
        (s := heardOn hdr.port s) ((congrArg (fun i : Option ItemRef => enterServiceAnswer i.isSome (heardOn hdr.port s)) h1).trans hans)
        hdr n 9 enterServiceEffect
    obtain ⟨u, v, l, hexec, hrest, hu⟩ := request_exec_carried hacc (hf.trans (by rfl : _ = carry _ _))
    obtain ⟨cleared, hcl⟩ : ∃ c, c = modTrip (fun t => { t with hold := .NONE, plan := [] }) (answered .ACCEPTED) := ⟨_, rfl⟩
    have spec := berthAndStand_spec (s := cleared) (by rw [hcl]; exact h4)
    obtain ⟨hstate, hberth, hpark, hheld, hmode, hnumber, hcap, hflags, hhold⟩ := spec
    have hterm : atTermini cleared = atTermini s := by rw [hcl]; rfl
    rw [hterm] at hstate hpark hheld
    obtain ⟨hports, hpulses⟩ : (berthAndStand cleared).ports = cleared.ports ∧ (berthAndStand cleared).pulses = cleared.pulses := ⟨rfl, rfl⟩
    dsimp only at hrest hu
    rw [← hcl] at hrest hu
    have htrip : u.trip = (berthAndStand cleared).trip := by rw [hu]
    refine ⟨u, hexec, ?_, ?_, ?_, ?_, ?_, ?_, ?_, ?_, ?_, ?_, ?_, ?_, ?_, ?_⟩
    · rw [hrest, berthAndStand_rest, hcl]; rfl
    · rw [hu]; exact hports.trans (by rw [hcl]; rfl)
    · rw [htrip, hstate]
    · rw [htrip]
      by_cases ht : atTermini s = true
      · exact (hpark ht).1
      · exact ((hheld (Bool.not_eq_true _ ▸ ht)).1).trans (by rw [hcl]; rfl)
    · rw [htrip, hhold, hcl]; rfl
    · intro k; rw [htrip, hberth, hcl]; rfl
    · intro ht hk; rw [htrip] at hk ⊢; rw [(hpark ht).2, if_pos hk]
    · intro ht hk
      rw [htrip] at hk ⊢
      rw [(hpark ht).2, hk]
      rfl
    · intro ht; rw [htrip, (hheld ht).2, hcl]; rfl
    · rw [hu]; exact hpulses.trans (by rw [hcl]; rfl)
    · rw [htrip, hmode, hcl]; rfl
    · rw [htrip, hnumber, hcl]; rfl
    · rw [htrip, hcap, hcl]; rfl
    · rw [htrip, hflags, hcl]; rfl

/-! ## O26: calls (R80, R81) -/

/-- A call that leaves a plan is accepted (R80). -/
theorem callOutcome_accepted {s : State} {k : CarId} {x : Option Halt} {src : Source} {plan : List Stop}
    (h : (callOutcome s k x src).2 = some plan) : (callOutcome s k x src).1 = .ACCEPTED := by
  by_cases ht : takesCalls s.trip.state
  · rcases x with - | x
    · rw [callOutcome_of_no_halt ht] at h; cases h
    · rw [callOutcome_of_taken ht] at h ⊢
      revert h
      rcases planWith s ⟨k, x, src⟩ (pairDistance s k x) with - | q
      · split_ifs <;> simp
      · split_ifs <;> simp
  · rw [callOutcome_of_untaken ht] at h; cases h

section
variable {hdr : Header} {n : Byte} {o : LineAnswer × Option (List Stop)} {s h u : State} {plan : List Stop} {f : State → State}

theorem request_call_none (ho : o.2 = none) : request hdr n 1 (fun _ => o.1) (callEffect o) s = answerLine hdr n 1 o.1 s := by
  unfold request callEffect
  rw [ho]
  dsimp only
  split <;> rfl

theorem request_call_some (ho : o.2 = some plan) (ha : o.1 = .ACCEPTED) : request hdr n 1 (fun _ => o.1) (callEffect o) s =
    carry (modTrip fun t => { t with plan := plan }) (answerLine hdr n 1 o.1 s) := by
  unfold request callEffect
  rw [ho, ha]

/-- A call without effect leaves its answer in a quiet state. -/
theorem call_answered (hq : quiet h = true) (hf : f h = answerLine hdr n 1 o.1 h) : settle (react f h) = answerLine hdr n 1 o.1 h := by
  rw [settle_react_quiet hq] <;> rw [hf] <;> rfl

/-- A call that leaves a plan leaves it in the trip record, behind the answer. -/
theorem call_planned (hf : f h = carry (modTrip fun t => { t with plan := plan }) (answerLine hdr n 1 o.1 u)) :
    (settle (react f h)).rest = u.rest ∧ (react f h).trip = { u.trip with plan := plan } ∧
      (react f h).ports = (answerLine hdr n 1 o.1 u).ports := by
  obtain ⟨v, l, hu⟩ := react_carried hf
  refine ⟨?_, ?_, ?_⟩
  · rw [settle_rest, react_rest, hf, carry_rest]
    exact answerLine_rest hdr n 1 o.1 u
  · rw [hu]; rfl
  · rw [hu]; rfl

end

/-- The roles that a CALL is accepted from (R164). -/
theorem call_role {hdr : Header} {p : CallP} {e : NodeEntry} {s : State} (h : acceptedFrom s hdr (.call p) e)
    (hg : nodeRole e ≠ .GATE) : nodeRole e = .CAR_1 ∨ nodeRole e = .CAR_2 := by
  obtain ⟨-, -, -, hallow, -⟩ := h
  have hrole : roleAllows (nodeRole e) (.call p) = true := by
    unfold entryAllows at hallow
    exact (Bool.and_eq_true_iff.mp hallow).2
  simp only [roleAllows, Bool.or_eq_true, Bool.and_eq_true, beq_iff_eq] at hrole
  exact hrole.elim (fun hc => absurd hc.1 hg) And.left

/-- A gate that is heard changes nothing that a call is tested by. -/
theorem callOutcome_hearGate (g : GateId) (s : State) (k : CarId) (x : Option Halt) (src : Source) :
    callOutcome (hearGate g s) k x src = callOutcome s k x src := by
  obtain ⟨p, r, h, -⟩ := hearGate_fields g s
  rw [h]
  rfl

theorem hearGate_rest (g : GateId) (s : State) : (hearGate g s).rest = s.rest := by
  unfold hearGate
  split
  · rfl
  · exact (orderMode_rest ..).trans rfl

theorem takeCall_gate {hdr : Header} {e : NodeEntry} (he : nodeRole e = .GATE) (p : CallP) (s : State) : takeCall hdr e p s =
    let x := gateHalt s.active.a (nodeGate e)
    let o := callOutcome s (platformCar s.trip.dir p.wanted) (if p.halt.toNat = x.val then some x else none) .PLATFORM
    request hdr p.number 1 (fun _ => o.1) (callEffect o) s := by
  unfold takeCall
  rw [he]

/-- Settles O26: a call of the console, of a relay for its own car, and of a gate that is heard first. -/
theorem callsAreAnsweredForTheirCar : Obligations.CallsAreAnsweredForTheirCar := by
  refine ⟨fun hdr n k b e s hacc => ?_, fun hdr p e s hacc hrole => ?_, fun hdr p e s hacc hrole => ?_⟩
  · intro o h
    have hexec : exec (.consoleCall hdr n k b) s =
        .next (settle (react (takeRequest hdr n (.call k b)) (heardOn hdr.port s))) := running_receive hacc
    have hf : takeRequest hdr n (.call k b) (heardOn hdr.port s) =
      request hdr n 1 (fun _ => o.1) (callEffect o) (heardOn hdr.port s) := rfl
    refine ⟨fun ho hq => hexec.trans (congrArg _ (call_answered (heardOn_quiet hdr.port hq) (hf.trans (request_call_none ho)))),
      fun plan ho => ⟨_, hexec, ?_⟩⟩
    obtain ⟨hrest, htrip, hports⟩ := call_planned (hf.trans (request_call_some ho (callOutcome_accepted ho)))
    exact ⟨hrest.trans (answerLine_rest ..).symm, htrip, hports⟩
  · intro k o h
    have hexec : exec (.call hdr p) s = .next (settle (react (takeCall hdr e p) (heardOn hdr.port s))) :=
      (running_receive hacc).trans (congrArg (fun t => Host.Outcome.next (settle t)) (if_neg hrole))
    have hf : takeCall hdr e p (heardOn hdr.port s) = request hdr p.number 1 (fun _ => o.1) (callEffect o) (heardOn hdr.port s) := by
      have ho : o = callOutcome (heardOn hdr.port s) (if nodeRole e = .CAR_1 then .car1 else .car2) (haltOfByte p.halt) .CAR := rfl
      rw [ho]
      unfold takeCall
      rcases call_role hacc hrole with hr | hr <;> rw [hr] <;> rfl
    refine ⟨fun ho hq => hexec.trans (congrArg _ (call_answered (heardOn_quiet hdr.port hq) (hf.trans (request_call_none ho)))),
      fun plan ho => ⟨_, hexec, ?_⟩⟩
    obtain ⟨hrest, htrip, hports⟩ := call_planned (hf.trans (request_call_some ho (callOutcome_accepted ho)))
    exact ⟨hrest.trans (answerLine_rest ..).symm, htrip, hports⟩
  · intro g k x o h
    obtain ⟨f, hfdef⟩ : ∃ f : State → State, f = fromGate e fun _ => takeCall hdr e p := ⟨_, rfl⟩
    have hexec : exec (.call hdr p) s = .next (settle (react f (heardOn hdr.port s))) :=
      (running_receive hacc).trans (congrArg (fun t => Host.Outcome.next (settle t)) ((if_pos hrole).trans (by rw [hfdef])))
    have habsent : gatePresent s.active.a g = false → f (heardOn hdr.port s) = heardOn hdr.port s := fun hg => by
      rw [hfdef]
      exact if_neg (by rw [show gatePresent (heardOn hdr.port s).active.a (nodeGate e) = false from hg]; exact nofun)
    obtain ⟨hd, hheard⟩ : ∃ t, hearGate g (heardOn hdr.port s) = t := ⟨_, rfl⟩
    have hsame := callOutcome_hearGate g (heardOn hdr.port s)
    obtain ⟨ports, records, hfields, -⟩ := hearGate_fields g (heardOn hdr.port s)
    rw [hheard] at hfields hsame
    have hpresent : gatePresent s.active.a g = true →
        f (heardOn hdr.port s) = request hdr p.number 1 (fun _ => o.1) (callEffect o) hd := fun hg => by
      have hto : f (heardOn hdr.port s) = takeCall hdr e p hd := by
        rw [hfdef, ← hheard]
        exact if_pos hg
      have ho : callOutcome hd (platformCar hd.trip.dir p.wanted)
          (if p.halt.toNat = (gateHalt hd.active.a (nodeGate e)).val then some (gateHalt hd.active.a (nodeGate e)) else none) .PLATFORM =
            o := by
        have hk : platformCar hd.trip.dir p.wanted = k := by
          rw [show hd.trip = s.trip by rw [hfields]; rfl]
          change _ = (match s.trip.dir, p.wanted with
            | .UP, .UPHILL => CarId.car1
            | .DOWN, .UPHILL => .car2
            | .UP, _ => .car2
            | .DOWN, _ => .car1)
          cases s.trip.dir <;> cases p.wanted <;> rfl
        rw [hk, hsame, show hd.active = s.active by rw [hfields]; rfl]
        rfl
      rw [hto, takeCall_gate hrole]
      dsimp only
      rw [ho]
    refine ⟨fun hg hq => ?_, fun hg ho hq => ?_, fun hg plan ho => ⟨_, hexec, ?_⟩⟩
    · rw [hexec, settle_react_quiet (heardOn_quiet hdr.port hq)] <;> rw [habsent hg]
    · have hto : f (heardOn hdr.port s) = answerLine hdr p.number 1 o.1 hd := (hpresent hg).trans (request_call_none ho)
      rw [hexec, settle_react_quiet (heardOn_quiet hdr.port hq)] <;> rw [hto]
      · change _ = Host.Outcome.next (answerLine hdr p.number 1 o.1 (hearGate g (heardOn hdr.port s)))
        rw [hheard]
      all_goals
        rw [hfields]
        rfl
    · obtain ⟨hrest, htrip, hports⟩ := call_planned ((hpresent hg).trans (request_call_some ho (callOutcome_accepted ho)))
      refine ⟨?_, ?_, ?_⟩
      · rw [hrest, ← hheard, hearGate_rest]
      · rw [htrip, hfields]; rfl
      · rw [hports, ← hheard]

end Sys2Proof.Machine
end

section
/-!
PROOFS. The stop plan: what joining, inserting and the termini stop make of it (O25, R77 to R79).
-/

namespace Sys2Proof.Machine

/-! ## A pair joins or is inserted (R78) -/

theorem joinable_iff (s : State) (k : CarId) (d : Int) (st : Stop) : joinable s k d st = true ↔
    st.second = none ∧ st.first.car ≠ k ∧ ∃ y, stopDistance s st = some y ∧ (y - d).natAbs ≤ 50 := by
  unfold joinable
  cases stopDistance s st <;> simp [and_assoc]

theorem atOrBefore_iff (s : State) (d : Int) (st : Stop) : atOrBefore s d st = true ↔ ∃ y, stopDistance s st = some y ∧ y ≤ d := by
  unfold atOrBefore
  cases stopDistance s st <;> simp

theorem modifyFirst_append {α : Type} {p : α → Bool} {f : α → α} {x : α} {front back : List α} (hfront : ∀ y ∈ front, ¬ p y = true)
    (hx : p x = true) : modifyFirst p f (front ++ x :: back) = front ++ f x :: back := by
  induction front with
  | nil => exact if_pos hx
  | cons y ys ih =>
    refine (if_neg (hfront y (List.mem_cons_self ..))).trans ?_
    exact congrArg (y :: ·) (ih fun z hz => hfront z (List.mem_cons_of_mem _ hz))

theorem insertAfterAll_append {α : Type} {p : α → Bool} {x : α} {front back : List α}
    (hfront : ∀ y, front.getLast? = some y → p y = true) (hback : ∀ y ∈ back, ¬ p y = true) :
    insertAfterAll p x (front ++ back) = front ++ x :: back := by
  induction front with
  | nil =>
    rcases back with - | ⟨y, ys⟩
    · rfl
    · exact if_neg fun h => by
        obtain ⟨z, hz, hp⟩ := List.any_eq_true.mp h
        exact hback z hz hp
  | cons y ys ih =>
    have hlast : p ((y :: ys).getLast (List.cons_ne_nil y ys)) = true := hfront _ (List.getLast?_eq_getLast_of_ne_nil _)
    have hany : (y :: (ys ++ back)).any p = true :=
      List.any_eq_true.mpr ⟨_, List.mem_append_left back (List.getLast_mem (List.cons_ne_nil y ys)), hlast⟩
    refine (if_pos hany).trans ?_
    exact congrArg (y :: ·) (ih fun z hz => hfront z (by rw [List.getLast?_cons, hz]; rfl))

/-! ## The termini stop (R79) -/

/-- To take pairs out in two steps, each followed by the stops left without pairs, is to take them out in one. -/
theorem filter_filter_stops (a b : StopPair → Bool) (l : List (List StopPair)) :
    (((l.map fun ps => ps.filter a).filter fun ps => ps ≠ []).map fun ps => ps.filter b).filter (fun ps => ps ≠ []) =
      (l.map fun ps => ps.filter fun p => a p && b p).filter fun ps => ps ≠ [] := by
  have hab : ∀ ps : List StopPair, (ps.filter fun p => a p && b p) = (ps.filter a).filter b := fun ps => by
    rw [List.filter_filter]
    exact List.filter_congr fun p _ => Bool.and_comm ..
  induction l with
  | nil => rfl
  | cons ps l ih =>
    simp only [List.map_cons, hab]
    by_cases h : ps.filter a = []
    · rw [h]
      simpa [hab] using ih
    · simp only [List.filter_cons, h, ne_eq, not_false_eq_true, decide_true, if_true, List.map_cons]
      split
      · exact congrArg _ (by simpa [hab] using ih)
      · simpa [hab] using ih

/-- The plan that the termini stop of a direction is placed behind: without its pairs (R79). -/
def withoutTermini (d : Dir) (plan : List Stop) : List Stop :=
  match d with
  | .UP => planWithout .car2 0 (planWithout .car1 1 plan)
  | .DOWN => planWithout .car2 1 (planWithout .car1 0 plan)

theorem withoutTermini_map_stopPairs (d : Dir) (plan : List Stop) : (withoutTermini d plan).map stopPairs =
    (plan.map fun st => (stopPairs st).filter fun p => (p.car, p.halt) ∉ planPairs [terminiStop d]).filter fun ps => ps ≠ [] := by
  rw [show (plan.map fun st => (stopPairs st).filter fun p => (p.car, p.halt) ∉ planPairs [terminiStop d]) =
    (plan.map stopPairs).map fun ps => ps.filter fun p => (p.car, p.halt) ∉ planPairs [terminiStop d] from (List.map_map ..).symm]
  cases d
  all_goals
    refine (planWithout_map_stopPairs ..).trans ?_
    rw [planWithout_map_stopPairs, filter_filter_stops]
    refine congrArg (fun f : StopPair → Bool => ((plan.map stopPairs).map fun ps => ps.filter f).filter fun ps => ps ≠ []) ?_
    funext p
    simp [planPairs, terminiStop, stopPairs, beq_eq_decide]

theorem placeTermini_eq {d : Dir} {plan : List Stop} (h : plan.any isTermini = false) : placeTermini d plan =
    (if 9 ≤ (withoutTermini d plan).length then (withoutTermini d plan).take 8 else withoutTermini d plan) ++ [terminiStop d] := by
  unfold placeTermini
  rw [if_neg (by rw [h]; exact nofun)]
  cases d <;> rfl

/-- Settles O25: the plan of a pair by the first stop that it joins or its place, and that of the termini stop by its room. -/
theorem planTakesPairsAndTheTerminiStop : Obligations.PlanTakesPairsAndTheTerminiStop := by
  refine ⟨fun s p d => ?_, fun dir plan => ?_⟩
  · intro plan joins behind
    have hjoin : ∀ x, joinable s p.car d x = true ↔ joins x := joinable_iff s p.car d
    have hbehind : ∀ x, atOrBefore s d x = true ↔ behind x := atOrBefore_iff s d
    refine ⟨fun front x back (hplan : s.trip.plan = _) hfront hx => ?_, fun hno => ?_⟩
    · have hany : s.trip.plan.any (joinable s p.car d) = true :=
        List.any_eq_true.mpr ⟨x, by rw [hplan]; exact List.mem_append_right _ (List.mem_cons_self ..), (hjoin x).mpr hx⟩
      refine (if_pos hany).trans (congrArg some ?_)
      rw [hplan]
      exact modifyFirst_append (fun y hy h => hfront y hy ((hjoin y).mp h)) ((hjoin x).mpr hx)
    · have hany : ¬ s.trip.plan.any (joinable s p.car d) = true := fun h => by
        obtain ⟨x, hx, hj⟩ := List.any_eq_true.mp h
        exact hno x hx ((hjoin x).mp hj)
      refine ⟨fun hfull => (if_neg hany).trans (if_pos hfull), fun hroom front back hsplit hfront hback => ?_⟩
      refine (if_neg hany).trans ((if_neg (Nat.not_le.mpr hroom)).trans (congrArg some ?_))
      rw [show s.trip.plan.filter (fun st => !isTermini st) = front ++ back from hsplit,
        insertAfterAll_append (fun x hx => (hbehind x).mpr (hfront x hx)) fun x hx h => hback x hx ((hbehind x).mp h)]
  · intro pairs placed cleared
    have hcleared : (withoutTermini dir plan).map stopPairs = cleared := withoutTermini_map_stopPairs dir plan
    have hlength : (withoutTermini dir plan).length = cleared.length := by rw [← hcleared, List.length_map]
    refine ⟨?_, fun h => if_pos h, fun h => ?_, fun hplan => ?_⟩
    · cases dir <;> rfl
    · have hplaced := placeTermini_eq (d := dir) h
      refine ⟨?_, fun hroom => ?_, fun hfull => ?_⟩
      · rw [show placed = _ from hplaced, List.getLast?_concat]
      · rw [show placed = _ from hplaced, List.dropLast_concat, if_neg (by omega), hcleared]
      · rw [show placed = _ from hplaced, List.dropLast_concat, if_pos (by omega), List.map_take, hcleared]
    · by_cases h : plan.any isTermini = true
      · rwa [show placed = plan from if_pos h]
      · rw [show placed = _ from placeTermini_eq (d := dir) (Bool.not_eq_true _ ▸ h), List.length_append]
        split
        · rw [List.length_take, List.length_singleton]; omega
        · rw [List.length_singleton]; omega

end Sys2Proof.Machine
end

section
/-!
PROOFS. Departures (O30): the conditions of R86 as the model tests them, the entry to READY and DEPARTING, and when the test of
auto-dispatch is made.
-/

namespace Sys2Proof.Machine

/-! ## The departure conditions (R86) -/

theorem forall_car {p : CarId → Prop} : (∀ k, p k) ↔ p .car1 ∧ p .car2 :=
  ⟨fun h => ⟨h .car1, h .car2⟩, fun h k => by cases k; exacts [h.1, h.2]⟩

theorem exists_car {p : CarId → Prop} : (∃ k, p k) ↔ p .car1 ∨ p .car2 :=
  ⟨fun ⟨k, h⟩ => by cases k; exacts [.inl h, .inr h], fun h => h.elim (fun h => ⟨_, h⟩) fun h => ⟨_, h⟩⟩

theorem forall_side {p : Side → Prop} : (∀ sd, p sd) ↔ p .LEFT ∧ p .RIGHT :=
  ⟨fun h => ⟨h .LEFT, h .RIGHT⟩, fun h k => by cases k; exacts [h.1, h.2]⟩

theorem sideLocked_iff (d : SideDoors) : sideLocked d = true ↔ ∀ c, (d.doors.get c).state = .LOCKED := by
  unfold sideLocked
  rw [List.all_eq_true]
  simp only [Vector.mem_toList_iff, Vector.mem_iff_getElem, beq_iff_eq]
  exact ⟨fun h c => h _ ⟨c.val, c.isLt, rfl⟩, fun h x ⟨i, hi, hx⟩ => hx ▸ h ⟨i, hi⟩⟩

theorem allLocked_iff (s : State) : allLocked s = true ↔
    ∀ k sd c, (((s.doors.get k).sides.get sd).doors.get c).state = .LOCKED := by
  unfold allLocked carLocked
  simp only [Bool.and_eq_true, sideLocked_iff, forall_car, forall_side]
  rfl

theorem carsAt_nonempty_iff (s : State) (q : Halt) : (!(carsAt s q).isEmpty) = true ↔ ∃ k, s.trip.berth.get k = some q := by
  rw [exists_car, Bool.not_eq_true', ← Bool.not_eq_true, List.isEmpty_iff]
  unfold carsAt State.berth
  rw [List.filter_eq_nil_iff]
  simp only [List.mem_cons, List.not_mem_nil, or_false, forall_eq_or_imp, forall_eq, beq_iff_eq, not_and_or, not_not]

theorem mem_allHalts : ∀ q : Halt, q ∈ allHalts := by decide

theorem berthedHalts_all_iff (s : State) (f : Halt → Bool) :
    (berthedHalts s).all f = true ↔ ∀ k h, s.trip.berth.get k = some h → f h = true := by
  unfold berthedHalts
  simp only [List.all_eq_true, List.mem_filter, carsAt_nonempty_iff]
  exact ⟨fun h k q hk => h q ⟨mem_allHalts q, k, hk⟩, fun h q ⟨_, k, hk⟩ => h k q hk⟩

theorem anyLatch_false_iff (b : Supervisor) : anyLatch b = false ↔ b.latchS = none ∧ b.latchE = none ∧ b.latchR = none := by
  simp [anyLatch, and_assoc]

theorem dinLevel_closed_iff (s : State) (i : Fin 8) : dinLevel s i = .CLOSED ↔ (s.dins.get i).filtered = some .CLOSED := by
  unfold dinLevel
  rcases (s.dins.get i).filtered with - | l
  · simp
  · cases l <;> simp

theorem dinLevel_open_iff (s : State) (i : Fin 8) : dinLevel s i = .OPEN ↔ (s.dins.get i).filtered ≠ some .CLOSED := by
  rw [Ne, ← dinLevel_closed_iff]
  cases dinLevel s i <;> simp

/-- The model's test of the departure conditions is R86. -/
theorem departureReady_iff (s : State) : departureReady s = true ↔ departureAble s s.trip.plan := by
  unfold departureReady departureAble
  have hqueue : (!(s.gates.queue.any fun v => v.state == .WAIT_PASS)) = true ↔ ∀ v ∈ s.gates.queue, v.state ≠ .WAIT_PASS := by
    simp
  have hplan : (!s.trip.plan.isEmpty) = true ↔ s.trip.plan ≠ [] := by simp
  simp only [Bool.and_eq_true, allLocked_iff, hqueue, berthedHalts_all_iff, Bool.not_eq_true', anyLatch_false_iff, Bool.or_eq_true,
    bothReferenced_iff, beq_iff_eq, hplan, dinLevel_closed_iff, and_assoc]
  rcases s.trip.lastDrive with - | d <;> simp [outputSet, bitEntryOpen]

/-! ## READY and DEPARTING (R85 to R87) -/

/-- The trip record of a departure in READY (R86). -/
def readyTrip (o : Origin) (plan : List Stop) (s : State) : Trip := { s.trip with
  state := .READY
  plan := plan
  hold := .NONE
  origin := some o
  virtualStop := none
  readyTimer := some (s.params.readyTimeout.toNat * 1000)
  torqueTimer := none }

/-- The entry to READY, and at once to DEPARTING where its conditions hold (R86, R87). -/
theorem enterReady_departs {o : Origin} {plan : List Stop} {s a : State}
    (ha : a = { s with trip := { s.trip with plan := plan, hold := .NONE } }) :
    departs o plan s (enterReady o a) ∧ (enterReady o a).ports = s.ports := by
  have hready : departureReady { s with trip := readyTrip o plan s } = true ↔ departureAble s plan := departureReady_iff _
  have henter : enterReady o a = if departureReady { s with trip := readyTrip o plan s } then
      enterDeparting { s with trip := readyTrip o plan s } else { s with trip := readyTrip o plan s } := by
    rw [ha]; rfl
  rw [henter]
  by_cases h : departureAble s plan
  · rw [if_pos (hready.mpr h)]
    exact ⟨⟨fun hn => absurd h hn, fun _ => ⟨rfl, rfl⟩⟩, rfl⟩
  · rw [if_neg fun hc => h (hready.mp hc)]
    exact ⟨⟨fun _ => ⟨rfl, rfl⟩, fun hc => absurd hc h⟩, rfl⟩

/-- A departure depends on the trip record and the pulses it leads to alone. -/
theorem departs_congr {o : Origin} {plan : List Stop} {s t u : State} (htrip : u.trip = t.trip) (hpulses : u.pulses = t.pulses)
    (h : departs o plan s t) : departs o plan s u := by
  unfold departs at h ⊢
  rwa [htrip, hpulses]

theorem carry_departs {o : Origin} {plan : List Stop} {f : State → State} {s : State}
    (h : departs o plan s (f s) ∧ (f s).ports = s.ports) : departs o plan s (carry f s) ∧ (carry f s).ports = s.ports := by
  obtain ⟨v, l, hc⟩ := carry_fields f s
  rw [hc]
  exact ⟨departs_congr rfl rfl h.1, h.2⟩

section
variable {s : State}

theorem startDispatch_parked (h : s.trip.state = .PARKED) (hh : s.trip.hold = .NONE) :
    departs .PARKED (placeTermini s.trip.dir s.trip.plan) s (startDispatch s) ∧ (startDispatch s).ports = s.ports := by
  have hs : startDispatch s = enterReady .PARKED (modTrip (fun t => { t with plan := placeTermini t.dir t.plan }) s) := if_pos h
  rw [hs]
  refine enterReady_departs ?_
  rw [← hh]
  rfl

theorem startDispatch_atStop (h : s.trip.state = .AT_STOP) (hh : s.trip.hold = .NONE) :
    departs .AT_STOP s.trip.plan s (startDispatch s) ∧ (startDispatch s).ports = s.ports := by
  have hs : startDispatch s = enterReady .AT_STOP s := if_neg (by rw [h]; exact nofun)
  rw [hs]
  refine enterReady_departs ?_
  rw [← hh]

theorem dispatchAnswer_accepted_iff (s : State) : dispatchAnswer s = .ACCEPTED ↔
    (s.trip.state = .PARKED ∨ (s.trip.state = .AT_STOP ∧ s.trip.plan ≠ [])) ∧ ¬ (s.trip.mode = .CREEP ∧ dinLevel s 1 = .OPEN) ∧
      s.trip.hold = .NONE := by
  unfold dispatchAnswer
  simp only [keyBars_iff]
  split_ifs <;> grind

/-- The departure that RESUME starts, before it is announced (R85). -/
def resumeStart (s : State) : State :=
  enterReady (if s.trip.state = .PARKED then .PARKED else if s.trip.state = .AT_STOP then .AT_STOP else .HELD)
    (modTrip (fun t => { t with
      hold := .NONE
      plan := if t.state = .PARKED ∨ t.plan = [] then placeTermini t.dir t.plan else t.plan }) s)

theorem resumeStart_departs (s : State) :
    departs (if s.trip.state = .PARKED then .PARKED else if s.trip.state = .AT_STOP then .AT_STOP else .HELD)
      (if s.trip.state = .PARKED ∨ s.trip.plan = [] then placeTermini s.trip.dir s.trip.plan else s.trip.plan) s (resumeStart s) ∧
    (resumeStart s).ports = s.ports :=
  enterReady_departs rfl

end

/-! ## The test of auto-dispatch (R85) -/

theorem testAuto_departs {s : State} (h : dispatchAnswer s = .ACCEPTED)
    (hall : ∀ k h, s.trip.berth.get k = some h → (s.seqs.get h).published.getLsbD 3 = true) :
    testAuto s = carry startDispatch s :=
  if_pos ⟨h, (berthedHalts_all_iff ..).mpr hall⟩

theorem testAuto_idle {s : State} (h : ¬ (dispatchAnswer s = .ACCEPTED ∧
    ∀ k h, s.trip.berth.get k = some h → (s.seqs.get h).published.getLsbD 3 = true)) : testAuto s = s :=
  if_neg fun hc => h ⟨hc.1, (berthedHalts_all_iff ..).mp hc.2⟩

theorem tellTrip_eq {ch : Byte} (h0 : ch.getLsbD 0 = false) (q : Halt) (s : State) :
    tellTrip q ch s = if ch.getLsbD 3 && !(carsAt s q).isEmpty then testAuto s else s := by
  unfold tellTrip
  rw [show ch.getLsbD bitEntryOpen = false from h0]
  rfl

theorem tellTrip_told {q : Halt} {ch : Byte} {s : State} (h0 : ch.getLsbD 0 = false) (h3 : ch.getLsbD 3 = true)
    (hk : ∃ k, s.trip.berth.get k = some q) : tellTrip q ch s = testAuto s :=
  (tellTrip_eq h0 q s).trans (if_pos (Bool.and_eq_true_iff.mpr ⟨h3, (carsAt_nonempty_iff s q).mpr hk⟩))

theorem tellTrip_untold {q : Halt} {ch : Byte} {s : State} (h0 : ch.getLsbD 0 = false)
    (h : ch.getLsbD 3 = false ∨ ∀ k, s.trip.berth.get k ≠ some q) : tellTrip q ch s = s := by
  refine (tellTrip_eq h0 q s).trans (if_neg ?_)
  rw [Bool.and_eq_true, carsAt_nonempty_iff]
  rintro ⟨h3, k, hk⟩
  exact h.elim (fun hn => absurd (h3.symm.trans hn) nofun) fun hn => hn k hk

/-! ## When the test is made (R85) -/

theorem PerCar.ext_get {α : Type} {a b : PerCar α} (h1 : a.get .car1 = b.get .car1) (h2 : a.get .car2 = b.get .car2) : a = b := by
  cases a
  cases b
  exact congrArg₂ PerCar.mk h1 h2

theorem autoMoment_iff (a b : Trip) : autoMoment a b = true ↔
    (∃ k, a.berth.get k ≠ b.berth.get k) ∨ a.plan ≠ b.plan ∨ (a.hold ≠ .NONE ∧ b.hold = .NONE) ∨
      ((b.state = .PARKED ∨ b.state = .AT_STOP) ∧ (a.state = .RUNNING ∨ a.state = .TRIPPED)) := by
  have hberth : a.berth ≠ b.berth ↔ ∃ k, a.berth.get k ≠ b.berth.get k := by
    rw [exists_car, ← not_and_or]
    refine not_congr ⟨fun h => by rw [h]; exact ⟨rfl, rfl⟩, fun h => ?_⟩
    exact PerCar.ext_get h.1 h.2
  unfold autoMoment
  simp only [Bool.or_eq_true, Bool.and_eq_true, bne_iff_ne, beq_iff_eq, hberth, or_assoc]

theorem announceTrip_auto (a b : State) :
    .tripAuto ∈ (announceTrip a b).agenda ↔ .tripAuto ∈ b.agenda ∨ autoMoment a.trip b.trip = true := by
  have hmem : ∀ (c : Bool) (x : Ann) (u : State),
      .tripAuto ∈ (announceIf c x u).agenda ↔ .tripAuto ∈ u.agenda ∨ (c = true ∧ x = .tripAuto) := by
    intro c x u
    rw [announceIf_eq]
    cases c <;> simp [eq_comm]
  unfold announceTrip
  simp only [hmem, reduceCtorEq, and_false, or_false, and_true]
  split <;> rfl

/-! ## O30: the requests and the test -/

section
variable {hdr : Header} {n : Byte} {e : NodeEntry} {s : State}

/-- The state of a request's answer. -/
abbrev acceptedAnswer (hdr : Header) (n kind : Byte) (s : State) : State := answerLine hdr n kind .ACCEPTED (heardOn hdr.port s)

/-- A request leads to a departure from `o` toward `plan`, behind its answer. -/
def requestDeparts (hdr : Header) (n : Byte) (r : LineReq) (kind : Byte) (o : Origin) (plan : List Stop) (s : State) : Prop :=
  ∃ u, running (receivePayload hdr (.lineRequest n r)) s = .next (settle u) ∧
    (settle u).rest = { (acceptedAnswer hdr n kind s).rest with hold := .NONE } ∧
    u.ports = (acceptedAnswer hdr n kind s).ports ∧ departs o plan s u

theorem requestDeparts_of_carried {r : LineReq} {kind : Byte} {o : Origin} {plan : List Stop} {g : State → State}
    (hacc : acceptedFrom s hdr (.lineRequest n r) e)
    (hf : takeRequest hdr n r (heardOn hdr.port s) = carry g (acceptedAnswer hdr n kind s))
    (hg : (g (acceptedAnswer hdr n kind s)).rest = { (acceptedAnswer hdr n kind s).rest with hold := .NONE })
    (hd : departs o plan (acceptedAnswer hdr n kind s) (g (acceptedAnswer hdr n kind s)) ∧
      (g (acceptedAnswer hdr n kind s)).ports = (acceptedAnswer hdr n kind s).ports) : requestDeparts hdr n r kind o plan s := by
  obtain ⟨u, v, l, hexec, hrest, hu⟩ := request_exec_carried hacc hf
  refine ⟨u, hexec, hrest.trans hg, ?_, ?_⟩
  · rw [hu]; exact hd.2
  · exact departs_congr (by rw [hu]) (by rw [hu]) hd.1

theorem dispatch_departs {o : Origin} {plan : List Stop} (hacc : acceptedFrom s hdr (.lineRequest n .dispatch) e)
    (hans : dispatchAnswer s = .ACCEPTED)
    (hd : departs o plan (acceptedAnswer hdr n 0 s) (startDispatch (acceptedAnswer hdr n 0 s)) ∧
      (startDispatch (acceptedAnswer hdr n 0 s)).ports = (acceptedAnswer hdr n 0 s).ports) :
    requestDeparts hdr n .dispatch 0 o plan s := by
  refine requestDeparts_of_carried hacc (request_accepted (s := heardOn hdr.port s) hans hdr n 0 dispatchEffect) ?_ hd
  have hhold : s.trip.hold = .NONE := ((dispatchAnswer_accepted_iff s).mp hans).2.2
  rw [startDispatch_rest, ← hhold]
  rfl

theorem resume_departs (hacc : acceptedFrom s hdr (.lineRequest n .resume) e) (hans : resumeAnswer s = .ACCEPTED) :
    requestDeparts hdr n .resume 5
      (if s.trip.state = .PARKED then .PARKED else if s.trip.state = .AT_STOP then .AT_STOP else .HELD)
      (if s.trip.state = .PARKED ∨ s.trip.plan = [] then placeTermini s.trip.dir s.trip.plan else s.trip.plan) s := by
  refine requestDeparts_of_carried (g := resumeStart) hacc
    (request_accepted (s := heardOn hdr.port s) hans hdr n 5 resumeEffect) ?_ (resumeStart_departs _)
  unfold resumeStart
  rw [enterReady_rest]
  rfl

theorem resumeAnswer_accepted (hst : s.trip.state = .PARKED ∨ s.trip.state = .AT_STOP ∨ s.trip.state = .HELD)
    (hkey : ¬ (s.trip.mode = .CREEP ∧ dinLevel s 1 = .OPEN)) : resumeAnswer s = .ACCEPTED :=
  (if_neg (not_not.mpr hst)).trans (if_neg fun hk => hkey ((keyBars_iff s).mp hk))

end

/-- The test of auto-dispatch, by the state and what bars it (R85). -/
theorem testAuto_spec (s : State) :
    let all : Prop := ∀ k h, s.trip.berth.get k = some h → (s.seqs.get h).published.getLsbD 3 = true
    let barred : Prop := (s.trip.mode = .CREEP ∧ (s.dins.get 1).filtered ≠ some .CLOSED) ∨ s.trip.hold ≠ .NONE ∨ ¬ all
    (s.trip.state = .PARKED → ¬ barred → departs .PARKED (placeTermini s.trip.dir s.trip.plan) s (testAuto s) ∧
      (testAuto s).ports = s.ports) ∧
    (s.trip.state = .AT_STOP → s.trip.plan ≠ [] → ¬ barred → departs .AT_STOP s.trip.plan s (testAuto s) ∧
      (testAuto s).ports = s.ports) ∧
    (barred ∨ (s.trip.state = .AT_STOP ∧ s.trip.plan = []) ∨ (s.trip.state ≠ .PARKED ∧ s.trip.state ≠ .AT_STOP) → testAuto s = s) := by
  intro all barred
  have hfree : ¬ barred → ¬ (s.trip.mode = .CREEP ∧ dinLevel s 1 = .OPEN) ∧ s.trip.hold = .NONE ∧ all := fun h => by
    simp only [dinLevel_open_iff]
    simpa only [barred, not_or, not_not] using h
  have htold : (s.trip.state = .PARKED ∨ (s.trip.state = .AT_STOP ∧ s.trip.plan ≠ [])) → ¬ barred → testAuto s = carry startDispatch s :=
    fun hst hb => testAuto_departs ((dispatchAnswer_accepted_iff s).mpr ⟨hst, (hfree hb).1, (hfree hb).2.1⟩) (hfree hb).2.2
  refine ⟨fun hst hb => ?_, fun hst hplan hb => ?_, fun h => testAuto_idle fun hc => ?_⟩
  · rw [htold (.inl hst) hb]
    exact carry_departs (startDispatch_parked hst (hfree hb).2.1)
  · rw [htold (.inr ⟨hst, hplan⟩) hb]
    exact carry_departs (startDispatch_atStop hst (hfree hb).2.1)
  · obtain ⟨hans, hall⟩ := hc
    obtain ⟨hst, hkey, hhold⟩ := (dispatchAnswer_accepted_iff s).mp hans
    rw [dinLevel_open_iff] at hkey
    rcases h with (hb | hb | hb) | ⟨hstop, hp⟩ | ⟨h1, h2⟩
    · exact hkey hb
    · exact hb hhold
    · exact hb hall
    · exact hst.elim (fun h => absurd (hstop.symm.trans h) nofun) fun h => h.2 hp
    · exact hst.elim h1 fun h => h2 h.1

/-- Settles O30: the accepted requests, the test of auto-dispatch, and its occasions. -/
theorem departureRequestsLeadToReady : Obligations.DepartureRequestsLeadToReady := by
  refine ⟨fun hdr n e s hkey => ?_, fun s => ?_, fun a b => ?_⟩
  · intro st accepted goes
    refine ⟨fun hacc hhold => ⟨fun hst => ?_, fun hst hplan => ?_⟩, fun hacc => ⟨fun hst => ?_, fun hst => ?_⟩⟩
    · exact dispatch_departs hacc ((dispatchAnswer_accepted_iff s).mpr ⟨.inl hst, hkey, hhold⟩)
        (startDispatch_parked (s := accepted 0) hst hhold)
    · exact dispatch_departs hacc ((dispatchAnswer_accepted_iff s).mpr ⟨.inr ⟨hst, hplan⟩, hkey, hhold⟩)
        (startDispatch_atStop (s := accepted 0) hst hhold)
    · have := resume_departs hacc (resumeAnswer_accepted (.inl hst) hkey)
      rwa [if_pos hst, if_pos (.inl hst)] at this
    · have hd := resume_departs hacc (resumeAnswer_accepted (.inr hst) hkey)
      have hno : s.trip.state ≠ .PARKED := fun hp => hst.elim (fun h => absurd (hp.symm.trans h) nofun) fun h =>
        absurd (hp.symm.trans h) nofun
      have ho : (if s.trip.state = .PARKED then Origin.PARKED else if s.trip.state = .AT_STOP then .AT_STOP else .HELD) =
          if st = .HELD then .HELD else .AT_STOP := by
        rcases hst with h | h
        · rw [h, show s.trip.state = _ from h]; rfl
        · rw [h, show s.trip.state = _ from h]; rfl
      rw [ho] at hd
      simp only [hno, false_or] at hd
      exact hd
  · intro st t all barred
    obtain ⟨hparked, hstop, hidle⟩ := testAuto_spec s
    exact ⟨hparked, hstop, hidle, fun q ch h0 => ⟨fun h => tellTrip_told h0 h.1 h.2, tellTrip_untold h0⟩⟩
  · intro moment
    rw [announceTrip_auto, autoMoment_iff]

end Sys2Proof.Machine
end

section
/-!
PROOFS. LINE_STATUS (O34): the bytes of its payload, one field at a time, and the status timer (R97, R98, R191).
-/

namespace Sys2Proof.Machine

/-! ## The payload as numbers -/

theorem berthByte_eq (b : Option Halt) : berthByte b = natBytes 1 ((b.map fun h => h.val).getD 0xFF) := by
  rcases b with - | h <;> rfl

/-- The second byte of LINE_STATUS: line state, mode, direction, what is referenced and the hold request (R191). -/
def statusFlags (s : State) : Nat :=
  flagBit 0 s.inService + flagBit 1 (s.trip.mode == .CREEP) + flagBit 2 (s.trip.dir == .DOWN) +
    flagBit 3 (s.car .car1).referenced + flagBit 4 (s.car .car2).referenced + 32 * holdCode s.trip.hold

/-- The byte of the stage and the latches (R191). -/
def statusStage (s : State) : Nat :=
  stageRank s.brake.commanded + flagBit 4 s.brake.latchS.isSome + flagBit 5 s.brake.latchE.isSome + flagBit 6 s.brake.latchR.isSome

/-- The number of a reported position in its field of 3 bytes (R190). -/
def statusPlace (s : State) (k : CarId) : Nat :=
  (max (-8388608) (min (reportedPos (s.car k)) 8388607) % 16777216).toNat

theorem statusBytes_eq (s : State) : statusBytes s =
    natBytes 1 (tripCode s.trip.state) ++ natBytes 1 (statusFlags s) ++ natBytes 2 s.trip.number.toNat ++
    natBytes 3 (statusPlace s .car1) ++ natBytes 3 (statusPlace s .car2) ++
    natBytes 1 ((s.trip.berth.one.map fun h => h.val).getD 0xFF) ++ natBytes 1 ((s.trip.berth.two.map fun h => h.val).getD 0xFF) ++
    natBytes 1 (headNibble s .car1 + 16 * headNibble s .car2) ++ natBytes 1 s.trip.plan.length ++
    natBytes 2 (s.pos.measured % 65536).toNat ++ natBytes 2 (permittedCode s) ++ natBytes 1 (statusStage s) ++
    natBytes 1 (doorSummary s.doors.one + 16 * doorSummary s.doors.two) ++
    allHalts.flatMap fun h => natBytes 2 (boardingSummary s h) := by
  rw [← berthByte_eq, ← berthByte_eq]
  rfl

theorem natBytes_one (x : Nat) : natBytes 1 x = [BitVec.ofNat 8 x] := rfl

theorem natBytes_two (x : Nat) : natBytes 2 x = [BitVec.ofNat 8 (x / 256), BitVec.ofNat 8 x] := rfl

theorem natBytes_three (x : Nat) : natBytes 3 x = [BitVec.ofNat 8 (x / 256 / 256), BitVec.ofNat 8 (x / 256), BitVec.ofNat 8 x] := rfl

/-- The bytes of LINE_STATUS, one by one, behind each of its numbers (R191). -/
theorem statusBytes_get (s : State) :
    let byte (i : Nat) : Byte := (statusBytes s).getD i 0
    let one (i x : Nat) : Prop := byte i = .ofNat 8 x
    let two (i x : Nat) : Prop := byte i = .ofNat 8 (x / 256) ∧ byte (i + 1) = .ofNat 8 x
    let three (i x : Nat) : Prop := byte i = .ofNat 8 (x / 256 / 256) ∧ byte (i + 1) = .ofNat 8 (x / 256) ∧ byte (i + 2) = .ofNat 8 x
    (statusBytes s).length = 32 ∧ one 0 (tripCode s.trip.state) ∧ one 1 (statusFlags s) ∧ two 2 s.trip.number.toNat ∧
    three 4 (statusPlace s .car1) ∧ three 7 (statusPlace s .car2) ∧ one 10 ((s.trip.berth.one.map fun h => h.val).getD 0xFF) ∧
    one 11 ((s.trip.berth.two.map fun h => h.val).getD 0xFF) ∧ one 12 (headNibble s .car1 + 16 * headNibble s .car2) ∧
    one 13 s.trip.plan.length ∧ two 14 (s.pos.measured % 65536).toNat ∧ two 16 (permittedCode s) ∧ one 18 (statusStage s) ∧
    one 19 (doorSummary s.doors.one + 16 * doorSummary s.doors.two) ∧ ∀ x : Halt, two (20 + 2 * x.val) (boardingSummary s x) := by
  rw [statusBytes_eq]
  simp only [natBytes_one, natBytes_two, natBytes_three, allHalts, List.flatMap_cons, List.flatMap_nil, List.cons_append, List.nil_append]
  refine ⟨rfl, rfl, rfl, ⟨rfl, rfl⟩, ⟨rfl, rfl, rfl⟩, ⟨rfl, rfl, rfl⟩, rfl, rfl, rfl, rfl, ⟨rfl, rfl⟩, ⟨rfl, rfl⟩, rfl, rfl, fun x => ?_⟩
  fin_cases x <;> exact ⟨rfl, rfl⟩

/-! ## The fields -/

theorem two_bytes (x : Nat) : (BitVec.ofNat 8 (x / 256)).toNat * 256 + (BitVec.ofNat 8 x).toNat = x % 65536 := by
  rw [BitVec.toNat_ofNat, BitVec.toNat_ofNat]
  omega

theorem three_bytes (x : Nat) : (BitVec.ofNat 8 (x / 256 / 256)).toNat * 65536 +
    ((BitVec.ofNat 8 (x / 256)).toNat * 256 + (BitVec.ofNat 8 x).toNat) = x % 16777216 := by
  rw [BitVec.toNat_ofNat, BitVec.toNat_ofNat, BitVec.toNat_ofNat]
  omega

/-- The flags of the second byte, as its bits. -/
theorem flags_bits (a b c d e : Bool) (h : HoldRequest) :
    let x : Byte := .ofNat 8 (flagBit 0 a + flagBit 1 b + flagBit 2 c + flagBit 3 d + flagBit 4 e + 32 * holdCode h)
    x.getLsbD 0 = a ∧ x.getLsbD 1 = b ∧ x.getLsbD 2 = c ∧ x.getLsbD 3 = d ∧ x.getLsbD 4 = e ∧
      [HoldRequest.NONE, .SOFT, .HARD][x.toNat / 32]? = some h := by
  cases h
  all_goals revert a b c d e; decide

/-- The stage and the latches, as the bits of their byte. -/
theorem stage_bits (x : Stage) (a b c : Bool) :
    let y : Byte := .ofNat 8 (stageRank x + flagBit 4 a + flagBit 5 b + flagBit 6 c)
    y.toNat % 16 = stageRank x ∧ y.getLsbD 4 = a ∧ y.getLsbD 5 = b ∧ y.getLsbD 6 = c ∧ y.getLsbD 7 = false := by
  cases x
  all_goals revert a b c; decide

theorem tripCode_lt (st : TripState) : tripCode st < 9 := by cases st <;> decide

theorem tripCode_get (st : TripState) :
    [TripState.IDLE, .PARKED, .READY, .DEPARTING, .RUNNING, .AT_STOP, .STOPPING, .HELD, .TRIPPED][tripCode st]? = some st := by
  cases st <;> rfl

theorem position_field (x : Int) :
    (BitVec.ofNat 24 ((max (-8388608) (min x 8388607) % 16777216).toNat % 16777216)).toInt = max (-8388608) (min 8388607 x) := by
  rw [BitVec.toInt_eq_toNat_bmod, BitVec.toNat_ofNat, Int.bmod_def]
  omega

theorem measured_field {x : Int} (h1 : -32768 ≤ x) (h2 : x ≤ 32767) :
    (BitVec.ofNat 16 ((x % 65536).toNat % 65536)).toInt = x := by
  rw [BitVec.toInt_eq_toNat_bmod, BitVec.toNat_ofNat, Int.bmod_def]
  omega

theorem headNibble_eq (s : State) (k : CarId) : headNibble s k =
    ((((s.trip.plan.head?.map stopPairs).getD []).find? fun p => decide (p.car = k)).map fun p => p.halt.val).getD 0xF := by
  unfold headNibble
  rcases s.trip.plan with - | ⟨st, rest⟩
  · rfl
  · simp only [List.head?_cons, Option.map_some, Option.getD_some, beq_eq_decide]
    cases (stopPairs st).find? fun p => decide (p.car = k) <;> rfl

theorem headNibble_lt (s : State) (k : CarId) : headNibble s k < 16 := by
  rw [headNibble_eq]
  generalize (((s.trip.plan.head?.map stopPairs).getD []).find? fun p => decide (p.car = k)) = o
  rcases o with - | p
  · decide
  · exact Nat.lt_trans p.halt.isLt (by decide)

theorem mem_doorStates_iff (d : CarDoors) (x : DoorState) :
    x ∈ doorStates d ↔ ∃ sd c, ((d.sides.get sd).doors.get c).state = x := by
  have hside : ∀ v : SideDoors, x ∈ v.doors.toList.map DoorRecord.state ↔ ∃ c, (v.doors.get c).state = x := fun v => by
    simp only [List.mem_map, Vector.mem_toList_iff, Vector.mem_iff_getElem]
    exact ⟨fun ⟨_, ⟨i, hi, hr⟩, hx⟩ => ⟨⟨i, hi⟩, (congrArg DoorRecord.state hr).trans hx⟩, fun ⟨c, hc⟩ => ⟨_, ⟨c.val, c.isLt, rfl⟩, hc⟩⟩
  unfold doorStates
  rw [List.mem_append, hside, hside]
  exact ⟨fun h => h.elim (fun h => ⟨.LEFT, h⟩) fun h => ⟨.RIGHT, h⟩, fun ⟨sd, h⟩ => by cases sd; exacts [.inl h, .inr h]⟩

/-- The summary of a car's doors: FAULT before UNKNOWN before a door that is not LOCKED (R98). -/
theorem doorSummary_spec (d : CarDoors) :
    let has (x : DoorState) : Prop := ∃ sd c, ((d.sides.get sd).doors.get c).state = x
    (has .FAULT → doorSummary d = 3) ∧ (¬ has .FAULT → has .UNKNOWN → doorSummary d = 2) ∧
    (¬ has .FAULT → ¬ has .UNKNOWN → has .RELEASED ∨ has .OPEN ∨ has .CLOSING → doorSummary d = 1) ∧
    ((∀ sd c, ((d.sides.get sd).doors.get c).state = .LOCKED) → doorSummary d = 0) := by
  intro has
  have hmem : ∀ x, (doorStates d).contains x = true ↔ has x := fun x => List.contains_iff_mem.trans (mem_doorStates_iff d x)
  have hall : ((doorStates d).all fun x => x == .LOCKED) = true ↔ ∀ sd c, ((d.sides.get sd).doors.get c).state = .LOCKED := by
    simp only [List.all_eq_true, beq_iff_eq, mem_doorStates_iff]
    exact ⟨fun h sd c => h _ ⟨sd, c, rfl⟩, fun h x ⟨sd, c, hx⟩ => hx ▸ h sd c⟩
  have no : ∀ x, ¬ has x → ¬ (doorStates d).contains x = true := fun x => mt (hmem x).mp
  refine ⟨fun h => if_pos ((hmem _).mpr h), fun h1 h2 => (if_neg (no _ h1)).trans (if_pos ((hmem _).mpr h2)),
    fun h1 h2 h3 => (if_neg (no _ h1)).trans ((if_neg (no _ h2)).trans (if_neg fun hl => ?_)),
    fun h => (if_neg (no _ ?_)).trans ((if_neg (no _ ?_)).trans (if_pos (hall.mpr h)))⟩
  · rw [hall] at hl
    rcases h3 with ⟨sd, c, hx⟩ | ⟨sd, c, hx⟩ | ⟨sd, c, hx⟩
    all_goals exact absurd ((hl sd c).symm.trans hx) nofun
  · exact fun ⟨sd, c, hx⟩ => absurd ((h sd c).symm.trans hx) nofun
  · exact fun ⟨sd, c, hx⟩ => absurd ((h sd c).symm.trans hx) nofun

theorem doorSummary_lt (d : CarDoors) : doorSummary d < 4 := by
  unfold doorSummary
  dsimp only
  split_ifs <;> decide

theorem boardingSummary_none {s : State} {x : Halt} (h : s.gates.windows.get x = none) : boardingSummary s x = 0xFFFF := by
  unfold boardingSummary
  rw [h]

theorem boardingSummary_some {s : State} {x : Halt} {w : Window} (h : s.gates.windows.get x = some w) :
    boardingSummary s x = (if w.isOpen then 32768 else 0) + (w.capacity - w.base - w.admitted - w.reserved) % 1024 := by
  unfold boardingSummary
  rw [h]
  rfl

theorem boardingSummary_lt (s : State) (x : Halt) : boardingSummary s x < 65536 := by
  rcases h : s.gates.windows.get x with - | w
  · rw [boardingSummary_none h]; decide
  · rw [boardingSummary_some h]
    split <;> omega

/-! ## O34: the status timer and unknown requests (R97, R98) -/

theorem statusTimerExpires_stopped {s : State} (h : s.trip.statusTimer = none) : statusTimerExpires s = s :=
  if_pos (by rw [h]; rfl)

theorem statusTimerExpires_running {s : State} (h : s.trip.statusTimer ≠ none) : statusTimerExpires s =
    sendNormal .CONSOLE (.lineStatus (statusBytes s)) { s with trip := { s.trip with statusTimer := some 100 } } :=
  if_neg (by rwa [Option.isNone_iff_eq_none])

/-- Settles O34: the refusal, the bytes of the status, and the frame it goes out in. -/
theorem unknownRequestsAndStatusAreAnswered : Obligations.UnknownRequestsAndStatusAreAnswered := by
  refine ⟨fun hdr n kind e s hacc hq => request_exec_refused (ans := fun _ => .REFUSED .UNKNOWN_REQUEST) (eff := fun s => s) hacc hq
    (fun _ => rfl) rfl, fun s hr => ?_⟩
  intro t bytes byte at_ two place position halted headed has doors
  obtain ⟨hlen, h0, h1, ⟨h2, h3⟩, ⟨h4, h5, h6⟩, ⟨h7, h8, h9⟩, h10, h11, h12, h13, ⟨h14, h15⟩, ⟨h16, h17⟩, h18, h19, hwin⟩ :=
    statusBytes_get s
  have one : ∀ i x, (statusBytes s).getD i 0 = BitVec.ofNat 8 x → x < 256 → at_ i = x := fun i x h hx =>
    (congrArg BitVec.toNat h).trans ((BitVec.toNat_ofNat ..).trans (Nat.mod_eq_of_lt hx))
  have pair : ∀ i x, (statusBytes s).getD i 0 = BitVec.ofNat 8 (x / 256) → (statusBytes s).getD (i + 1) 0 = BitVec.ofNat 8 x →
      two i = x % 65536 := fun i x h h' =>
    (congrArg₂ (fun a b : Byte => a.toNat * 256 + b.toNat) h h').trans (two_bytes x)
  have place_eq : ∀ i k, (statusBytes s).getD i 0 = BitVec.ofNat 8 (statusPlace s k / 256 / 256) →
      (statusBytes s).getD (i + 1) 0 = BitVec.ofNat 8 (statusPlace s k / 256) →
      (statusBytes s).getD (i + 2) 0 = BitVec.ofNat 8 (statusPlace s k) → position i = max (-8388608) (min 8388607 (place k)) :=
    fun i k ha hb hc => by
      have hn : at_ i * 65536 + two (i + 1) = statusPlace s k % 16777216 := by
        refine Eq.trans ?_ (three_bytes _)
        change at_ i * 65536 + (at_ (i + 1) * 256 + at_ (i + 1 + 1)) = _
        rw [show at_ i = _ from congrArg BitVec.toNat ha, show at_ (i + 1) = _ from congrArg BitVec.toNat hb,
          show at_ (i + 1 + 1) = _ from congrArg BitVec.toNat hc]
      change (BitVec.ofNat 24 (at_ i * 65536 + two (i + 1))).toInt = _
      rw [hn]
      exact position_field _
  obtain ⟨b0, b1, b2, b3, b4, bhold⟩ := flags_bits s.inService (s.trip.mode == .CREEP) (s.trip.dir == .DOWN)
    (s.car .car1).referenced (s.car .car2).referenced s.trip.hold
  obtain ⟨cstage, c4, c5, c6, c7⟩ := stage_bits s.brake.commanded s.brake.latchS.isSome s.brake.latchE.isSome s.brake.latchR.isSome
  have hflags : byte 1 = BitVec.ofNat 8 (flagBit 0 s.inService + flagBit 1 (s.trip.mode == .CREEP) + flagBit 2 (s.trip.dir == .DOWN) +
    flagBit 3 (s.car .car1).referenced + flagBit 4 (s.car .car2).referenced + 32 * holdCode s.trip.hold) := h1
  have hstage : byte 18 = BitVec.ofNat 8 (stageRank s.brake.commanded + flagBit 4 s.brake.latchS.isSome +
    flagBit 5 s.brake.latchE.isSome + flagBit 6 s.brake.latchR.isSome) := h18
  rw [← hflags] at b0 b1 b2 b3 b4 bhold
  rw [← hstage] at cstage c4 c5 c6 c7
  have berth_eq : ∀ i b, (statusBytes s).getD i 0 = BitVec.ofNat 8 ((Option.map (fun h : Halt => h.val) b).getD 0xFF) →
      at_ i = halted b := fun i b h => by
    refine (one i _ h ?_).trans ?_
    · rcases b with - | x
      · decide
      · exact Nat.lt_trans x.isLt (by decide)
    · rcases b with - | x <;> rfl
  have headed_eq : ∀ k, headNibble s k = headed k := fun k => by
    rw [headNibble_eq]
    simp only [headed]
    split
    next p hp => rw [hp]; rfl
    next hp => rw [hp]; rfl
  have hd1 := doorSummary_lt s.doors.one
  have hd2 := doorSummary_lt s.doors.two
  have hn1 := headNibble_lt s .car1
  have hn2 := headNibble_lt s .car2
  have hdoors : at_ 19 = doorSummary s.doors.one + 16 * doorSummary s.doors.two := one 19 _ h19 (by omega)
  refine ⟨hlen, ?_, ?_, ?_, ?_, b3, b4, bhold, ?_, place_eq 4 .car1 h4 h5 h6, place_eq 7 .car2 h7 h8 h9, berth_eq 10 _ h10,
    berth_eq 11 _ h11, ?_, fun hp => one 13 _ h13 (by omega), fun hlo hhi => ?_, ?_, cstage, ?_, ?_, ?_, c7, ?_, ?_, fun x => ?_,
    fun h => ?_, fun h hno => ?_, fun h e he => ?_⟩
  · have hlt := tripCode_lt s.trip.state
    rw [one 0 _ h0 (by omega)]
    exact tripCode_get _
  · rw [b0]; exact inService_iff s
  · rw [b1, beq_iff_eq]
  · rw [b2, beq_iff_eq]
  · rw [pair 2 _ h2 h3]
    exact Nat.mod_eq_of_lt s.trip.number.isLt
  · rw [one 12 _ h12 (by omega), headed_eq, headed_eq]
  · rw [pair 14 _ h14 h15]
    exact measured_field hlo hhi
  · rw [pair 16 _ h16 h17, show permittedCode s = min 0xFFE (1 + s.speed.vPerm / 5) from rfl]
    omega
  · rw [c4, Option.isSome_iff_ne_none]
  · rw [c5, Option.isSome_iff_ne_none]
  · rw [c6, Option.isSome_iff_ne_none]
  · rw [hdoors, show (doorSummary s.doors.one + 16 * doorSummary s.doors.two) % 16 = doorSummary s.doors.one by omega]
    exact doorSummary_spec s.doors.one
  · rw [hdoors, show (doorSummary s.doors.one + 16 * doorSummary s.doors.two) / 16 = doorSummary s.doors.two by omega]
    exact doorSummary_spec s.doors.two
  · intro n
    have hn : n = boardingSummary s x := (pair _ _ (hwin x).1 (hwin x).2).trans (Nat.mod_eq_of_lt (boardingSummary_lt s x))
    rw [hn]
    refine ⟨boardingSummary_none, fun w hw => ?_⟩
    rw [boardingSummary_some hw]
    intro budget
    change (32768 ≤ _ + budget % 1024 ↔ _) ∧ (_ → (_ + budget % 1024) % 32768 = budget)
    cases w.isOpen
    · simp only [Bool.false_eq_true, if_false, iff_false]
      omega
    · simp only [if_true, iff_true]
      omega
  · exact (plainly_eq hr).trans (congrArg _ (statusTimerExpires_stopped h))
  · refine (plainly_eq hr).trans (congrArg _ ((statusTimerExpires_running h).trans ?_))
    unfold sendNormal
    rw [show firstRole _ .CONSOLE = none from hno]
  · refine (plainly_eq hr).trans (congrArg _ ((statusTimerExpires_running h).trans ?_))
    unfold sendNormal
    rw [show firstRole _ .CONSOLE = some e from he]
    rfl

end Sys2Proof.Machine
end

section
/-!
PROOFS. The door unit (R101 to R115): compartment sets place by place, what an evaluation makes of a side, what building an order leaves,
and then the door timers (O39) and the door reports and the interlock (O38).
-/

namespace Sys2Proof.Machine

/-! ## Compartment sets, place by place -/

@[simp] theorem compartmentsWhere_get (p : Fin 4 → Bool) (c : Fin 4) : (compartmentsWhere p).getLsbD c.val = p c := by
  have each : ∀ (a b d e : Bool) (c : Fin 4), (compartmentsWhere fun c => [a, b, d, e].getD c.val false).getLsbD c.val =
      [a, b, d, e].getD c.val false := by decide
  have hp : p = fun c => [p 0, p 1, p 2, p 3].getD c.val false := by
    funext c
    fin_cases c <;> rfl
  rw [hp]
  exact each ..

@[simp] theorem setMinus_get (x y : Compartments) (c : Fin 4) :
    (setMinus x y).getLsbD c.val = (x.getLsbD c.val && !y.getLsbD c.val) := by
  unfold setMinus
  rw [BitVec.getLsbD_and, BitVec.getLsbD_not, decide_eq_true c.isLt, Bool.true_and]

theorem compartments_ext {x y : Compartments} (h : ∀ c : Fin 4, x.getLsbD c.val = y.getLsbD c.val) : x = y :=
  BitVec.eq_of_getLsbD_eq fun i hi => h ⟨i, hi⟩

theorem compartments_eq_zero_iff (x : Compartments) : x = 0#4 ↔ ∀ c : Fin 4, x.getLsbD c.val = false :=
  ⟨fun h c => by rw [h]; exact BitVec.getLsbD_zero, fun h => compartments_ext fun c => by rw [h, BitVec.getLsbD_zero]⟩

/-- A table whose places that satisfy `p` are set to a value that does not satisfy it. -/
theorem foldl_vset_where {α : Type} {n : Nat} (p : Fin n → α → Bool) (x : α) (hx : ∀ i, p i x = false) (l : List (Fin n)) (v : Vector α n)
    (i : Fin n) : (l.foldl (fun v j => if p j (v.get j) then vset v j x else v) v).get i =
      if i ∈ l ∧ p i (v.get i) = true then x else v.get i := by
  induction l generalizing v with
  | nil => simp
  | cons j l ih =>
    rw [List.foldl_cons, ih]
    by_cases hij : i = j
    · subst hij
      by_cases hp : p i (v.get i) = true
      · simp [hp, hx]
      · simp [hp]
    · have hget : (if p j (v.get j) = true then vset v j x else v).get i = v.get i := by
        split
        · exact vset_get_ne _ _ hij
        · rfl
      rw [hget]
      simp [hij]

theorem doorUnlocked_iff (r : DoorRecord) : doorUnlocked r = true ↔ r.state = .RELEASED ∨ r.state = .OPEN := by
  simp [doorUnlocked]

/-! ## What an evaluation makes of a side (R105, R106) -/

section
variable (ms : Nat) (perm w : Compartments) (d : SideDoors) (c : Fin 4)

theorem closeDoors_get : (closeDoors ms w d).doors.get c =
    if w.getLsbD c.val = true ∧ doorUnlocked (d.doors.get c) = true then ⟨.CLOSING, some ms⟩ else d.doors.get c := by
  have hmem : c ∈ all4 := by revert c; decide
  refine (foldl_vset_where (fun c r => setHas w c && doorUnlocked r) ⟨.CLOSING, some ms⟩ ?_ all4 d.doors c).trans ?_
  · exact fun i => Bool.and_false _
  · simp only [hmem, true_and, Bool.and_eq_true]
    rfl

theorem withdrawSet_get : (withdrawSet perm d).getLsbD c.val =
    (!windowRunning d && !perm.getLsbD c.val && (doorUnlocked (d.doors.get c) || d.released.getLsbD c.val)) := by
  unfold withdrawSet
  cases windowRunning d
  · rw [if_neg nofun, compartmentsWhere_get, Bool.not_false, Bool.true_and]
    rfl
  · rw [if_pos rfl, BitVec.getLsbD_zero]
    rfl

/-- Nothing inside the permitted set is withdrawn. -/
theorem withdrawSet_get_of_inside (h : perm.getLsbD c.val = true) : (withdrawSet perm d).getLsbD c.val = false := by
  rw [withdrawSet_get, h, Bool.not_true, Bool.and_false, Bool.false_and]

theorem evaluatedSide_doors : (evaluatedSide ms perm d).doors.get c =
    if (withdrawSet perm d).getLsbD c.val = true ∧ doorUnlocked (d.doors.get c) = true then ⟨.CLOSING, some ms⟩ else d.doors.get c :=
  closeDoors_get ms (withdrawSet perm d) { d with released := setMinus d.released (withdrawSet perm d) } c

theorem evaluatedSide_outstanding : (evaluatedSide ms perm d).outstanding = d.outstanding := rfl

theorem evaluatedRelease_get : (evaluatedRelease ms perm d).getLsbD c.val =
    (!d.outstanding.isSome && perm.getLsbD c.val && ((d.doors.get c).state == .LOCKED) && !d.released.getLsbD c.val) := by
  unfold evaluatedRelease releaseSet
  dsimp only
  rw [show (closeDoors ms (withdrawSet perm d) { d with released := setMinus d.released (withdrawSet perm d) }).outstanding =
    d.outstanding from rfl]
  cases d.outstanding.isSome
  · rw [if_neg nofun, compartmentsWhere_get]
    unfold setHas
    by_cases hp : perm.getLsbD c.val = true
    · rw [closeDoors_get, withdrawSet_get_of_inside perm d c hp, if_neg fun h => nomatch h.1, hp]
      rw [show (closeDoors ms (withdrawSet perm d) { d with released := setMinus d.released (withdrawSet perm d) }).released =
        setMinus d.released (withdrawSet perm d) from rfl, setMinus_get, withdrawSet_get_of_inside perm d c hp]
      simp only [Bool.not_false, Bool.and_true, Bool.true_and, hp]
    · rw [Bool.not_eq_true] at hp
      simp only [hp, Bool.false_and, Bool.and_false]
  · rw [if_pos rfl, BitVec.getLsbD_zero]
    rfl

theorem evaluatedSide_released : (evaluatedSide ms perm d).released.getLsbD c.val =
    ((d.released.getLsbD c.val && !(withdrawSet perm d).getLsbD c.val) || (evaluatedRelease ms perm d).getLsbD c.val ||
      (!d.outstanding.isSome && perm.getLsbD c.val && doorUnlocked (d.doors.get c))) := by
  have hadopt : (adoptSet perm (closeDoors ms (withdrawSet perm d) { d with released := setMinus d.released (withdrawSet perm d) })).getLsbD
      c.val = (!d.outstanding.isSome && perm.getLsbD c.val && doorUnlocked (d.doors.get c)) := by
    unfold adoptSet
    rw [show (closeDoors ms (withdrawSet perm d) { d with released := setMinus d.released (withdrawSet perm d) }).outstanding =
      d.outstanding from rfl]
    cases d.outstanding.isSome
    · rw [if_neg nofun, compartmentsWhere_get]
      unfold setHas
      by_cases hp : perm.getLsbD c.val = true
      · rw [closeDoors_get, withdrawSet_get_of_inside perm d c hp, if_neg fun h => nomatch h.1, hp]
        rfl
      · rw [Bool.not_eq_true] at hp
        simp only [hp, Bool.false_and, Bool.and_false]
    · rw [if_pos rfl, BitVec.getLsbD_zero]
      rfl
  unfold evaluatedSide
  dsimp only
  rw [BitVec.getLsbD_or, BitVec.getLsbD_or, hadopt]
  rw [show (closeDoors ms (withdrawSet perm d) { d with released := setMinus d.released (withdrawSet perm d) }).released =
    setMinus d.released (withdrawSet perm d) from rfl, setMinus_get]
  rfl

end

/-! ## What building an order leaves (R107) -/

theorem mem_withUrgent (x : OutFrame) (p : Port) : x ∈ (p.withUrgent x).urgent := by
  have replaced : ∀ l : List OutFrame, l.any (sameKey x) = true → x ∈ replaceFirst (sameKey x) x l := by
    intro l
    induction l with
    | nil => exact nofun
    | cons y l ih =>
      intro h
      unfold replaceFirst
      split
      · exact List.mem_cons_self
      next hn => exact List.mem_cons_of_mem _ (ih (by simpa [hn] using h))
  unfold Port.withUrgent
  split
  next h => exact replaced _ h
  next => exact List.mem_append_right _ (List.mem_singleton_self x)

/-- The order that an order of car `k` becomes in its place of the queue (R107). -/
def builtOrder (d : CarDoors) (rl wl rr wr : Compartments) : DoorOrder := mergeOrder d.queued ⟨d.token + 1#8, rl, wl, rr, wr⟩

theorem builtOrder_token (d : CarDoors) (rl wl rr wr : Compartments) : (builtOrder d rl wl rr wr).token = d.token + 1#8 := by
  unfold builtOrder mergeOrder
  split <;> rfl

theorem buildDoorOrder_doors (k : CarId) (rl wl rr wr : Compartments) (s : State) :
    let d := s.doors.get k
    let o := builtOrder d rl wl rr wr
    let t := buildDoorOrder k rl wl rr wr s
    t.doors.get (otherCar k) = s.doors.get (otherCar k) ∧
    t.doors.get k = { d with
      token := d.token + 1#8
      sides := ⟨outstandingAfter d.queued o.token o.releaseLeft d.sides.left, outstandingAfter d.queued o.token o.releaseRight d.sides.right⟩
      queued := (firstRole s.active.b (carRole k)).elim d.queued fun _ => some o } ∧
    ∀ e, firstRole s.active.b (carRole k) = some e →
      ⟨e.address, s.mgmt.ownAddress, some (carRole k), .doorOrder k o⟩ ∈ t.ports.f.urgent := by
  intro d o t
  obtain ⟨w, hw⟩ := giveWithdrawn_frame k o (placeDoorOrder k o (modDoors k (fun d => { d with
    token := o.token
    sides := ⟨outstandingAfter d.queued o.token o.releaseLeft d.sides.left,
      outstandingAfter d.queued o.token o.releaseRight d.sides.right⟩ }) s))
  have ht : t = _ := hw
  rw [ht, ← builtOrder_token d rl wl rr wr]
  dsimp only
  unfold placeDoorOrder
  rw [show (modDoors k _ s).active = s.active from rfl]
  rcases firstRole s.active.b (carRole k) with - | e
  · dsimp only
    refine ⟨PerCar.get_set_ne _ _ (otherCar_ne k), PerCar.get_set_self .., nofun⟩
  · dsimp only
    refine ⟨?_, ?_, fun e' he => ?_⟩
    · exact (PerCar.get_set_ne _ _ (otherCar_ne k)).trans (PerCar.get_set_ne _ _ (otherCar_ne k))
    · refine (PerCar.get_set_self ..).trans ?_
      exact congrArg (fun x : CarDoors => { x with queued := some o }) (PerCar.get_set_self s.doors k _)
    · cases he
      exact mem_withUrgent _ s.ports.f

/-- The outstanding release of a side after an order; doors and released set stay. -/
theorem outstandingAfter_kept (q : Option DoorOrder) (n : Byte) (r : Compartments) (d : SideDoors) :
    (outstandingAfter q n r d).doors = d.doors ∧ (outstandingAfter q n r d).released = d.released := by
  unfold outstandingAfter
  split
  · split <;> exact ⟨rfl, rfl⟩
  · split <;> exact ⟨rfl, rfl⟩

theorem outstandingAfter_none {q : Option DoorOrder} {n : Byte} {r : Compartments} {d : SideDoors} (h : d.outstanding = none) :
    (outstandingAfter q n r d).outstanding = if r = 0#4 then none else some ⟨n, none⟩ := by
  unfold outstandingAfter
  rw [h]
  dsimp only
  split
  · exact h
  · rfl

theorem outstandingAfter_some {q : Option DoorOrder} {n : Byte} {r : Compartments} {d : SideDoors} {a : Outstanding}
    (h : d.outstanding = some a) : (outstandingAfter q n r d).outstanding =
      if q.map DoorOrder.token = some a.token then some { a with token := n } else some a := by
  unfold outstandingAfter
  rw [h]
  dsimp only
  split
  · rfl
  · exact h

/-- A side whose outstanding release has not begun. -/
def notBegun (d : SideDoors) : Prop := ∀ o, d.outstanding = some o → o.window = none

theorem outstandingAfter_notBegun {q : Option DoorOrder} {n : Byte} {r : Compartments} {d : SideDoors} (h : notBegun d) :
    notBegun (outstandingAfter q n r d) := by
  intro o ho
  rcases hd : d.outstanding with - | a
  · rw [outstandingAfter_none hd] at ho
    split at ho
    · cases ho
    · cases ho; rfl
  · rw [outstandingAfter_some hd] at ho
    have ha := h a hd
    split at ho
    · cases ho; exact ha
    · cases ho; exact ha

/-! ## What an evaluation leaves (R104 to R107) -/

/-- The side `sd` of car `k`. -/
abbrev sideOf (s : State) (k : CarId) (sd : Side) : SideDoors := (s.doors.get k).sides.get sd

/-- What an evaluation withdraws on a side (R105). -/
def withdrawn (s : State) (k : CarId) (sd : Side) : Compartments := withdrawSet (permittedSet s k sd) (sideOf s k sd)

/-- What an evaluation releases on a side (R106). -/
def releasing (s : State) (k : CarId) (sd : Side) : Compartments :=
  evaluatedRelease (doorCloseMs s) (permittedSet s k sd) (sideOf s k sd)

/-- The side that an evaluation leaves, before its order. -/
def sideEvaluated (s : State) (k : CarId) (sd : Side) : SideDoors :=
  evaluatedSide (doorCloseMs s) (permittedSet s k sd) (sideOf s k sd)

/-- Whether an evaluation finds something to order (R107). -/
def orderFound (s : State) (k : CarId) : Prop :=
  ¬ (releasing s k .LEFT = 0#4 ∧ withdrawn s k .LEFT = 0#4 ∧ releasing s k .RIGHT = 0#4 ∧ withdrawn s k .RIGHT = 0#4)

/-- The order of an evaluation. -/
def evaluatedOrder (s : State) (k : CarId) : DoorOrder :=
  builtOrder (s.doors.get k) (releasing s k .LEFT) (withdrawn s k .LEFT) (releasing s k .RIGHT) (withdrawn s k .RIGHT)

/-- The release set of a side in an order. -/
def DoorOrder.release (o : DoorOrder) (sd : Side) : Compartments :=
  match sd with
  | .LEFT => o.releaseLeft
  | .RIGHT => o.releaseRight

theorem evaluateDoors_none {k : CarId} {s : State} (h : ¬ orderFound s k) : evaluateDoors k s =
    modDoors k (fun d => { d with sides := ⟨sideEvaluated s k .LEFT, sideEvaluated s k .RIGHT⟩ }) s :=
  if_pos (not_not.mp h)

theorem evaluateDoors_found {k : CarId} {s : State} (h : orderFound s k) : evaluateDoors k s =
    buildDoorOrder k (releasing s k .LEFT) (withdrawn s k .LEFT) (releasing s k .RIGHT) (withdrawn s k .RIGHT)
      (modDoors k (fun d => { d with sides := ⟨sideEvaluated s k .LEFT, sideEvaluated s k .RIGHT⟩ }) s) :=
  if_neg h

/-- An evaluation: the records and the released set of each side, and the order of what it finds (R104 to R107). -/
theorem evaluateDoors_spec (k : CarId) (s : State) :
    let t := evaluateDoors k s
    let o := evaluatedOrder s k
    t.doors.get (otherCar k) = s.doors.get (otherCar k) ∧
    (∀ sd, (sideOf t k sd).doors = (sideEvaluated s k sd).doors ∧ (sideOf t k sd).released = (sideEvaluated s k sd).released) ∧
    (¬ orderFound s k → (t.doors.get k).token = (s.doors.get k).token ∧ (t.doors.get k).queued = (s.doors.get k).queued ∧
      t.ports = s.ports ∧ ∀ sd, (sideOf t k sd).outstanding = (sideOf s k sd).outstanding) ∧
    (orderFound s k → (t.doors.get k).token = (s.doors.get k).token + 1#8 ∧
      (t.doors.get k).queued = (firstRole s.active.b (carRole k)).elim (s.doors.get k).queued (fun _ => some o) ∧
      (∀ e, firstRole s.active.b (carRole k) = some e →
        ⟨e.address, s.mgmt.ownAddress, some (carRole k), .doorOrder k o⟩ ∈ t.ports.f.urgent) ∧
      ∀ sd, (sideOf t k sd).outstanding =
        (outstandingAfter (s.doors.get k).queued o.token (o.release sd) (sideEvaluated s k sd)).outstanding) := by
  intro t o
  by_cases h : orderFound s k
  · have ht : t = _ := evaluateDoors_found h
    obtain ⟨hother, hcar, hframe⟩ := buildDoorOrder_doors k (releasing s k .LEFT) (withdrawn s k .LEFT) (releasing s k .RIGHT)
      (withdrawn s k .RIGHT) (modDoors k (fun d => { d with sides := ⟨sideEvaluated s k .LEFT, sideEvaluated s k .RIGHT⟩ }) s)
    rw [← ht] at hother hcar hframe
    have hd : (modDoors k (fun d => { d with sides := ⟨sideEvaluated s k .LEFT, sideEvaluated s k .RIGHT⟩ }) s).doors.get k =
        { s.doors.get k with sides := ⟨sideEvaluated s k .LEFT, sideEvaluated s k .RIGHT⟩ } := PerCar.get_set_self ..
    rw [hd] at hcar hframe
    refine ⟨hother.trans (PerCar.get_set_ne _ _ (otherCar_ne k)), fun sd => ?_, fun hn => absurd h hn, fun _ => ⟨?_, ?_, hframe, fun sd => ?_⟩⟩
    · unfold sideOf
      rw [hcar]
      cases sd
      · exact outstandingAfter_kept ..
      · exact outstandingAfter_kept ..
    · rw [hcar]
    · rw [hcar]; rfl
    · unfold sideOf
      rw [hcar]
      cases sd <;> rfl
  · have ht : t = _ := evaluateDoors_none h
    have hcar : t.doors.get k = { s.doors.get k with sides := ⟨sideEvaluated s k .LEFT, sideEvaluated s k .RIGHT⟩ } := by
      rw [ht]; exact PerCar.get_set_self ..
    refine ⟨?_, fun sd => ?_, fun _ => ⟨by rw [hcar], by rw [hcar], by rw [ht]; rfl, fun sd => ?_⟩, fun hn => absurd hn h⟩
    · rw [ht]; exact PerCar.get_set_ne _ _ (otherCar_ne k)
    · unfold sideOf
      rw [hcar]
      cases sd <;> exact ⟨rfl, rfl⟩
    · unfold sideOf
      rw [hcar]
      cases sd <;> rfl

/-- An evaluation leaves everything but doors, queues and pulses. -/
theorem evaluateDoors_notBegun {k : CarId} {s : State} {sd : Side} (h : notBegun (sideOf s k sd)) : notBegun (sideOf (evaluateDoors k s) k sd) := by
  obtain ⟨-, -, hnone, hfound⟩ := evaluateDoors_spec k s
  intro o ho
  by_cases hf : orderFound s k
  · rw [(hfound hf).2.2.2 sd] at ho
    exact outstandingAfter_notBegun (d := sideEvaluated s k sd) h o ho
  · rw [(hnone hf).2.2.2 sd] at ho
    exact h o ho

end Sys2Proof.Machine
end

section
/-!
PROOFS. Door timers, door reports and the release interlock (O38, O39, R102 to R112), from what an evaluation and an order leave.
-/

namespace Sys2Proof.Machine

/-! ## Support: notices, and what the permitted sets are read from -/

theorem occur_urgent (n : Notice) (s : State) : (occur n s).ports.f.urgent = s.ports.f.urgent := by
  have placed : ∀ (q : PortId) (x : OutFrame) (t : State), (placeNormal q x t).ports.f.urgent = t.ports.f.urgent := fun q x t => by
    cases q
    · rfl
    · exact withNormal_urgent ..
  unfold occur sendNormal
  dsimp only
  split
  · split
    · rfl
    · exact placed ..
  · rfl

theorem occurTimes_frame (x : Notice) (n : Nat) (s : State) : ∃ p m, occurTimes x n s = { s with ports := p, mgmt := m } := by
  induction n generalizing s with
  | zero => exact ⟨_, _, rfl⟩
  | succ n ih =>
    obtain ⟨p, m, h⟩ := ih (occur x s)
    obtain ⟨p', m', h'⟩ := occur_frame x s
    unfold occurTimes
    rw [h, h']
    exact ⟨_, _, rfl⟩

/-- A notice that occurs at least once is pending. -/
theorem occurTimes_pending (x : Notice) {n : Nat} (hn : 0 < n) (s : State) :
    ((occurTimes x n s).mgmt.notices.get (noticeIndex x)).pending = true := by
  have kept : ∀ (n : Nat) (s : State), (s.mgmt.notices.get (noticeIndex x)).pending = true →
      ((occurTimes x n s).mgmt.notices.get (noticeIndex x)).pending = true := by
    intro n
    induction n with
    | zero => exact fun _ h => h
    | succ n ih => exact fun s _ => ih (occur x s) (occur_pending x s)
  obtain ⟨n, rfl⟩ := Nat.exists_eq_succ_of_ne_zero hn.ne'
  exact kept n _ (occur_pending x s)

theorem occurTimes_rest (x : Notice) (n : Nat) (s : State) : (occurTimes x n s).rest = s.rest := by
  induction n generalizing s with
  | zero => rfl
  | succ n ih => exact (ih _).trans (occur_rest ..)

/-- An evaluation that finds no door to close or to release leaves a side as it is. -/
theorem sideEvaluated_doors (s : State) (k : CarId) (sd : Side) (c : Fin 4) : (sideEvaluated s k sd).doors.get c =
    if (withdrawn s k sd).getLsbD c.val = true ∧ doorUnlocked ((sideOf s k sd).doors.get c) = true then
      ⟨.CLOSING, some (doorCloseMs s)⟩ else (sideOf s k sd).doors.get c :=
  evaluatedSide_doors ..

theorem evaluateDoors_door {k : CarId} {s : State} {sd : Side} {c : Fin 4} :
    (sideOf (evaluateDoors k s) k sd).doors.get c =
      if (withdrawn s k sd).getLsbD c.val = true ∧ doorUnlocked ((sideOf s k sd).doors.get c) = true then
        ⟨.CLOSING, some (doorCloseMs s)⟩ else (sideOf s k sd).doors.get c := by
  rw [((evaluateDoors_spec k s).2.1 sd).1, sideEvaluated_doors]

/-! ## O39: a door link fault, and a door that does not close (R111, R112) -/

/-- A door link fault of car `k` (R111). -/
def linkFaulted (k : CarId) (s : State) : State :=
  let s1 := modDoors k (CarDoors.mapSides fun d => { d with outstanding := none }) s
  let d := s1.doors.get k
  let s2 := buildDoorOrder k 0#4 d.sides.left.released 0#4 d.sides.right.released s1
  let s3 := modDoors k (fun d => { d.mapSides sideForgotten with linkFault := true }) s2
  evaluateDoors k (occur .DOOR_LINK_LOST s3)

theorem windowRunning_iff (d : SideDoors) : windowRunning d = true ↔ ∃ o, d.outstanding = some o ∧ o.window ≠ none := by
  unfold windowRunning
  rcases d.outstanding with - | o
  · simp
  · simp [Option.isSome_iff_ne_none]

/-- A side that is forgotten. -/
abbrev forgottenSide : SideDoors := ⟨Vector.replicate 4 ⟨.UNKNOWN, none⟩, 0#4, none⟩

theorem forgottenSide_door (c : Fin 4) : forgottenSide.doors.get c = ⟨.UNKNOWN, none⟩ := by revert c; decide

theorem orderFound_forgotten {k : CarId} {s : State} (h : ∀ sd, sideOf s k sd = forgottenSide) : ¬ orderFound s k := by
  have hw : ∀ sd, withdrawn s k sd = 0#4 := fun sd => (compartments_eq_zero_iff _).mpr fun c => by
    unfold withdrawn
    rw [h, withdrawSet_get, forgottenSide_door]
    simp only [doorUnlocked, BitVec.getLsbD_zero, Bool.or_false, show (DoorState.UNKNOWN == .RELEASED) = false from rfl,
      show (DoorState.UNKNOWN == .OPEN) = false from rfl, Bool.and_false]
  have hr : ∀ sd, releasing s k sd = 0#4 := fun sd => (compartments_eq_zero_iff _).mpr fun c => by
    unfold releasing
    rw [h, evaluatedRelease_get, forgottenSide_door]
    simp only [show (DoorState.UNKNOWN == .LOCKED) = false from rfl, Bool.and_false, Bool.false_and]
  exact not_not.mpr ⟨hr .LEFT, hw .LEFT, hr .RIGHT, hw .RIGHT⟩

theorem sideEvaluated_forgotten {k : CarId} {s : State} {sd : Side} (h : sideOf s k sd = forgottenSide) :
    (sideEvaluated s k sd).doors = forgottenSide.doors ∧ (sideEvaluated s k sd).released = forgottenSide.released := by
  have hw : ∀ c : Fin 4, (withdrawSet (permittedSet s k sd) forgottenSide).getLsbD c.val = false := fun c => by
    rw [withdrawSet_get, forgottenSide_door]
    simp only [doorUnlocked, BitVec.getLsbD_zero, Bool.or_false, show (DoorState.UNKNOWN == .RELEASED) = false from rfl,
      show (DoorState.UNKNOWN == .OPEN) = false from rfl, Bool.and_false]
  unfold sideEvaluated
  rw [h]
  refine ⟨?_, compartments_ext fun c => ?_⟩
  · refine Vector.ext fun i hi => ?_
    have := evaluatedSide_doors (doorCloseMs s) (permittedSet s k sd) forgottenSide ⟨i, hi⟩
    rwa [hw, if_neg fun h => nomatch h.1] at this
  · rw [evaluatedSide_released, evaluatedRelease_get, forgottenSide_door]
    simp only [doorUnlocked, BitVec.getLsbD_zero, show (DoorState.UNKNOWN == .LOCKED) = false from rfl, Bool.and_false, Bool.false_and,
      Bool.or_false, show (DoorState.UNKNOWN == .RELEASED) = false from rfl, show (DoorState.UNKNOWN == .OPEN) = false from rfl]

/-- What a door link fault leaves (R111): the order of what was released, and both sides forgotten. -/
theorem linkFaulted_spec (k : CarId) (s : State) :
    let d := s.doors.get k
    let o := builtOrder d 0#4 d.sides.left.released 0#4 d.sides.right.released
    let t := linkFaulted k s
    t.rest = { s.rest with linkFault := s.rest.linkFault.set k true } ∧ t.doors.get (otherCar k) = s.doors.get (otherCar k) ∧
    t.trip = s.trip ∧ (t.mgmt.notices.get (noticeIndex .DOOR_LINK_LOST)).pending = true ∧
    (t.doors.get k).token = d.token + 1#8 ∧ (∀ x, sideOf t k x = forgottenSide) ∧
    (t.doors.get k).queued = (firstRole s.active.b (carRole k)).elim d.queued (fun _ => some o) ∧
    ∀ e, firstRole s.active.b (carRole k) = some e →
      ⟨e.address, s.mgmt.ownAddress, some (carRole k), .doorOrder k o⟩ ∈ t.ports.f.urgent := by
  intro d o t
  obtain ⟨s1, hs1⟩ : ∃ u, u = modDoors k (CarDoors.mapSides fun d => { d with outstanding := none }) s := ⟨_, rfl⟩
  have hd1 : s1.doors.get k = d.mapSides fun d => { d with outstanding := none } := by rw [hs1]; exact PerCar.get_set_self ..
  obtain ⟨s2, hs2⟩ : ∃ u, u = buildDoorOrder k 0#4 (s1.doors.get k).sides.left.released 0#4 (s1.doors.get k).sides.right.released s1 :=
    ⟨_, rfl⟩
  obtain ⟨hother, hcar, hframe⟩ := buildDoorOrder_doors k 0#4 (s1.doors.get k).sides.left.released 0#4
    (s1.doors.get k).sides.right.released s1
  obtain ⟨dd, pp, ww, hfr⟩ := buildDoorOrder_frame k 0#4 (s1.doors.get k).sides.left.released 0#4
    (s1.doors.get k).sides.right.released s1
  rw [← hs2] at hother hcar hframe hfr
  rw [hd1] at hcar hframe
  obtain ⟨s3, hs3⟩ : ∃ u, u = modDoors k (fun d => { d.mapSides sideForgotten with linkFault := true }) s2 := ⟨_, rfl⟩
  have hd3 : s3.doors.get k = { (s2.doors.get k).mapSides sideForgotten with linkFault := true } := by
    rw [hs3]; exact PerCar.get_set_self ..
  obtain ⟨p4, m4, h4⟩ := occur_frame .DOOR_LINK_LOST s3
  have hd4 : (occur .DOOR_LINK_LOST s3).doors = s3.doors := by rw [h4]
  have ht : t = evaluateDoors k (occur .DOOR_LINK_LOST s3) := by rw [hs3, hs2, hs1]; rfl
  have hforgot : ∀ sd, sideOf (occur .DOOR_LINK_LOST s3) k sd = forgottenSide := fun sd => by
    unfold sideOf
    rw [hd4, hd3]
    cases sd <;> rfl
  obtain ⟨eother, esides, enone, -⟩ := evaluateDoors_spec k (occur .DOOR_LINK_LOST s3)
  obtain ⟨etoken, equeued, eports, eout⟩ := enone (orderFound_forgotten hforgot)
  obtain ⟨d5, p5, w5, h5⟩ := evaluateDoors_frame k (occur .DOOR_LINK_LOST s3)
  rw [← ht] at eother esides etoken equeued eports eout h5
  have hactive : s1.active = s.active ∧ s1.mgmt = s.mgmt := by rw [hs1]; exact ⟨rfl, rfl⟩
  refine ⟨?_, ?_, ?_, ?_, ?_, fun x => ?_, ?_, fun e he => ?_⟩
  · rw [ht, evaluateDoors_rest, occur_rest, hs3]
    have hs2rest : s2.rest = s.rest := by rw [hs2, buildDoorOrder_rest, hs1, modDoors_rest] <;> exact fun _ => rfl
    have hset : (modDoors k (fun d => { d.mapSides sideForgotten with linkFault := true }) s2).rest =
        { s2.rest with linkFault := s2.rest.linkFault.set k true } := by cases k <;> rfl
    rw [hset, hs2rest]
  · rw [eother, hd4, hs3]
    exact (PerCar.get_set_ne _ _ (otherCar_ne k)).trans (hother.trans (by rw [hs1]; exact PerCar.get_set_ne _ _ (otherCar_ne k)))
  · rw [h5, h4, hs3]
    change s2.trip = s.trip
    rw [hfr, hs1]
    rfl
  · rw [h5]
    exact occur_pending ..
  · rw [etoken, hd4, hd3]
    change (s2.doors.get k).token = _
    rw [hcar]
    rfl
  · obtain ⟨hdoors, hrel⟩ := sideEvaluated_forgotten (hforgot x)
    obtain ⟨h1, h2⟩ := esides x
    have h3 := eout x
    rw [hforgot x] at h3
    rw [hdoors] at h1
    rw [hrel] at h2
    generalize sideOf t k x = y at h1 h2 h3
    obtain ⟨a, b, c⟩ := y
    subst h1 h2 h3
    rfl
  · rw [equeued, hd4, hd3]
    change (s2.doors.get k).queued = _
    rw [hcar, hactive.1]
    rfl
  · rw [eports, occur_urgent, hs3]
    have := hframe e (by rw [hactive.1]; exact he)
    rw [hactive.2] at this
    exact this

/-- A closing door that does not close (R112). -/
def closeFaulted (k : CarId) (sd : Side) (c : Fin 4) (s : State) : State :=
  evaluateDoors k (occur .DOOR_FAULT (modDoors k (fun d => { d with
    sides := d.sides.set sd { d.sides.get sd with doors := vset (d.sides.get sd).doors c ⟨.FAULT, none⟩ } }) s))

theorem closeFaulted_spec (k : CarId) (sd : Side) (c : Fin 4) (s : State) :
    let t := closeFaulted k sd c s
    t.rest = s.rest ∧ t.doors.get (otherCar k) = s.doors.get (otherCar k) ∧ t.trip = s.trip ∧
    (t.mgmt.notices.get (noticeIndex .DOOR_FAULT)).pending = true ∧ (sideOf t k sd).doors.get c = ⟨.FAULT, none⟩ := by
  intro t
  obtain ⟨s1, hs1⟩ : ∃ u, u = modDoors k (fun d => { d with
    sides := d.sides.set sd { d.sides.get sd with doors := vset (d.sides.get sd).doors c ⟨.FAULT, none⟩ } }) s := ⟨_, rfl⟩
  have ht : t = evaluateDoors k (occur .DOOR_FAULT s1) := by rw [hs1]; rfl
  obtain ⟨p, m, hocc⟩ := occur_frame .DOOR_FAULT s1
  obtain ⟨d, p', w, hev⟩ := evaluateDoors_frame k (occur .DOOR_FAULT s1)
  have hdoor : (sideOf (occur .DOOR_FAULT s1) k sd).doors.get c = ⟨.FAULT, none⟩ := by
    unfold sideOf
    rw [hocc, hs1]
    change (((s.doors.set k _).get k).sides.get sd).doors.get c = _
    rw [PerCar.get_set_self, PerSide.get_set_self, vset_get_self]
  refine ⟨?_, ?_, ?_, ?_, ?_⟩
  · rw [ht, evaluateDoors_rest, occur_rest, hs1, modDoors_rest] <;> exact fun _ => rfl
  · rw [ht, (evaluateDoors_spec ..).1, hocc, hs1]
    exact PerCar.get_set_ne _ _ (otherCar_ne k)
  · rw [ht, hev, hocc, hs1]; rfl
  · rw [ht, hev]; exact occur_pending ..
  · rw [ht, evaluateDoors_door, hdoor]
    exact if_neg fun h => nomatch h.2

/-- What an event of the door unit leaves, with its announcements carried through. -/
theorem react_doorEvent {f g : State → State} {s : State} {k : CarId} (hf : f s = doorEvent k g s) :
    ∃ l, react f s = { g s with agenda := (g s).agenda ++ l } := by
  obtain ⟨l, hl⟩ := doorEvent_eq k g s
  obtain ⟨l', hl'⟩ := react_eq f s
  refine ⟨l ++ l', ?_⟩
  rw [hl', hf, hl, List.append_assoc]

/-- Settles O39: by whether the window or the close timer runs. -/
theorem doorTimersFindFaults : Obligations.DoorTimersFindFaults := by
  refine ⟨fun k sd s hr => ?_, fun k c sd s hr => ?_⟩
  · intro running
    have hrun : windowRunning ((s.doors.get k).sides.get sd) = true ↔ running := windowRunning_iff _
    refine ⟨fun h hq => event_idle hr hq (if_neg fun hc => h (hrun.mp hc)), fun h => ?_⟩
    have hf : doorWindowExpires k sd s = doorEvent k (linkFaulted k) s := if_pos (hrun.mpr h)
    obtain ⟨l, hl⟩ := react_doorEvent hf
    obtain ⟨hrest, hother, htrip, hnotice, htoken, hsides, hqueued, hframe⟩ := linkFaulted_spec k s
    refine ⟨react (doorWindowExpires k sd) s, running_eq hr, ?_, ?_⟩
    · rw [settle_rest, react_rest, hf, doorEvent_rest, hrest]
    rw [hl]
    refine ⟨hother, htrip, hnotice, htoken, hsides, fun hno => ?_, fun e he => ⟨_, ?_, builtOrder_token .., hframe e he, ?_⟩⟩
    · rw [hqueued, hno]; rfl
    · rw [hqueued, he]; rfl
    · intro wl wr
      refine ⟨fun hq => ?_, fun q hq => ?_⟩
      · unfold builtOrder
        rw [hq]
        exact ⟨rfl, rfl, rfl, rfl⟩
      · unfold builtOrder
        rw [hq]
        have hzero : ∀ x : Compartments, setMinus x 0#4 = x := fun x => compartments_ext fun c => by
          rw [setMinus_get, BitVec.getLsbD_zero, Bool.not_false, Bool.and_true]
        refine ⟨BitVec.or_zero, BitVec.or_zero, ?_, ?_⟩
        · exact congrArg (· ||| wl) (hzero _)
        · exact congrArg (· ||| wr) (hzero _)
  · intro r running
    have hrun : (r.state = .CLOSING ∧ r.closeTimer.isSome = true) ↔ running := and_congr_right' Option.isSome_iff_ne_none
    refine ⟨fun h hq => event_idle hr hq (if_neg fun hc => h (hrun.mp hc)), fun h => ?_⟩
    have hf : closeTimerExpires k sd c s = doorEvent k (closeFaulted k sd c) s := if_pos (hrun.mpr h)
    obtain ⟨l, hl⟩ := react_doorEvent hf
    obtain ⟨hrest, hother, htrip, hnotice, hdoor⟩ := closeFaulted_spec k sd c s
    refine ⟨react (closeTimerExpires k sd c) s, running_eq hr, ?_, ?_⟩
    · rw [settle_rest, react_rest, hf, doorEvent_rest, hrest]
    rw [hl]
    exact ⟨hother, htrip, hnotice, hdoor⟩

/-! ## O38: the interlock (R103 to R107) -/

theorem inService_iff_ne_idle (s : State) : s.inService = true ↔ s.trip.state ≠ .IDLE := inService_iff s

/-- The permitted set in the terms of R103. -/
theorem permittedSet_eq (s : State) (k : CarId) (sd : Side) : permittedSet s k sd = (s.trip.berth.get k).elim 0#4 fun h =>
    if haltHasSide s.active.b h sd = true ∧ s.trip.state ≠ .IDLE ∧ s.brake.commanded ≠ .RELEASED ∧
        s.pos.measured.natAbs ≤ s.params.standstillSpeed.toNat ∧ (s.seqs.get h).published.getLsbD 2 = true then
      haltMask s.active.b h
    else 0#4 := by
  unfold permittedSet State.berth
  rcases s.trip.berth.get k with - | h
  · rfl
  · have hthr : aboveThreshold s = false ↔ s.pos.measured.natAbs ≤ s.params.standstillSpeed.toNat := by
      unfold aboveThreshold State.speedNow
      rw [decide_eq_false_iff_not, Nat.not_lt]
    simp only [Bool.and_eq_true, inService_iff, bne_iff_ne, Bool.not_eq_true', hthr, and_assoc, Option.elim_some]
    rfl

theorem builtOrder_of_none {d : CarDoors} (h : d.queued = none) (rl wl rr wr : Compartments) :
    builtOrder d rl wl rr wr = ⟨d.token + 1#8, rl, wl, rr, wr⟩ := by
  unfold builtOrder
  rw [h]
  rfl

theorem builtOrder_of_some {d : CarDoors} {q : DoorOrder} (h : d.queued = some q) (rl wl rr wr : Compartments) :
    builtOrder d rl wl rr wr = ⟨d.token + 1#8, setMinus q.releaseLeft wl ||| rl, setMinus q.withdrawLeft rl ||| wl,
      setMinus q.releaseRight wr ||| rr, setMinus q.withdrawRight rr ||| wr⟩ := by
  unfold builtOrder
  rw [h]
  rfl

/-- A merged set, place by place (R107). -/
theorem merged_get (x out inn : Compartments) (c : Fin 4) : (setMinus x out ||| inn).getLsbD c.val = true ↔
    (x.getLsbD c.val = true ∧ ¬ out.getLsbD c.val = true) ∨ inn.getLsbD c.val = true := by
  rw [BitVec.getLsbD_or, setMinus_get, Bool.or_eq_true, Bool.and_eq_true, Bool.not_eq_true', Bool.not_eq_true]

theorem withdrawn_iff (s : State) (k : CarId) (sd : Side) (c : Fin 4) : (withdrawn s k sd).getLsbD c.val = true ↔
    ¬ (∃ o, (sideOf s k sd).outstanding = some o ∧ o.window ≠ none) ∧ ¬ (permittedSet s k sd).getLsbD c.val = true ∧
      ((((sideOf s k sd).doors.get c).state = .RELEASED ∨ ((sideOf s k sd).doors.get c).state = .OPEN) ∨
        (sideOf s k sd).released.getLsbD c.val = true) := by
  unfold withdrawn
  rw [withdrawSet_get, Bool.and_eq_true, Bool.and_eq_true, Bool.or_eq_true, doorUnlocked_iff, ← windowRunning_iff, Bool.not_eq_true',
    Bool.not_eq_true', Bool.not_eq_true, Bool.not_eq_true, and_assoc]

theorem releasing_iff (s : State) (k : CarId) (sd : Side) (c : Fin 4) : (releasing s k sd).getLsbD c.val = true ↔
    (sideOf s k sd).outstanding = none ∧ (permittedSet s k sd).getLsbD c.val = true ∧
      ((sideOf s k sd).doors.get c).state = .LOCKED ∧ ¬ (sideOf s k sd).released.getLsbD c.val = true := by
  unfold releasing
  rw [evaluatedRelease_get, Bool.and_eq_true, Bool.and_eq_true, Bool.and_eq_true, Bool.not_eq_true', Bool.not_eq_true', beq_iff_eq,
    Option.isSome_eq_false_iff, Option.isNone_iff_eq_none, Bool.not_eq_true, and_assoc, and_assoc]

theorem sideEvaluated_released_iff (s : State) (k : CarId) (sd : Side) (c : Fin 4) :
    (sideEvaluated s k sd).released.getLsbD c.val = true ↔
      ((sideOf s k sd).released.getLsbD c.val = true ∧ ¬ (withdrawn s k sd).getLsbD c.val = true) ∨
      (releasing s k sd).getLsbD c.val = true ∨
      ((sideOf s k sd).outstanding = none ∧ (permittedSet s k sd).getLsbD c.val = true ∧
        (((sideOf s k sd).doors.get c).state = .RELEASED ∨ ((sideOf s k sd).doors.get c).state = .OPEN)) := by
  unfold sideEvaluated
  rw [evaluatedSide_released, Bool.or_eq_true, Bool.or_eq_true, Bool.and_eq_true, Bool.and_eq_true, Bool.and_eq_true, Bool.not_eq_true',
    Bool.not_eq_true', doorUnlocked_iff, Option.isSome_eq_false_iff, Option.isNone_iff_eq_none, or_assoc, and_assoc]
  rw [show (withdrawn s k sd).getLsbD c.val = true ↔ _ from Iff.rfl, Bool.not_eq_true]
  rfl

theorem orderFound_iff (s : State) (k : CarId) : orderFound s k ↔
    ∃ sd, ∃ c : Fin 4, (withdrawn s k sd).getLsbD c.val = true ∨ (releasing s k sd).getLsbD c.val = true := by
  have hzero : ∀ x : Compartments, x = 0#4 ↔ ¬ ∃ c : Fin 4, x.getLsbD c.val = true := fun x => by
    rw [compartments_eq_zero_iff]
    simp
  unfold orderFound
  simp only [hzero]
  constructor
  · intro h
    by_contra hn
    exact h ⟨fun ⟨c, hc⟩ => hn ⟨.LEFT, c, .inr hc⟩, fun ⟨c, hc⟩ => hn ⟨.LEFT, c, .inl hc⟩, fun ⟨c, hc⟩ => hn ⟨.RIGHT, c, .inr hc⟩,
      fun ⟨c, hc⟩ => hn ⟨.RIGHT, c, .inl hc⟩⟩
  · rintro ⟨sd, c, hc⟩ ⟨h1, h2, h3, h4⟩
    cases sd
    · exact hc.elim (fun h => h2 ⟨c, h⟩) fun h => h1 ⟨c, h⟩
    · exact hc.elim (fun h => h4 ⟨c, h⟩) fun h => h3 ⟨c, h⟩

end Sys2Proof.Machine
end

section
/-!
PROOFS. Door reports and the release interlock (O38, R102 to R107, R110, R113).
-/

namespace Sys2Proof.Machine

/-! ## O38: door reports (R102, R110, R113) -/

/-- A report sets a record by its former state (R102). -/
theorem reportedSide_door (reps : Vector DoorReport 4) (d : SideDoors) (c : Fin 4) :
    (reportedSide reps d).doors.get c = reportedDoor (reps.get c) (d.doors.get c) := by
  unfold reportedSide
  exact Vector.getElem_zipWith ..

/-- A side after a DOOR_STATE: its reports and, where that answers its release, no outstanding release (R102, R110). -/
def sideReported (p : DoorStateP) (sd : Side) (d : SideDoors) : SideDoors :=
  let r := reportedSide (match sd with
    | .LEFT => p.left
    | .RIGHT => p.right) d
  if p.mark = .ANSWER then answeredSide p.token r else r

theorem answeredSide_doors (token : Byte) (d : SideDoors) : (answeredSide token d).doors = d.doors := by
  unfold answeredSide
  split
  · split <;> rfl
  · rfl

theorem sideReported_doors (p : DoorStateP) (sd : Side) (d : SideDoors) (c : Fin 4) : (sideReported p sd d).doors.get c =
    reportedDoor ((match sd with
      | .LEFT => p.left
      | .RIGHT => p.right).get c) (d.doors.get c) := by
  unfold sideReported
  dsimp only
  split
  · rw [answeredSide_doors]
    exact reportedSide_door ..
  · exact reportedSide_door ..

theorem answeredSide_outstanding (token : Byte) (d : SideDoors) : (answeredSide token d).outstanding =
    if d.outstanding.map Outstanding.token = some token then none else d.outstanding := by
  unfold answeredSide
  rcases h : d.outstanding with - | o
  · exact h
  · dsimp only [Option.map_some]
    by_cases ht : o.token = token
    · rw [if_pos ht, if_pos (congrArg some ht)]
    · rw [if_neg ht, if_neg fun hc => ht (Option.some.inj hc)]
      exact h

theorem sideReported_outstanding (p : DoorStateP) (sd : Side) (d : SideDoors) : (sideReported p sd d).outstanding =
    if p.mark = .ANSWER ∧ d.outstanding.map Outstanding.token = some p.token then none else d.outstanding := by
  unfold sideReported
  dsimp only
  by_cases h : p.mark = .ANSWER
  · rw [if_pos h, answeredSide_outstanding]
    simp only [h, true_and]
    rfl
  · rw [if_neg h, if_neg fun hc => h hc.1]
    rfl

/-- A side whose window runs behind a report has an outstanding release that is begun and not answered (R110). -/
theorem sideReported_running (p : DoorStateP) (sd : Side) (d : SideDoors) : windowRunning (sideReported p sd d) = true ↔
    ∃ o, d.outstanding = some o ∧ o.window ≠ none ∧ ¬ (p.mark = .ANSWER ∧ o.token = p.token) := by
  rw [windowRunning_iff, sideReported_outstanding]
  rcases d.outstanding with - | o
  · simp
  · simp only [Option.map_some, Option.some.injEq]
    split
    next h => simp [h]
    next h => simp [h]

/-- The doors of car `k` once its DOOR_STATE is taken, before it is heard and evaluated (R102, R110). -/
def carReported (p : DoorStateP) (d : CarDoors) : CarDoors :=
  { d with sides := ⟨sideReported p .LEFT d.sides.left, sideReported p .RIGHT d.sides.right⟩, linkFault := false }

/-- A DOOR_STATE up to its hearing: the reports, their faults and the answer. -/
def doorReported (k : CarId) (p : DoorStateP) (s : State) : State :=
  let d := s.doors.get k
  let s1 := modDoors k (fun d => { d with
    sides := ⟨reportedSide p.left d.sides.left, reportedSide p.right d.sides.right⟩
    linkFault := false }) s
  let s2 := occurTimes .DOOR_FAULT (newFaults p.left d.sides.left + newFaults p.right d.sides.right) s1
  if p.mark = .ANSWER then modDoors k (CarDoors.mapSides (answeredSide p.token)) s2 else s2

theorem takeDoorState_eq (k : CarId) (p : DoorStateP) (s : State) :
    takeDoorState k p s = doorEvent k (fun s => evaluateDoors k (hearCar k (doorReported k p s))) s := rfl

theorem PerCar.set_set {α : Type} (p : PerCar α) (k : CarId) (x y : α) : (p.set k x).set k y = p.set k y := by cases k <;> rfl

theorem mem_all4 : ∀ c : Fin 4, c ∈ all4 := by decide

theorem doorReported_frame (k : CarId) (p : DoorStateP) (s : State) : ∃ q m,
    doorReported k p s = { s with doors := s.doors.set k (carReported p (s.doors.get k)), ports := q, mgmt := m } := by
  unfold doorReported
  dsimp only
  obtain ⟨q, m, h⟩ := occurTimes_frame .DOOR_FAULT
    (newFaults p.left (s.doors.get k).sides.left + newFaults p.right (s.doors.get k).sides.right)
    (modDoors k (fun d => { d with
      sides := ⟨reportedSide p.left d.sides.left, reportedSide p.right d.sides.right⟩
      linkFault := false }) s)
  rw [h]
  unfold carReported sideReported
  by_cases hm : p.mark = .ANSWER
  · simp only [if_pos hm]
    refine ⟨q, m, ?_⟩
    unfold modDoors
    dsimp only
    rw [PerCar.get_set_self, PerCar.set_set]
    rfl
  · simp only [if_neg hm]
    exact ⟨q, m, rfl⟩

/-- A record that becomes FAULT from another state makes a notice occur (R102). -/
theorem doorReported_fault {k : CarId} {p : DoorStateP} {s : State} {sd : Side} {c : Fin 4}
    (hrep : (match sd with
      | .LEFT => p.left
      | .RIGHT => p.right).get c = .FAULT) (hold : ((sideOf s k sd).doors.get c).state ≠ .FAULT) :
    ((doorReported k p s).mgmt.notices.get (noticeIndex .DOOR_FAULT)).pending = true := by
  have hcount : 0 < newFaults p.left (s.doors.get k).sides.left + newFaults p.right (s.doors.get k).sides.right := by
    have hmem : ∀ (reps : Vector DoorReport 4) (d : SideDoors), reps.get c = .FAULT → (d.doors.get c).state ≠ .FAULT →
        0 < newFaults reps d := fun reps d h1 h2 =>
      List.length_pos_iff_exists_mem.mpr ⟨c, List.mem_filter.mpr ⟨mem_all4 c, by simp [h1, h2]⟩⟩
    cases sd
    · exact Nat.add_pos_left (hmem _ _ hrep hold) _
    · exact Nat.add_pos_right _ (hmem _ _ hrep hold)
  have := occurTimes_pending .DOOR_FAULT hcount (modDoors k (fun d => { d with
      sides := ⟨reportedSide p.left d.sides.left, reportedSide p.right d.sides.right⟩
      linkFault := false }) s)
  unfold doorReported
  dsimp only
  split
  · exact this
  · exact this

/-! ## A car is heard (R113) -/

theorem hearCar_heard {k : CarId} {s : State} (h : (s.doors.get k).heard = true) : hearCar k s = s := if_pos h

theorem hearCar_unheard {k : CarId} {s : State} (h : (s.doors.get k).heard = false) : hearCar k s =
    buildDoorOrder k 0#4 (~~~permittedSet s k .LEFT) 0#4 (~~~permittedSet s k .RIGHT)
      (modDoors k (fun d => { d with heard := true, sides :=
        ⟨closeDoors (doorCloseMs s) (~~~permittedSet s k .LEFT) d.sides.left,
          closeDoors (doorCloseMs s) (~~~permittedSet s k .RIGHT) d.sides.right⟩ }) s) :=
  if_neg (by rw [h]; exact nofun)

theorem complement_get (x : Compartments) (c : Fin 4) : (~~~x).getLsbD c.val = !x.getLsbD c.val := by
  rw [BitVec.getLsbD_not, decide_eq_true c.isLt, Bool.true_and]

/-- A car that is heard closes the unlocked doors outside its permitted sets (R113). -/
theorem hearCar_door {k : CarId} {s : State} {sd : Side} {c : Fin 4} : (sideOf (hearCar k s) k sd).doors.get c =
    if (s.doors.get k).heard = false ∧ (permittedSet s k sd).getLsbD c.val = false ∧ doorUnlocked ((sideOf s k sd).doors.get c) = true then
      ⟨.CLOSING, some (doorCloseMs s)⟩ else (sideOf s k sd).doors.get c := by
  by_cases h : (s.doors.get k).heard = true
  · rw [hearCar_heard h, if_neg fun hc => absurd (hc.1.symm.trans h) nofun]
  · rw [Bool.not_eq_true] at h
    obtain ⟨-, hcar, -⟩ := buildDoorOrder_doors k 0#4 (~~~permittedSet s k .LEFT) 0#4 (~~~permittedSet s k .RIGHT)
      (modDoors k (fun d => { d with heard := true, sides :=
        ⟨closeDoors (doorCloseMs s) (~~~permittedSet s k .LEFT) d.sides.left,
          closeDoors (doorCloseMs s) (~~~permittedSet s k .RIGHT) d.sides.right⟩ }) s)
    rw [← hearCar_unheard h, show (modDoors k _ s).doors.get k = _ from PerCar.get_set_self ..] at hcar
    have hside : (sideOf (hearCar k s) k sd).doors =
        (closeDoors (doorCloseMs s) (~~~permittedSet s k sd) (sideOf s k sd)).doors := by
      unfold sideOf
      rw [hcar]
      cases sd
      · exact (outstandingAfter_kept ..).1
      · exact (outstandingAfter_kept ..).1
    rw [hside, closeDoors_get, complement_get]
    simp only [h, true_and, Bool.not_eq_true']

theorem hearCar_notBegun {k : CarId} {s : State} {sd : Side} (h : notBegun (sideOf s k sd)) : notBegun (sideOf (hearCar k s) k sd) := by
  by_cases hh : (s.doors.get k).heard = true
  · rwa [hearCar_heard hh]
  · rw [Bool.not_eq_true] at hh
    obtain ⟨-, hcar, -⟩ := buildDoorOrder_doors k 0#4 (~~~permittedSet s k .LEFT) 0#4 (~~~permittedSet s k .RIGHT)
      (modDoors k (fun d => { d with heard := true, sides :=
        ⟨closeDoors (doorCloseMs s) (~~~permittedSet s k .LEFT) d.sides.left,
          closeDoors (doorCloseMs s) (~~~permittedSet s k .RIGHT) d.sides.right⟩ }) s)
    rw [← hearCar_unheard hh, show (modDoors k _ s).doors.get k = _ from PerCar.get_set_self ..] at hcar
    unfold sideOf
    rw [hcar]
    cases sd
    · exact outstandingAfter_notBegun (d := closeDoors _ _ (s.doors.get k).sides.left) h
    · exact outstandingAfter_notBegun (d := closeDoors _ _ (s.doors.get k).sides.right) h

theorem hearCar_other (k : CarId) (s : State) : (hearCar k s).doors.get (otherCar k) = s.doors.get (otherCar k) := by
  unfold hearCar
  split
  · rfl
  · dsimp only
    rw [(buildDoorOrder_doors ..).1]
    exact PerCar.get_set_ne _ _ (otherCar_ne k)

/-- A door after a DOOR_STATE: its report, withdrawn where it is unlocked outside the permitted set and no begun release of its side is
still unanswered, or the car was unheard (R102, R105, R113). -/
theorem doorState_door {k : CarId} {p : DoorStateP} {s : State} {sd : Side} {c : Fin 4} :
    let r := reportedDoor ((match sd with
      | .LEFT => p.left
      | .RIGHT => p.right).get c) ((sideOf s k sd).doors.get c)
    (sideOf (evaluateDoors k (hearCar k (doorReported k p s))) k sd).doors.get c =
      if doorUnlocked r = true ∧ (permittedSet s k sd).getLsbD c.val = false ∧ ((s.doors.get k).heard = false ∨
          windowRunning (sideReported p sd (sideOf s k sd)) = false) then ⟨.CLOSING, some (doorCloseMs s)⟩ else r := by
  intro r
  obtain ⟨q, m, hrep⟩ := doorReported_frame k p s
  obtain ⟨v, hv⟩ : ∃ v, v = doorReported k p s := ⟨_, rfl⟩
  rw [← hv] at hrep ⊢
  have hside : sideOf v k sd = sideReported p sd (sideOf s k sd) := by
    unfold sideOf
    rw [hrep]
    dsimp only
    rw [PerCar.get_set_self]
    cases sd <;> rfl
  have hheard : (v.doors.get k).heard = (s.doors.get k).heard := by
    rw [hrep]
    dsimp only
    rw [PerCar.get_set_self]
    rfl
  have hperm : ∀ u d p' w, u = { v with doors := d, ports := p', pulses := w } → permittedSet u k sd = permittedSet s k sd ∧
      doorCloseMs u = doorCloseMs s := by
    intro u d p' w hu
    rw [hu, hrep]
    exact ⟨rfl, rfl⟩
  obtain ⟨hpv, hmv⟩ := hperm v v.doors v.ports v.pulses rfl
  obtain ⟨d, p', w, hh⟩ := hearCar_frame k v
  obtain ⟨hph, hmh⟩ := hperm _ d p' w hh
  have hr : (sideOf v k sd).doors.get c = r := by rw [hside, sideReported_doors]
  have hdoor := hearCar_door (k := k) (s := v) (sd := sd) (c := c)
  rw [hr, hheard, hpv, hmv] at hdoor
  by_cases hh' : (s.doors.get k).heard = false
  · by_cases hout : (permittedSet s k sd).getLsbD c.val = false ∧ doorUnlocked r = true
    · rw [if_pos ⟨hh', hout⟩] at hdoor
      rw [evaluateDoors_door, hmh, hdoor]
      exact (if_neg fun h => nomatch h.2).trans (if_pos ⟨hout.2, hout.1, .inl hh'⟩).symm
    · rw [if_neg fun h => hout h.2] at hdoor
      rw [evaluateDoors_door, hmh, hdoor]
      refine (if_neg ?_).trans (if_neg fun h => hout ⟨h.2.1, h.1⟩).symm
      rintro ⟨hw, hu⟩
      rw [withdrawn_iff, hph, Bool.not_eq_true] at hw
      exact hout ⟨hw.2.1, hu⟩
  · rw [if_neg fun h => hh' h.1] at hdoor
    have hheq : hearCar k v = v := hearCar_heard (by rw [hheard]; exact Bool.not_eq_false _ ▸ hh')
    rw [evaluateDoors_door, hmh, hdoor]
    refine if_congr ?_ rfl rfl
    rw [hheq, withdrawn_iff, hpv, ← windowRunning_iff, hr, hside, ← doorUnlocked_iff, Bool.not_eq_true, Bool.not_eq_true]
    simp only [hh', reduceCtorEq, false_or]
    constructor
    · exact fun ⟨⟨h1, h2, _⟩, h4⟩ => ⟨h4, h2, h1⟩
    · exact fun ⟨h1, h2, h3⟩ => ⟨⟨h3, h2, .inl h1⟩, h1⟩

/-! ## Settling O38 -/

/-- What a DOOR_STATE leaves beside its records (R102, R110, R113). -/
theorem doorState_spec (k : CarId) (p : DoorStateP) (s : State) :
    let t := evaluateDoors k (hearCar k (doorReported k p s))
    t.rest = { s.rest with heard := s.rest.heard.set k true, linkFault := s.rest.linkFault.set k false } ∧
    t.doors.get (otherCar k) = s.doors.get (otherCar k) ∧ t.trip = s.trip ∧ t.seqs = s.seqs ∧
    t.mgmt = (doorReported k p s).mgmt ∧
    (∀ sd o, p.mark = .ANSWER → (sideOf s k sd).outstanding = some o → o.token = p.token → notBegun (sideOf t k sd)) := by
  intro t
  obtain ⟨q, m, hrep⟩ := doorReported_frame k p s
  obtain ⟨d, p', w, hh⟩ := hearCar_frame k (doorReported k p s)
  obtain ⟨d2, p2, w2, he⟩ := evaluateDoors_frame k (hearCar k (doorReported k p s))
  have ht : t = _ := he
  refine ⟨?_, ?_, ?_, ?_, ?_, fun sd o hm ho htok => evaluateDoors_notBegun (hearCar_notBegun ?_)⟩
  · rw [show t = evaluateDoors k _ from rfl, evaluateDoors_rest, hearCar_rest]
    have hreported : (doorReported k p s).rest = { s.rest with linkFault := s.rest.linkFault.set k false } := by
      have hmod : ∀ u : State, (modDoors k (CarDoors.mapSides (answeredSide p.token)) u).rest = u.rest := fun u =>
        modDoors_rest k (CarDoors.mapSides (answeredSide p.token)) (fun _ => rfl) (fun _ => rfl) u
      have hset : (modDoors k (fun d => { d with
          sides := ⟨reportedSide p.left d.sides.left, reportedSide p.right d.sides.right⟩
          linkFault := false }) s).rest = { s.rest with linkFault := s.rest.linkFault.set k false } := by cases k <;> rfl
      unfold doorReported
      dsimp only
      split
      · rw [hmod, occurTimes_rest, hset]
      · rw [occurTimes_rest, hset]
    rw [hreported]
  · rw [(evaluateDoors_spec ..).1, hearCar_other, hrep]
    exact PerCar.get_set_ne _ _ (otherCar_ne k)
  · rw [ht, hh, hrep]
  · rw [ht, hh, hrep]
  · rw [ht, hh]
  · intro o' ho'
    have hside : sideOf (doorReported k p s) k sd = sideReported p sd (sideOf s k sd) := by
      unfold sideOf
      rw [hrep]
      dsimp only
      rw [PerCar.get_set_self]
      cases sd <;> rfl
    rw [hside, sideReported_outstanding, ho, if_pos ⟨hm, congrArg some htok⟩] at ho'
    cases ho'

/-- Settles O38: a report by its door, and an evaluation by what it withdraws and releases. -/
theorem doorStateSetsTheRecords : Obligations.DoorStateSetsTheRecords := by
  refine ⟨fun hdr p e s hacc => ?_, fun k s => ?_⟩
  · obtain ⟨l, hl⟩ := react_doorEvent (takeDoorState_eq p.car p (heardOn hdr.port s))
    obtain ⟨hrest, hother, htrip, hseqs, hmgmt, hanswered⟩ := doorState_spec p.car p (heardOn hdr.port s)
    have hdoor := fun sd c => doorState_door (k := p.car) (p := p) (s := heardOn hdr.port s) (sd := sd) (c := c)
    have hfault := fun sd c => doorReported_fault (k := p.car) (p := p) (s := heardOn hdr.port s) (sd := sd) (c := c)
    refine ⟨react (takeDoorState p.car p) (heardOn hdr.port s), running_receive hacc, ?_, ?_⟩
    · rw [settle_rest, react_rest, takeDoorState_eq, doorEvent_rest, hrest]
      rfl
    rw [hl]
    refine ⟨hother, htrip, hseqs, fun sd c => ?_, fun sd o hm ho htok o' ho' => hanswered sd o hm ho htok o' ho'⟩
    intro d r r' report unanswered outside closing
    have hreport : (match sd with
        | .LEFT => p.left
        | .RIGHT => p.right).get c = report := by cases sd <;> rfl
    have hun : windowRunning (sideReported p sd d) = false ↔ ¬ unanswered := by
      rw [← Bool.not_eq_true]
      exact not_congr (sideReported_running p sd d)
    have hr : r' = if doorUnlocked (reportedDoor report r) = true ∧ outside then closing else reportedDoor report r := by
      have := hdoor sd c
      rw [hreport] at this
      refine this.trans (if_congr (and_congr_right' (and_congr_right' (or_congr_right hun))) rfl rfl)
    refine ⟨fun h => ?_, fun h => ⟨?_, fun hne => ?_⟩, fun h hc => ?_, fun h hc => ⟨fun hw => ?_, fun hw => ?_⟩,
      fun h hc => ⟨fun hw => ?_, fun hw => ?_⟩⟩
    · rw [hr, h]
      exact if_neg fun hu => nomatch hu.1
    · rw [hr, h]
      exact if_neg fun hu => nomatch hu.1
    · have := hfault sd c (hreport.trans h) hne
      rw [← hmgmt] at this
      exact this
    · have hkeep : reportedDoor report r = r := by rcases h with h | h <;> rw [h] <;> exact if_pos hc
      rw [hr, hkeep]
      refine if_neg fun hu => ?_
      rw [doorUnlocked_iff, hc] at hu
      exact hu.1.elim nofun nofun
    · rw [hr, h, show reportedDoor .RELEASED r = _ from if_neg hc]
      exact if_pos ⟨rfl, hw⟩
    · rw [hr, h, show reportedDoor .RELEASED r = _ from if_neg hc]
      exact if_neg fun hu => hw hu.2
    · rw [hr, h, show reportedDoor .OPEN r = _ from if_neg hc]
      exact if_pos ⟨rfl, hw⟩
    · rw [hr, h, show reportedDoor .OPEN r = _ from if_neg hc]
      exact if_neg fun hu => hw hu.2
  · intro t perm side begun inside unlocked released withdraws releases found
    have hperm : ∀ sd, permittedSet s k sd = perm sd := fun sd => by
      rw [permittedSet_eq]
      simp only [perm]
      rcases s.trip.berth.get k with - | h <;> rfl
    have hw : ∀ sd c, (withdrawn s k sd).getLsbD c.val = true ↔ withdraws sd c := fun sd c => by
      rw [withdrawn_iff, hperm]
    have hrel : ∀ sd c, (releasing s k sd).getLsbD c.val = true ↔ releases sd c := fun sd c => by
      rw [releasing_iff, hperm]
    have hfound : orderFound s k ↔ found := (orderFound_iff s k).trans
      (exists_congr fun sd => exists_congr fun c => or_congr (hw sd c) (hrel sd c))
    obtain ⟨hother, hsides, hnone, horder⟩ := evaluateDoors_spec k s
    obtain ⟨d, p, w, hframe⟩ := evaluateDoors_frame k s
    refine ⟨fun sd c => ?_, fun hn => ?_, fun hf => ?_, hother, by rw [show t = _ from hframe], by rw [show t = _ from hframe],
      by rw [show t = _ from hframe]⟩
    · intro r'
      have hr : r' = if withdraws sd c ∧ unlocked sd c then ⟨.CLOSING, some (doorCloseMs s)⟩ else (side sd).doors.get c :=
        evaluateDoors_door.trans (if_congr (and_congr (hw sd c) (doorUnlocked_iff _)) rfl rfl)
      refine ⟨fun hu hwd => hr.trans (if_pos ⟨hwd, hu⟩), fun h => hr.trans (if_neg fun hc => h.elim (· hc.2) (· hc.1)), ?_⟩
      change (sideOf t k sd).released.getLsbD c.val = true ↔ _
      rw [(hsides sd).2, sideEvaluated_released_iff, hw, hrel, hperm]
    · obtain ⟨htoken, hqueued, hports, -⟩ := hnone (mt hfound.mp hn)
      exact ⟨htoken, hqueued, hports⟩
    · obtain ⟨htoken, hqueued, hurgent, hout⟩ := horder (hfound.mpr hf)
      refine ⟨htoken, fun e he => ⟨evaluatedOrder s k, ?_, builtOrder_token .., hurgent e he, fun hq c => ?_, fun q hq c => ?_,
        fun sd => ?_⟩⟩
      · rw [hqueued, he]; rfl
      · unfold evaluatedOrder
        rw [builtOrder_of_none hq]
        exact ⟨hrel .LEFT c, hrel .RIGHT c, hw .LEFT c, hw .RIGHT c⟩
      · intro both
        unfold evaluatedOrder
        rw [builtOrder_of_some hq]
        dsimp only
        rw [merged_get, merged_get, merged_get, merged_get, hw, hw, hrel, hrel]
        exact ⟨Iff.rfl, Iff.rfl, Iff.rfl, Iff.rfl⟩
      · intro now release
        have hrelease : (evaluatedOrder s k).release sd = release := by cases sd <;> rfl
        have hnow : now = _ := hout sd
        rw [hrelease] at hnow
        refine ⟨fun h0 hz => ?_, fun h0 hz => ?_, fun a ha => ?_⟩
        · rw [hnow, outstandingAfter_none (d := sideEvaluated s k sd) h0, if_pos hz]
        · rw [hnow, outstandingAfter_none (d := sideEvaluated s k sd) h0, if_neg hz]
        · rw [hnow, outstandingAfter_some (d := sideEvaluated s k sd) ha]

end Sys2Proof.Machine
end

section
/-!
PROOFS. The speed limit unit (O22): the code, the terms of a recomputation, the ceiling of a position, and the overrun check
(R22 to R37).
-/

namespace Sys2Proof.Machine

/-! ## The code (R36) -/

theorem permittedCode_eq (s : State) : permittedCode s = min 0xFFE (1 + s.speed.vPerm / 5) := rfl

/-! ## The ceiling of a position (R23, R25) -/

/-- Of segments in the order of their starts, the one with the last start is the last. -/
theorem getLast?_of_greatest {l : List EnvelopeEntry} {e : EnvelopeEntry} (hl : l.Pairwise fun x y => x.start.toNat < y.start.toNat)
    (he : e ∈ l) (hmax : ∀ x ∈ l, x.start.toNat ≤ e.start.toNat) : l.getLast? = some e := by
  induction l with
  | nil => cases he
  | cons x l ih =>
    obtain ⟨hx, hl'⟩ := List.pairwise_cons.mp hl
    rcases List.mem_cons.mp he with rfl | he'
    · rcases l with - | ⟨y, l⟩
      · rfl
      · exact absurd (hx y (List.mem_cons_self ..)) (Nat.not_lt.mpr (hmax y (List.mem_cons_of_mem _ (List.mem_cons_self ..))))
    · rw [List.getLast?_cons, ih hl' he' fun y hy => hmax y (List.mem_cons_of_mem _ hy)]
      rfl

theorem ceilingAt_inside {b : GroupB} {mm : Int} {e : EnvelopeEntry}
    (hlast : ((segments b).filter fun e => decide ((e.start.toNat : Int) ≤ mm)).getLast? = some e) : ceilingAt b mm = e.ceiling.toNat := by
  unfold ceilingAt
  split
  next h => rw [h] at hlast; cases hlast
  next x xs h =>
    rw [h, List.getLast?_eq_getLast_of_ne_nil (List.cons_ne_nil _ _)] at hlast
    rw [Option.some.inj hlast]

theorem ceilingAt_before {b : GroupB} {mm : Int} {e : EnvelopeEntry} (hno : ∀ x ∈ segments b, mm < (x.start.toNat : Int))
    (hhead : (segments b).head? = some e) : ceilingAt b mm = e.ceiling.toNat := by
  have hnil : ((segments b).filter fun e => decide ((e.start.toNat : Int) ≤ mm)) = [] :=
    List.filter_eq_nil_iff.mpr fun x hx => by
      have := hno x hx
      simp only [decide_eq_true_eq]
      omega
  unfold ceilingAt
  rw [hnil]
  dsimp only
  rcases hs : segments b with - | ⟨x, xs⟩
  · rw [hs] at hhead; cases hhead
  · rw [hs] at hhead
    cases hhead
    rfl

theorem foldl_min_le (l : List EnvelopeEntry) (a : Nat) :
    l.foldl (fun acc x => min acc x.ceiling.toNat) a ≤ a ∧
      ∀ x ∈ l, l.foldl (fun acc x => min acc x.ceiling.toNat) a ≤ x.ceiling.toNat := by
  induction l generalizing a with
  | nil => exact ⟨le_rfl, nofun⟩
  | cons y l ih =>
    obtain ⟨h1, h2⟩ := ih (min a y.ceiling.toNat)
    refine ⟨h1.trans (min_le_left ..), fun x hx => ?_⟩
    rcases List.mem_cons.mp hx with rfl | hx
    · exact h1.trans (min_le_right ..)
    · exact h2 x hx

theorem lowestCeiling_le {b : GroupB} {e : EnvelopeEntry} (he : e ∈ segments b) : lowestCeiling b ≤ e.ceiling.toNat := by
  unfold lowestCeiling
  split
  next h => rw [h] at he; cases he
  next x xs h =>
    rw [h] at he
    rcases List.mem_cons.mp he with rfl | he
    · exact (foldl_min_le xs _).1
    · exact (foldl_min_le xs _).2 e he

/-! ## Distances (R30, R31) -/

theorem carUphill_iff (d : Dir) (k : CarId) : carUphill d k = true ↔ k = if d = .UP then .car1 else .car2 := by
  cases d <;> cases k <;> decide

theorem minDist_none (x : Option Int) : minDist none x = x := by rcases x with - | x <;> rfl

/-- The smallest of optional distances is that of the present ones. -/
theorem foldl_minDist {α : Type} (f : α → Option Int) (l : List α) (acc : Option Int) :
    l.foldl (fun acc p => minDist acc (f p)) acc = (acc.toList ++ l.filterMap f).min? := by
  induction l generalizing acc with
  | nil => rcases acc with - | a <;> rfl
  | cons x l ih =>
    rw [List.foldl_cons, ih]
    rcases hx : f x with - | y
    · rw [List.filterMap_cons_none hx]
      rcases acc with - | a <;> rfl
    · rw [List.filterMap_cons_some hx]
      rcases acc with - | a
      · rfl
      · change (min a y :: l.filterMap f).min? = (a :: y :: l.filterMap f).min?
        rw [List.min?_cons', List.min?_cons', List.foldl_cons]

/-- The distances of the pairs of a stop whose cars are referenced (R31, R77). -/
def stopDistances (s : State) (st : Stop) : List Int := (stopPairs st).filterMap (pairAhead s)

theorem filterMap_pairAhead (s : State) (l : List StopPair) : l.filterMap (pairAhead s) =
    (l.filter fun x => decide ((s.pos.cars.get x.car).referenced = true)).map fun x => pairDistance s x.car x.halt := by
  induction l with
  | nil => rfl
  | cons x l ih =>
    by_cases hx : (s.pos.cars.get x.car).referenced = true
    · have hsome : pairAhead s x = some (pairDistance s x.car x.halt) := if_pos hx
      rw [List.filterMap_cons_some hsome, ih, List.filter_cons, if_pos (decide_eq_true hx), List.map_cons]
    · have hnone : pairAhead s x = none := if_neg hx
      rw [List.filterMap_cons_none hnone, ih, List.filter_cons, if_neg (by simpa using hx)]

theorem stopDistance_eq (s : State) (st : Stop) : stopDistance s st = (stopDistances s st).min? :=
  foldl_minDist (pairAhead s) (stopPairs st) none

theorem stopDistance_least {s : State} {st : Stop} {d : Int} (hd : d ∈ stopDistances s st) (hle : ∀ x ∈ stopDistances s st, d ≤ x) :
    stopDistance s st = some d := by
  rw [stopDistance_eq]
  exact List.min?_eq_some_iff.mpr ⟨hd, hle⟩

/-! ## The overrun check (R37) -/

theorem raiseEvent_frame (c : Cause) (st : Stage) (s : State) : ∃ b p m w l,
    raiseEvent c st s = { s with brake := b, ports := p, mgmt := m, pulses := w, agenda := s.agenda ++ l } := by
  obtain ⟨b, p, v, w, l, h, -⟩ := causesAct_fields [(c, st)] s
  exact ⟨b, p, _, w, l, h⟩

/-- An EMERGENCY cause that is raised: its latch, and a stage of at least EMERGENCY (R55, R61, R62). -/
theorem raiseEvent_emergency (c : Cause) (s : State) :
    let t := raiseEvent c .EMERGENCY s
    t.brake.latchE ≠ none ∧ t.brake.active = s.brake.active ∧ 3 ≤ stageRank t.brake.commanded ∧ PendingKept s t := by
  intro t
  obtain ⟨b, p, v, w, l, h, hact, -, -, -, -, hcom, -, -, -, hlatch⟩ := causesAct_fields [(c, .EMERGENCY)] s
  have ht : t = _ := h
  have hE := (hlatch _ (List.mem_singleton_self _)).2.1 rfl
  refine ⟨by rw [ht]; exact hE, by rw [ht]; exact hact, ?_, causesAct_pendingKept _ _⟩
  rw [ht, hcom]
  exact demandedStage_latchE hE

/-- Whether the overrun check of a recomputation finds an overrun (R37). -/
abbrev overrunFound (s : State) : Prop := (s.trip.state = .RUNNING ∨ s.trip.state = .STOPPING) ∧ headOverrun s = true

theorem overrunCheck_found {s : State} (h : overrunFound s) (hr : s.speed.overrunRaised = false) : overrunCheck s =
    raiseEvent .OVERRUN .EMERGENCY (occur .OVERRUN { s with speed := { s.speed with overrunRaised := true } }) :=
  if_pos ⟨h.1, h.2, by rw [hr]; exact nofun⟩

theorem overrunCheck_none {s : State} (h : ¬ overrunFound s ∨ s.speed.overrunRaised = true) : overrunCheck s = s :=
  if_neg fun hc => h.elim (fun hn => hn ⟨hc.1, hc.2.1⟩) hc.2.2

theorem overrunCheck_spec (s : State) :
    let t := overrunCheck s
    (overrunFound s → ¬ s.speed.overrunRaised = true → t.speed = { s.speed with overrunRaised := true } ∧ t.brake.latchE ≠ none ∧
      t.brake.active = s.brake.active ∧ 3 ≤ stageRank t.brake.commanded ∧
      (t.mgmt.notices.get (noticeIndex .OVERRUN)).pending = true) ∧
    (¬ overrunFound s ∨ s.speed.overrunRaised = true → t = s) := by
  intro t
  refine ⟨fun h hr => ?_, overrunCheck_none⟩
  have ht : t = _ := overrunCheck_found h (Bool.not_eq_true _ ▸ hr)
  obtain ⟨b, p, m, w, l, hraise⟩ := raiseEvent_frame .OVERRUN .EMERGENCY (occur .OVERRUN { s with speed := { s.speed with overrunRaised := true } })
  obtain ⟨p', m', hocc⟩ := occur_frame .OVERRUN { s with speed := { s.speed with overrunRaised := true } }
  obtain ⟨h1, h2, h3, h4⟩ := raiseEvent_emergency .OVERRUN (occur .OVERRUN { s with speed := { s.speed with overrunRaised := true } })
  rw [← ht] at h1 h2 h3 h4
  refine ⟨?_, h1, ?_, h3, h4 _ (occur_pending ..)⟩
  · rw [ht, hraise, hocc]
  · rw [h2, hocc]

theorem pairOverrun_iff (s : State) (x : StopPair) : pairOverrun s x = true ↔ (s.pos.cars.get x.car).referenced = true ∧
    pairDistance s x.car x.halt < -(platformWindow s.active.b x.halt + (s.params.overrunAllowance.toNat : Int)) := by
  unfold pairOverrun pairAhead State.car
  by_cases h : (s.pos.cars.get x.car).referenced = true
  · simp [h]
  · simp [h]

theorem headOverrun_iff (s : State) : headOverrun s = true ↔ ∃ x ∈ (s.trip.plan.head?.map stopPairs).getD [], pairOverrun s x = true := by
  unfold headOverrun
  rcases s.trip.plan with - | ⟨st, rest⟩
  · simp
  · simp [List.any_eq_true]

/-! ## The terms of a recomputation (R27 to R35) -/

/-- What a recomputation leaves: its record, the overrun check, and its result handed on (R26, R29, R37). -/
theorem recompute_spec (driving : Bool) (s : State) :
    let t := recompute driving s
    let u := overrunCheck { s with speed := speedRecordFor s }
    t.speed = u.speed ∧ t.brake = u.brake ∧ t.mgmt = u.mgmt ∧
    .compare driving (speedRecordFor s).vPerm ∈ t.agenda ∧ .demandCode driving (speedRecordFor s).vPerm ∈ t.agenda := by
  unfold recompute
  dsimp only
  refine ⟨rfl, rfl, rfl, ?_, ?_⟩
  · rw [announce_agenda, announce_agenda]
    exact List.mem_append_left _ (List.mem_append_right _ (List.mem_singleton_self _))
  · rw [announce_agenda]
    exact List.mem_append_right _ (List.mem_singleton_self _)

theorem speedRecordFor_raised (s : State) : (speedRecordFor s).overrunRaised = s.speed.overrunRaised := by
  unfold speedRecordFor
  dsimp only
  split_ifs <;> rfl

/-- A recomputation sets the record, and the overrun check its last field, brake and notices (R27, R37). -/
theorem recompute_fields (driving : Bool) (s : State) :
    let t := recompute driving s
    let r := speedRecordFor s
    (t.speed.vPerm = r.vPerm ∧ t.speed.limiting = r.limiting ∧ t.speed.curve = r.curve) ∧
    (overrunFound s → ¬ s.speed.overrunRaised = true → t.speed.overrunRaised = true ∧ t.brake.latchE ≠ none ∧
      t.brake.active = s.brake.active ∧ 3 ≤ stageRank t.brake.commanded ∧
      (t.mgmt.notices.get (noticeIndex .OVERRUN)).pending = true) ∧
    (¬ overrunFound s ∨ s.speed.overrunRaised = true →
      t.speed.overrunRaised = s.speed.overrunRaised ∧ t.brake = s.brake ∧ t.mgmt = s.mgmt) := by
  obtain ⟨hspeed, hbrake, hmgmt, -, -⟩ := recompute_spec driving s
  obtain ⟨hfound, hnone⟩ := overrunCheck_spec { s with speed := speedRecordFor s }
  have hraised : ({ s with speed := speedRecordFor s } : State).speed.overrunRaised = s.speed.overrunRaised := speedRecordFor_raised s
  rw [hraised] at hfound hnone
  have hover : overrunFound { s with speed := speedRecordFor s } ↔ overrunFound s := Iff.rfl
  rw [hover] at hfound hnone
  generalize overrunCheck { s with speed := speedRecordFor s } = u at hspeed hbrake hmgmt hfound hnone
  dsimp only
  rw [hspeed, hbrake, hmgmt]
  refine ⟨?_, fun h hr => ?_, fun h => ?_⟩
  · by_cases h : overrunFound s ∧ ¬ s.speed.overrunRaised = true
    · rw [(hfound h.1 h.2).1]
      exact ⟨rfl, rfl, rfl⟩
    · rw [hnone (by tauto)]
      exact ⟨rfl, rfl, rfl⟩
  · obtain ⟨e1, e2⟩ := hfound h hr
    exact ⟨by rw [e1], e2⟩
  · rw [hnone h]
    exact ⟨speedRecordFor_raised s, rfl, rfl⟩

section
variable {s : State}

theorem speedRecordFor_standing (h1 : s.trip.state ≠ .RUNNING) (h2 : s.trip.state ≠ .STOPPING) :
    (speedRecordFor s).vPerm = 0 ∧ (speedRecordFor s).limiting = .STATE := by
  unfold speedRecordFor
  dsimp only
  rw [if_pos ⟨h1, h2⟩]
  exact ⟨rfl, rfl⟩

theorem speedRecordFor_lost (h : s.trip.state = .RUNNING ∨ s.trip.state = .STOPPING)
    (hc : s.trip.mode = .CREEP ∧ ¬ bothReferenced s = true) :
    (speedRecordFor s).vPerm = min s.params.creepCap.toNat s.trip.lineCap ∧
    (speedRecordFor s).limiting = if s.trip.lineCap ≤ s.params.creepCap.toNat then .LINE_CAP else .MODE_CAP := by
  unfold speedRecordFor
  dsimp only
  rw [if_neg fun hn => h.elim hn.1 hn.2, if_pos hc]
  exact ⟨rfl, rfl⟩

/-- The curve term of R31 and R33. -/
abbrev curveSpeed (s : State) : Nat := (curveTerm s).2.2.2

theorem speedRecordFor_known (h : s.trip.state = .RUNNING ∨ s.trip.state = .STOPPING)
    (hc : ¬ (s.trip.mode = .CREEP ∧ ¬ bothReferenced s = true)) :
    let r := speedRecordFor s
    let v0 := min (min (envelopeTerm s .car1) (envelopeTerm s .car2)) (min (curveSpeed s) s.trip.lineCap)
    r.vPerm = (if s.trip.mode = .CREEP then min v0 s.params.creepCap.toNat else v0) ∧ r.curve = some (curveSpeed s) ∧
    r.limiting = limitingTerm r.vPerm (envelopeTerm s .car1) (envelopeTerm s .car2) (curveSpeed s) s.trip.lineCap := by
  unfold speedRecordFor
  dsimp only
  rw [if_neg fun hn => h.elim hn.1 hn.2, if_neg hc]
  refine ⟨?_, rfl, rfl⟩
  unfold modeCap
  cases s.trip.mode <;> rfl

theorem curveSpeed_empty (h : s.trip.state = .RUNNING) (hd : ((s.trip.plan.head?.map (stopDistances s)).getD []) = []) :
    curveSpeed s = s.params.creepSpeed.toNat := by
  unfold curveSpeed curveTerm
  rw [if_neg (by rw [h]; exact nofun)]
  dsimp only
  rcases hp : s.trip.plan with - | ⟨st, rest⟩
  · rfl
  · rw [hp] at hd
    dsimp only
    rw [stopDistance_eq, show stopDistances s st = [] from hd]
    rfl

theorem curveSpeed_head {d : Int} (h : s.trip.state = .RUNNING) (hd : d ∈ (s.trip.plan.head?.map (stopDistances s)).getD [])
    (hle : ∀ x ∈ (s.trip.plan.head?.map (stopDistances s)).getD [], d ≤ x) :
    curveSpeed s = max s.params.creepSpeed.toNat (curveAt s.params d) := by
  unfold curveSpeed curveTerm
  rw [if_neg (by rw [h]; exact nofun)]
  dsimp only
  rcases hp : s.trip.plan with - | ⟨st, rest⟩
  · rw [hp] at hd; cases hd
  · rw [hp] at hd hle
    dsimp only
    rw [stopDistance_least (st := st) hd hle]

theorem curveSpeed_stopping_none (h : s.trip.state = .STOPPING) (hv : s.trip.virtualStop = none) : curveSpeed s = 0 := by
  unfold curveSpeed curveTerm
  rw [if_pos h, hv]

theorem curveSpeed_stopping {v : Travel} (h : s.trip.state = .STOPPING) (hv : s.trip.virtualStop = some v) : curveSpeed s =
    curveAt s.params ((if s.trip.dir = .UP then (v - s.pos.ropeTravel).toInt else -(v - s.pos.ropeTravel).toInt) / 1000) := by
  unfold curveSpeed curveTerm dirSign
  rw [if_pos h, hv]
  dsimp only
  cases s.trip.dir
  · rw [one_mul]; rfl
  · rw [neg_one_mul]; rfl

end

/-! ## The head stop changes (R37) -/

theorem sameStop_iff (x y : Stop) : sameStop x y = true ↔
    ∃ p ∈ (stopPairs x).map fun p => (p.car, p.halt), p ∈ (stopPairs y).map fun p => (p.car, p.halt) := by
  unfold sameStop
  simp only [List.any_eq_true, Bool.and_eq_true, beq_iff_eq, List.mem_map, Prod.exists, Prod.mk.injEq]
  constructor
  · rintro ⟨p, hp, q, hq, h1, h2⟩
    exact ⟨p.car, p.halt, ⟨p, hp, rfl, rfl⟩, q, hq, h1.symm, h2.symm⟩
  · rintro ⟨c, h, ⟨p, hp, rfl, rfl⟩, q, hq, h1, h2⟩
    exact ⟨p, hp, q, hq, h1.symm, h2.symm⟩

/-- The (car, halt) pairs of the head stop of a plan. -/
def headPairs (l : List Stop) : List (CarId × Halt) := ((l.head?.map stopPairs).getD []).map fun p => (p.car, p.halt)

theorem headChanged_iff (a b : List Stop) : headChanged a b = true ↔
    (a = [] ↔ b ≠ []) ∨ (a ≠ [] ∧ b ≠ [] ∧ ∀ x ∈ headPairs a, x ∉ headPairs b) := by
  rcases a with - | ⟨x, a⟩
  · rcases b with - | ⟨y, b⟩
    · simp [headChanged]
    · simp [headChanged]
  · rcases b with - | ⟨y, b⟩
    · simp [headChanged]
    · have hs : headChanged (x :: a) (y :: b) = !sameStop x y := rfl
      rw [hs, Bool.not_eq_true', ← Bool.not_eq_true, sameStop_iff]
      simp [headPairs]

/-- A change of the head stop and an entry to RUNNING set overrun raised to no (R37). -/
theorem announceTrip_speed (a b : State) : (announceTrip a b).speed =
    if headChanged a.trip.plan b.trip.plan = true ∨ (a.trip.state ≠ .RUNNING ∧ b.trip.state = .RUNNING) then
      { b.speed with overrunRaised := false } else b.speed := by
  have hcond : (headChanged a.trip.plan b.trip.plan || (a.trip.state != b.trip.state) && (b.trip.state == .RUNNING)) = true ↔
      headChanged a.trip.plan b.trip.plan = true ∨ (a.trip.state ≠ .RUNNING ∧ b.trip.state = .RUNNING) := by
    rw [Bool.or_eq_true, Bool.and_eq_true, bne_iff_ne, beq_iff_eq]
    exact or_congr_right ⟨fun h => ⟨h.2 ▸ h.1, h.2⟩, fun h => ⟨h.2.symm ▸ h.1, h.2⟩⟩
  unfold announceTrip
  simp only [announceIf_eq]
  by_cases h : headChanged a.trip.plan b.trip.plan = true ∨ (a.trip.state ≠ .RUNNING ∧ b.trip.state = .RUNNING)
  · rw [if_pos h, if_pos (hcond.mpr h)]
  · rw [if_neg h, if_neg (mt hcond.mp h)]

/-- Settles O22: the code, the terms, the ceilings, and the field of the head stop. -/
theorem permittedCodeStandsForThePermittedSpeed : Obligations.PermittedCodeStandsForThePermittedSpeed := by
  refine ⟨fun s => ?_, fun driving s => ?_, fun b mm e he hsorted => ⟨fun hle hmax => ?_, ceilingAt_before, lowestCeiling_le he⟩,
    fun a b => ?_⟩
  · intro code v
    have hcode : code = min 0xFFE (1 + v / 5) := rfl
    omega
  · intro t p st referenced place ceiling capped curve uphill ahead distances gives overrun raised known
    obtain ⟨-, -, -, hcompare, hcode⟩ := recompute_spec driving s
    obtain ⟨⟨hv, hl, hc⟩, hfound, hnone⟩ := recompute_fields driving s
    have hahead : ∀ x : StopPair, pairDistance s x.car x.halt = ahead x := fun x =>
      if_congr (carUphill_iff s.trip.dir x.car) rfl rfl
    have hover : overrunFound s ↔ overrun := by
      refine and_congr_right' ((headOverrun_iff _).trans (exists_congr fun x => and_congr_right' ?_))
      rw [pairOverrun_iff]
      exact and_congr_right' (by rw [← hahead])
    rw [hover] at hfound hnone
    have hknown : known ↔ ¬ (s.trip.mode = .CREEP ∧ ¬ bothReferenced s = true) := by
      have hboth : bothReferenced s = true ↔ referenced .car1 ∧ referenced .car2 := (bothReferenced_iff s).trans forall_car
      rw [hboth]
      simp only [known]
      cases s.trip.mode <;> simp
    have hgives : ∀ c, st = .RUNNING ∨ st = .STOPPING → known → curveSpeed s = c → gives c := fun c hst hk hcurve => by
      obtain ⟨h1, h2, h3⟩ := speedRecordFor_known hst (hknown.mp hk)
      rw [hcurve] at h1 h2 h3
      rw [← hv] at h1 h3
      exact ⟨h1, hc.trans h2, hl.trans h3⟩
    have hdist : (s.trip.plan.head?.map (stopDistances s)).getD [] = distances := by
      have each : (s.trip.plan.head?.map (stopDistances s)).getD [] =
          ((s.trip.plan.head?.map stopPairs).getD []).filterMap (pairAhead s) := by
        rcases s.trip.plan with - | ⟨x, rest⟩ <;> rfl
      rw [each, filterMap_pairAhead]
      exact List.map_congr_left fun x _ => hahead x
    have hcurve : ∀ d, curveAt s.params d = curve d := curveAt_eq s.params
    refine ⟨fun h1 h2 => ?_, fun h hn => ?_, hfound, hnone, fun h hk hd => ?_, fun h hk d hd hle => ?_, fun h hk hn => ?_,
      fun h hk v hvs => ?_, hv ▸ hcompare, hv ▸ hcode⟩
    · obtain ⟨e1, e2⟩ := speedRecordFor_standing h1 h2
      exact ⟨hv.trans e1, hl.trans e2⟩
    · obtain ⟨e1, e2⟩ := speedRecordFor_lost h (not_not.mp (mt hknown.mpr hn))
      exact ⟨hv.trans e1, hl.trans e2⟩
    · exact hgives _ (.inl h) hk (curveSpeed_empty h (hdist.trans hd))
    · rw [← hcurve]
      exact hgives _ (.inl h) hk (curveSpeed_head h (by rw [hdist]; exact hd) (by rw [hdist]; exact hle))
    · exact hgives _ (.inr h) hk (curveSpeed_stopping_none h hn)
    · rw [← hcurve]
      exact hgives _ (.inr h) hk (curveSpeed_stopping h hvs)
  · refine ceilingAt_inside (getLast?_of_greatest (hsorted.sublist List.filter_sublist) ?_ fun x hx => ?_)
    · exact List.mem_filter.mpr ⟨he, decide_eq_true hle⟩
    · obtain ⟨hmem, hstart⟩ := List.mem_filter.mp hx
      exact hmax x hmem (of_decide_eq_true hstart)
  · intro head another entered
    have hc : headChanged a.trip.plan b.trip.plan = true ↔ another := headChanged_iff ..
    rw [announceTrip_speed]
    exact ⟨fun h => if_pos (h.imp hc.mpr id), fun h1 h2 => if_neg fun h => h.elim (fun h => h1 (hc.mp h)) h2⟩

end Sys2Proof.Machine
end

section
/-!
PROOFS. What follows the result of a recomputation (R56 to R58, R45, R48): the statement O23.
-/

namespace Sys2Proof.Machine

/-! ## What the comparison's steps leave -/

/-- What every step of a comparison keeps: positions, trip, doors and tables; notices stay pending and latches set. -/
structure CauseWork (s t : State) : Prop where
  frame : ∃ b p m w l, t = { s with brake := b, ports := p, mgmt := m, pulses := w, agenda := l }
  pending : PendingKept s t
  warning : t.brake.warning = s.brake.warning
  latchS : s.brake.latchS ≠ none → t.brake.latchS ≠ none
  latchE : s.brake.latchE ≠ none → t.brake.latchE ≠ none

theorem CauseWork.refl (s : State) : CauseWork s s := ⟨⟨_, _, _, _, _, rfl⟩, fun _ => id, rfl, id, id⟩

theorem CauseWork.trans {s t u : State} (h : CauseWork s t) (g : CauseWork t u) : CauseWork s u := by
  obtain ⟨b, p, m, w, l, ht⟩ := h.frame
  obtain ⟨b', p', m', w', l', hu⟩ := g.frame
  exact ⟨⟨b', p', m', w', l', by rw [hu, ht]⟩, fun i hi => g.pending i (h.pending i hi), g.warning.trans h.warning,
    fun hs => g.latchS (h.latchS hs), fun hs => g.latchE (h.latchE hs)⟩

theorem causesAct_work (cs : List (Cause × Stage)) (s : State) : CauseWork s (causesAct cs s) := by
  obtain ⟨b, p, v, w, l, h, -, -, -, -, hw, -, hS, hE, -⟩ := causesAct_fields cs s
  refine ⟨⟨b, p, _, w, _, h⟩, causesAct_pendingKept cs s, ?_, ?_, ?_⟩
  · rw [h]; exact hw
  · rw [h]; exact hS
  · rw [h]; exact hE

/-- A change of the active level causes: those of `on` hold, those of `off` do not, and the new ones have set their latches (R55, R61). -/
structure CausesChanged (on off : List Cause) (s t : State) : Prop extends CauseWork s t where
  active : ∀ c, c ∈ t.brake.active ↔ c ∈ on ∨ c ∈ s.brake.active ∧ c ∉ off
  newS : ∀ c ∈ on, c ∉ s.brake.active → causeStage c = .SERVICE → t.brake.latchS ≠ none
  newE : ∀ c ∈ on, c ∉ s.brake.active → causeStage c = .EMERGENCY → t.brake.latchE ≠ none
  inForce : stageInForce t = true

/-- Causes that act keep the active ones, set their latches and leave the demanded stage in force (R61, R62). -/
theorem causesAct_spec (cs : List (Cause × Stage)) (s : State) :
    (causesAct cs s).brake.active = s.brake.active ∧ stageInForce (causesAct cs s) = true ∧
    ∀ c ∈ cs, (c.2 = .SERVICE → (causesAct cs s).brake.latchS ≠ none) ∧ (c.2 = .EMERGENCY → (causesAct cs s).brake.latchE ≠ none) := by
  obtain ⟨b, p, v, w, l, h, hact, -, -, -, -, hcom, -, -, -, hlatch⟩ := causesAct_fields cs s
  rw [h]
  exact ⟨hact, beq_iff_eq.mpr hcom, fun c hc => ⟨(hlatch c hc).1, (hlatch c hc).2.1⟩⟩

/-- The active causes after a change: those that stay, then those that are new (R55). -/
def withCauses (on off : List Cause) (s : State) : State :=
  { s with brake := { s.brake with
      active := (s.brake.active.filter fun c => !(off.contains c)) ++ on.filter fun c => !(s.brake.active.contains c) } }

theorem changeCauses_eq (on off : List Cause) (s : State) : changeCauses on off s =
    causesAct ((on.filter fun c => !(s.brake.active.contains c)).map fun c => (c, causeStage c)) (withCauses on off s) := rfl

theorem changeCauses_changed {on off : List Cause} (hd : ∀ c ∈ on, c ∉ off) (s : State) :
    CausesChanged on off s (changeCauses on off s) := by
  have hset : CauseWork s (withCauses on off s) := ⟨⟨_, _, _, _, _, rfl⟩, fun _ => id, rfl, id, id⟩
  rw [changeCauses_eq]
  obtain ⟨hact, hforce, hlatch⟩ := causesAct_spec
    ((on.filter fun c => !(s.brake.active.contains c)).map fun c => (c, causeStage c)) (withCauses on off s)
  have hnew : ∀ c ∈ on, c ∉ s.brake.active →
      (c, causeStage c) ∈ (on.filter fun c => !(s.brake.active.contains c)).map fun c => (c, causeStage c) :=
    fun c hc hn => List.mem_map_of_mem (List.mem_filter.mpr ⟨hc, by simpa using hn⟩)
  refine ⟨hset.trans (causesAct_work _ _), fun c => ?_, fun c hc hn => (hlatch _ (hnew c hc hn)).1,
    fun c hc hn => (hlatch _ (hnew c hc hn)).2, hforce⟩
  rw [hact]
  simp only [withCauses, List.mem_append, List.mem_filter, List.contains_eq_mem, Bool.not_eq_true', decide_eq_false_iff_not]
  have := hd c
  tauto

theorem levelCause_eq (c : Cause) (b : Bool) (s : State) :
    levelCause c b s = changeCauses (if b then [c] else []) (if b then [] else [c]) s := by cases b <;> rfl

theorem levelCause_changed (c : Cause) (b : Bool) (s : State) :
    CausesChanged (if b then [c] else []) (if b then [] else [c]) s (levelCause c b s) := by
  rw [levelCause_eq]
  refine changeCauses_changed ?_ s
  cases b
  · exact nofun
  · exact fun _ _ => nofun

/-- Under the stage in force, with no cause active, causes that do not hold change nothing (R62). -/
theorem changeCauses_none {off : List Cause} {s : State} (ha : s.brake.active = []) (hf : stageInForce s = true) :
    changeCauses [] off s = s := by
  have hs : { s with brake := { s.brake with active := [] } } = s := by rw [← ha]
  have hrule : stageRule s = s := if_pos (beq_iff_eq.mp hf).symm
  unfold changeCauses causesAct
  simp only [ha, List.filter_nil, List.append_nil, List.map_nil, List.foldl_nil, List.any_nil, Bool.false_eq_true, and_false, if_false,
    announceIf_eq, Bool.and_not_self, hs, hrule]

/-- DOORS_NOT_LOCKED is active above the standstill threshold with a door that is not LOCKED (R58). -/
theorem evalDoorsCause_active (s : State) : .DOORS_NOT_LOCKED ∈ (evalDoorsCause s).brake.active ↔
    s.params.standstillSpeed.toNat < s.pos.measured.natAbs ∧ ∃ k sd c, (((s.doors.get k).sides.get sd).doors.get c).state ≠ .LOCKED := by
  have hcond : (aboveThreshold s && !allLocked s) = true ↔
      s.params.standstillSpeed.toNat < s.pos.measured.natAbs ∧ ∃ k sd c, (((s.doors.get k).sides.get sd).doors.get c).state ≠ .LOCKED := by
    unfold aboveThreshold
    rw [Bool.and_eq_true, decide_eq_true_eq, Bool.not_eq_true', ← Bool.not_eq_true, allLocked_iff]
    simp only [not_forall, ne_eq]
    rfl
  rw [← hcond]
  unfold evalDoorsCause
  rw [(levelCause_changed .DOORS_NOT_LOCKED _ s).active]
  cases aboveThreshold s && !allLocked s <;> simp

/-! ## The comparison (R56) -/

/-- The record, the notice and the pulse of the warning (R56). -/
theorem evalWarning_spec (v : Nat) (s : State) :
    let t := evalWarning v s
    let holds := decide (v + s.params.warningMargin.toNat < s.pos.measured.natAbs)
    (∃ p m w, t = { s with brake := { s.brake with warning := holds }, ports := p, mgmt := m, pulses := w }) ∧ PendingKept s t ∧
      (holds = true → s.brake.warning = false → (t.mgmt.notices.get (noticeIndex .OVERSPEED_WARNING)).pending = true) := by
  intro t holds
  let s1 : State := { s with brake := { s.brake with warning := holds } }
  have ht : t = if holds && !s.brake.warning then giveEvent .overspeedWarning (occur .OVERSPEED_WARNING s1) else s1 := rfl
  rw [ht]
  split
  · obtain ⟨p, n, -, hocc⟩ := occur_fields .OVERSPEED_WARNING s1
    refine ⟨⟨p, { s.mgmt with notices := n }, (giveEvent .overspeedWarning (occur .OVERSPEED_WARNING s1)).pulses, ?_⟩, fun i hi => ?_, fun _ _ => ?_⟩
    · rw [hocc]
      rfl
    · exact occur_pendingKept .OVERSPEED_WARNING s1 i hi
    · exact occur_pending .OVERSPEED_WARNING s1
  next hn =>
    refine ⟨⟨_, _, _, rfl⟩, fun _ => id, fun hh hw => absurd ?_ hn⟩
    rw [hh, hw]
    rfl

/-- The overspeed causes after a comparison with the permitted speed `v` (R56). -/
def overspeedCompared (v : Nat) (s : State) : State :=
  changeCauses (overspeedCauses v s)
    ([.OVERSPEED_SERVICE, .OVERSPEED_EMERGENCY, .OVERSPEED_ABSOLUTE].filter fun c => !((overspeedCauses v s).contains c)) s

/-- The comparison with the rollback examination of a driving sample (R56, R57). -/
def speedCompared (driving : Bool) (v : Nat) (s : State) : State :=
  if driving then examineRollback (overspeedCompared v (evalWarning v s)) else overspeedCompared v (evalWarning v s)

theorem brakeCompare_eq (driving : Bool) (v : Nat) (s : State) :
    brakeCompare driving v s = evalDoorsCause (speedCompared driving v s) := rfl

theorem mem_overspeedCauses (v : Nat) (s : State) (c : Cause) : c ∈ overspeedCauses v s ↔
    c = .OVERSPEED_SERVICE ∧ v + s.params.serviceMargin.toNat < s.pos.measured.natAbs ∨
    c = .OVERSPEED_EMERGENCY ∧ v + s.params.emergencyMargin.toNat < s.pos.measured.natAbs ∨
    c = .OVERSPEED_ABSOLUTE ∧ s.params.designMax.toNat * 115 / 100 < s.pos.measured.natAbs := by
  have single : ∀ (p : Prop) [Decidable p] (d : Cause), c ∈ (if p then [d] else []) ↔ c = d ∧ p := by
    intro p _ d
    split <;> simp [*]
  unfold overspeedCauses State.speedNow
  rw [List.mem_append, List.mem_append, single, single, single, or_assoc]

theorem overspeedCompared_changed (v : Nat) (s : State) : ∃ off, CausesChanged (overspeedCauses v s) off s (overspeedCompared v s) ∧
    ∀ c, c = .OVERSPEED_SERVICE ∨ c = .OVERSPEED_EMERGENCY ∨ c = .OVERSPEED_ABSOLUTE → c ∉ overspeedCauses v s → c ∈ off := by
  refine ⟨_, changeCauses_changed (fun c hc => ?_) s, fun c hc hn => ?_⟩
  · simp [hc]
  · simpa [hn] using hc

/-- The rollback examination leaves the active causes (R57). -/
theorem examineRollback_work (s : State) : CauseWork s (examineRollback s) ∧ (examineRollback s).brake.active = s.brake.active := by
  unfold examineRollback
  split
  · exact ⟨.refl s, rfl⟩
  · dsimp only
    split
    · exact ⟨⟨⟨_, _, _, _, _, rfl⟩, fun _ => id, rfl, id, id⟩, rfl⟩
    · split
      · let s1 : State := { s with brake := { s.brake with rollback := none } }
        obtain ⟨p, n, -, hocc⟩ := occur_fields .ROLLBACK s1
        have hwork : CauseWork s (occur .ROLLBACK s1) := by
          refine ⟨⟨_, p, _, _, _, hocc⟩, occur_pendingKept .ROLLBACK s1, ?_, ?_, ?_⟩ <;> rw [occur_brake]
          · exact id
          · exact id
        refine ⟨hwork.trans (causesAct_work _ _), (raiseEvent_emergency .ROLLBACK _).2.1.trans ?_⟩
        rw [occur_brake]
      · exact ⟨.refl s, rfl⟩

/-- What a comparison leaves of the state it began with, but for the warning (R56). -/
theorem speedCompared_changed (driving : Bool) (v : Nat) (s : State) : ∃ off : List Cause,
    CauseWork (evalWarning v s) (speedCompared driving v s) ∧
    (∀ c, c = .OVERSPEED_SERVICE ∨ c = .OVERSPEED_EMERGENCY ∨ c = .OVERSPEED_ABSOLUTE →
      (c ∈ (speedCompared driving v s).brake.active ↔ c ∈ overspeedCauses v (evalWarning v s))) ∧
    (∀ c, c ∈ (speedCompared driving v s).brake.active ↔
      c ∈ overspeedCauses v (evalWarning v s) ∨ c ∈ s.brake.active ∧ c ∉ off) ∧
    ∀ c ∈ overspeedCauses v (evalWarning v s), c ∉ s.brake.active →
      (causeStage c = .SERVICE → (speedCompared driving v s).brake.latchS ≠ none) ∧
      (causeStage c = .EMERGENCY → (speedCompared driving v s).brake.latchE ≠ none) := by
  obtain ⟨off, hch, hoff⟩ := overspeedCompared_changed v (evalWarning v s)
  obtain ⟨hw, hact⟩ : CauseWork (overspeedCompared v (evalWarning v s)) (speedCompared driving v s) ∧
      (speedCompared driving v s).brake.active = (overspeedCompared v (evalWarning v s)).brake.active := by
    cases driving
    · exact ⟨.refl _, rfl⟩
    · exact examineRollback_work _
  obtain ⟨⟨p, m, w, hwarn⟩, -, -⟩ := evalWarning_spec v s
  have hold : (evalWarning v s).brake.active = s.brake.active := by rw [hwarn]
  have hiff := fun c => hch.active c
  refine ⟨off, hch.toCauseWork.trans hw, fun c hc => ?_, fun c => ?_, fun c hc hn => ⟨fun h => ?_, fun h => ?_⟩⟩
  · rw [hact, hiff]
    exact ⟨fun h => h.elim id fun h => by_contra fun hn => h.2 (hoff c hc hn), .inl⟩
  · rw [hact, hiff, hold]
  · exact hw.latchS (hch.newS c hc (by rwa [hold]) h)
  · exact hw.latchE (hch.newE c hc (by rwa [hold]) h)

/-! ## The rollback examination (R57) -/

/-- RELEASED is demanded only without an active cause and without a latch (R62). -/
theorem demandedStage_released {b : Supervisor} (h : demandedStage b = .RELEASED) :
    b.active = [] ∧ b.latchS = none ∧ b.latchE = none ∧ b.latchR = none := by
  obtain ⟨-, hlatch, hcause⟩ := (demandedStage_le_iff b 0).mp (by rw [h]; decide)
  refine ⟨List.eq_nil_iff_forall_not_mem.mpr fun c hc => absurd (hcause c hc) ?_, ?_⟩
  · cases c <;> decide
  · unfold latchStage at hlatch
    split at hlatch
    · exact absurd hlatch (by decide)
    next hR =>
      split at hlatch
      · exact absurd hlatch (by decide)
      next hE =>
        split at hlatch
        · exact absurd hlatch (by decide)
        next hS => exact ⟨Option.not_isSome_iff_eq_none.mp hS, Option.not_isSome_iff_eq_none.mp hE, Option.not_isSome_iff_eq_none.mp hR⟩

/-- Nothing demands a stage but the trip request, and the stage in force is the demanded one. -/
structure AllQuiet (s : State) : Prop where
  active : s.brake.active = []
  latchE : s.brake.latchE = none
  latchR : s.brake.latchR = none
  inForce : stageInForce s = true

theorem allQuiet_of_released {s : State} (hf : stageInForce s = true) (hc : s.brake.commanded = .RELEASED) : AllQuiet s := by
  have hd : demandedStage s.brake = .RELEASED := (beq_iff_eq.mp hf).symm.trans hc
  obtain ⟨ha, -, hE, hR⟩ := demandedStage_released hd
  exact ⟨ha, hE, hR, hf⟩

theorem evalWarning_quiet {s : State} (h : AllQuiet s) (v : Nat) : AllQuiet (evalWarning v s) := by
  obtain ⟨⟨p, m, w, hwarn⟩, -, -⟩ := evalWarning_spec v s
  rw [hwarn]
  exact ⟨h.active, h.latchE, h.latchR, h.inForce⟩

/-- ROLLBACK on its own: latch E with EMERGENCY in force, the monitor OFF, no cause active and the notice pending (R55, R57). -/
theorem raiseRollback_spec {s : State} (h : AllQuiet s) :
    let t := raiseEvent .ROLLBACK .EMERGENCY (occur .ROLLBACK { s with brake := { s.brake with rollback := none } })
    t.brake.active = [] ∧ t.brake.rollback = none ∧ t.brake.latchE = some .ROLLBACK ∧ t.brake.commanded = .EMERGENCY ∧
      stageInForce t = true ∧ (t.mgmt.notices.get (noticeIndex .ROLLBACK)).pending = true := by
  intro t
  obtain ⟨u, hu⟩ : ∃ u, u = occur .ROLLBACK { s with brake := { s.brake with rollback := none } } := ⟨_, rfl⟩
  have ht : t = causesAct [(.ROLLBACK, .EMERGENCY)] u := by rw [hu]; rfl
  have hub : u.brake = { s.brake with rollback := none } := by rw [hu, occur_brake]
  obtain ⟨x, y, z, w, hset, hb⟩ := causesAct_brake [(.ROLLBACK, .EMERGENCY)] u
  obtain ⟨b, hbs⟩ : ∃ b : State, b = { u with brake := { u.brake with latchS := x, latchE := y, latchR := z }, pulses := w } := ⟨_, rfl⟩
  rw [← hbs] at hset hb
  have hlatched : b.brake = { s.brake with rollback := none, latchE := some .ROLLBACK } := by
    have hE : ¬ u.brake.latchE.isSome = true := by rw [hub]; simp [h.latchE]
    have : setLatch .ROLLBACK .EMERGENCY u = giveEvent .latchSet { u with brake := { u.brake with latchE := some .ROLLBACK } } := if_neg hE
    rw [← hset]
    exact (congrArg State.brake this).trans (by rw [giveEvent_brake, hub])
  have hdem : demandedStage b.brake = .EMERGENCY := by
    rw [hlatched]
    unfold demandedStage latchStage requestStage
    simp only [h.active, h.latchR, Option.isSome_none, Option.isSome_some, List.foldl_nil, Bool.false_eq_true, if_false, if_true]
    split <;> rfl
  have hroll : (stageRule b).brake.rollback = none ∧ (stageRule b).brake.latchE = some .ROLLBACK := by
    rw [stageRule_brake]
    split
    · rw [hlatched]
      exact ⟨rfl, rfl⟩
    · rw [hdem, hlatched]
      exact ⟨rfl, rfl⟩
  obtain ⟨hact, hforce, -⟩ := causesAct_spec [(.ROLLBACK, .EMERGENCY)] u
  have hpend : (u.mgmt.notices.get (noticeIndex .ROLLBACK)).pending = true := by rw [hu]; exact occur_pending ..
  rw [ht]
  refine ⟨?_, ?_, ?_, ?_, hforce, causesAct_pendingKept _ _ _ hpend⟩
  · rw [hact, hub]
    exact h.active
  · rw [hb]
    exact hroll.1
  · rw [hb]
    exact hroll.2
  · rw [hb]
    exact (stageRule_commanded_eq b).trans hdem

theorem overspeedCauses_nil {v : Nat} {s : State} (h1 : s.pos.measured.natAbs ≤ v + s.params.serviceMargin.toNat)
    (h2 : s.pos.measured.natAbs ≤ v + s.params.emergencyMargin.toNat)
    (h3 : s.pos.measured.natAbs ≤ s.params.designMax.toNat * 115 / 100) : overspeedCauses v s = [] := by
  refine List.eq_nil_iff_forall_not_mem.mpr fun c hc => ?_
  rw [mem_overspeedCauses] at hc
  omega

theorem overspeedCompared_quiet {v : Nat} {s : State} (h : AllQuiet s) (hn : overspeedCauses v s = []) : overspeedCompared v s = s := by
  unfold overspeedCompared
  rw [hn]
  exact changeCauses_none h.active h.inForce

/-- A doors cause that does not hold changes nothing where no cause is active (R58). -/
theorem evalDoorsCause_quiet {s : State} (ha : s.brake.active = []) (hf : stageInForce s = true)
    (hu : ¬ (s.params.standstillSpeed.toNat < s.pos.measured.natAbs ∧
      ∃ k sd c, (((s.doors.get k).sides.get sd).doors.get c).state ≠ .LOCKED)) : evalDoorsCause s = s := by
  unfold evalDoorsCause
  cases hb : aboveThreshold s && !allLocked s
  · exact changeCauses_none ha hf
  · refine absurd ((evalDoorsCause_active s).mp ?_) hu
    unfold evalDoorsCause
    rw [hb, (levelCause_changed ..).active]
    exact .inl (List.mem_singleton_self _)

/-- How far the rope advanced in the trip direction since the rollback base (R57). -/
def advanceOf (s : State) (base : BitVec 48) : Int := dirSign s.trip.dir * (s.pos.ropeTravel - base).toInt

theorem advanceOf_eq (s : State) (base : BitVec 48) : advanceOf s base =
    if s.trip.dir = .UP then (s.pos.ropeTravel - base).toInt else -(s.pos.ropeTravel - base).toInt := by
  unfold advanceOf dirSign
  cases s.trip.dir <;> simp

theorem examineRollback_some {s : State} {base : BitVec 48} (h : s.brake.rollback = some base) : examineRollback s =
    if 0 < advanceOf s base then { s with brake := { s.brake with rollback := some s.pos.ropeTravel } }
    else if (s.params.rollbackLimit.toNat : Int) * 1000 < -advanceOf s base then
      raiseEvent .ROLLBACK .EMERGENCY (occur .ROLLBACK { s with brake := { s.brake with rollback := none } })
    else s := by
  unfold examineRollback
  rw [h]
  rfl

theorem examineRollback_none {s : State} (h : s.brake.rollback = none) : examineRollback s = s := by
  unfold examineRollback
  rw [h]

/-- A door that is not LOCKED, above the standstill threshold (R58). -/
abbrev movesUnlocked (s : State) : Prop := s.params.standstillSpeed.toNat < s.pos.measured.natAbs ∧
  ∃ k sd c, (((s.doors.get k).sides.get sd).doors.get c).state ≠ .LOCKED

/-- Where no overspeed and no doors cause holds, the comparison is the warning and the rollback examination (R57). -/
theorem brakeCompare_quiet {driving : Bool} {v : Nat} {s : State} (h : AllQuiet s)
    (hn : overspeedCauses v (evalWarning v s) = []) : brakeCompare driving v s =
      evalDoorsCause (if driving then examineRollback (evalWarning v s) else evalWarning v s) := by
  rw [brakeCompare_eq]
  unfold speedCompared
  rw [overspeedCompared_quiet (evalWarning_quiet h v) hn]

/-- The rollback monitor after a comparison where no other cause holds (R57). -/
theorem brakeCompare_rollback {driving : Bool} {v : Nat} {s : State} (h : AllQuiet s) (hu : ¬ movesUnlocked s)
    (hn : overspeedCauses v (evalWarning v s) = []) :
    let t := brakeCompare driving v s
    (s.brake.rollback = none ∨ driving = false → t.brake.rollback = s.brake.rollback) ∧
    (driving = true → ∀ base, s.brake.rollback = some base →
      (0 < advanceOf s base → t.brake.rollback = some s.pos.ropeTravel ∧ t.brake.latchE = none) ∧
      ((s.params.rollbackLimit.toNat : Int) * 1000 < -advanceOf s base → t.brake.rollback = none ∧ t.brake.latchE = some .ROLLBACK ∧
        t.brake.commanded = .EMERGENCY ∧ (t.mgmt.notices.get (noticeIndex .ROLLBACK)).pending = true) ∧
      (advanceOf s base ≤ 0 → -advanceOf s base ≤ (s.params.rollbackLimit.toNat : Int) * 1000 →
        t.brake.rollback = some base ∧ t.brake.latchE = none)) := by
  intro t
  have ht : t = evalDoorsCause (if driving then examineRollback (evalWarning v s) else evalWarning v s) := brakeCompare_quiet h hn
  have h1 : AllQuiet (evalWarning v s) := evalWarning_quiet h v
  obtain ⟨⟨p, m, w, hwarn⟩, -, -⟩ := evalWarning_spec v s
  generalize evalWarning v s = s1 at ht h1 hwarn
  have hroll : s1.brake.rollback = s.brake.rollback := by rw [hwarn]
  have hpos : s1.pos = s.pos := by rw [hwarn]
  have htrip : s1.trip = s.trip := by rw [hwarn]
  have hpar : s1.params = s.params := by rw [hwarn]; rfl
  have hdoors : s1.doors = s.doors := by rw [hwarn]
  have hadv : ∀ base, advanceOf s1 base = advanceOf s base := fun base => by unfold advanceOf; rw [htrip, hpos]
  have hu1 : ¬ movesUnlocked s1 := by
    unfold movesUnlocked
    rw [hpos, hpar, hdoors]
    exact hu
  have hstay : evalDoorsCause s1 = s1 := evalDoorsCause_quiet h1.active h1.inForce hu1
  refine ⟨fun hcase => ?_, fun hdr base hb => ?_⟩
  · have hsame : (if driving then examineRollback s1 else s1) = s1 := by
      rcases hcase with hnone | hdr
      · rw [examineRollback_none (hroll.trans hnone)]
        exact ite_self _
      · rw [hdr]
        rfl
    rw [ht, hsame, hstay, hroll]
  · rw [hdr, if_pos rfl, examineRollback_some (hroll.trans hb), hadv, hpar] at ht
    refine ⟨fun hpos' => ?_, fun hback => ?_, fun hle hlim => ?_⟩
    · rw [if_pos hpos', evalDoorsCause_quiet (by exact h1.active) (by exact h1.inForce) (by exact hu1)] at ht
      rw [ht, ← hpos]
      exact ⟨rfl, h1.latchE⟩
    · rw [if_neg (by omega), if_pos hback] at ht
      obtain ⟨hact, hr, hE, hcom, hforce, hpend⟩ := raiseRollback_spec h1
      have hframe := (examineRollback_work s1).1.frame
      rw [examineRollback_some (hroll.trans hb), hadv, if_neg (by omega), hpar, if_pos hback] at hframe
      generalize raiseEvent .ROLLBACK .EMERGENCY (occur .ROLLBACK { s1 with brake := { s1.brake with rollback := none } }) = u at *
      obtain ⟨b, p', m', w', l, hfr⟩ := hframe
      have hu2 : ¬ movesUnlocked u := by rw [hfr]; exact hu1
      rw [ht, evalDoorsCause_quiet hact hforce hu2]
      exact ⟨hr, hE, hcom, hpend⟩
    · rw [if_neg (by omega), if_neg (by omega), hstay] at ht
      rw [ht]
      exact ⟨hroll.trans hb, h1.latchE⟩

/-- The causes, the warning and the stage that a comparison leaves (R56, R58). -/
theorem brakeCompare_causes (driving : Bool) (v : Nat) (s : State) :
    let t := brakeCompare driving v s
    (∀ c, c = .OVERSPEED_SERVICE ∨ c = .OVERSPEED_EMERGENCY ∨ c = .OVERSPEED_ABSOLUTE →
      (c ∈ t.brake.active ↔ c ∈ overspeedCauses v (evalWarning v s)) ∧
      (c ∈ overspeedCauses v (evalWarning v s) → c ∉ s.brake.active →
        (causeStage c = .SERVICE → t.brake.latchS ≠ none) ∧ (causeStage c = .EMERGENCY → t.brake.latchE ≠ none))) ∧
    (.DOORS_NOT_LOCKED ∈ t.brake.active ↔ movesUnlocked s) ∧
    (movesUnlocked s → .DOORS_NOT_LOCKED ∉ s.brake.active → t.brake.latchE ≠ none) ∧
    stageInForce t = true ∧ CauseWork (evalWarning v s) t := by
  intro t
  obtain ⟨off, hwork, hiff, hall, hnew⟩ := speedCompared_changed driving v s
  have ht : t = evalDoorsCause (speedCompared driving v s) := brakeCompare_eq driving v s
  obtain ⟨⟨p, m, w, hwarn⟩, -, -⟩ := evalWarning_spec v s
  have hnotDoors : Cause.DOORS_NOT_LOCKED ∉ overspeedCauses v (evalWarning v s) := fun hm => by
    rw [mem_overspeedCauses] at hm
    rcases hm with ⟨hc, -⟩ | ⟨hc, -⟩ | ⟨hc, -⟩ <;> cases hc
  have hmoves : movesUnlocked (speedCompared driving v s) ↔ movesUnlocked s := by
    obtain ⟨b, p', m', w', l, hfr⟩ := hwork.frame
    rw [hfr, hwarn]
    rfl
  generalize speedCompared driving v s = u at *
  have hdoors : .DOORS_NOT_LOCKED ∈ t.brake.active ↔ movesUnlocked s := by
    rw [ht, evalDoorsCause_active]
    exact hmoves
  have hch := levelCause_changed .DOORS_NOT_LOCKED (aboveThreshold u && !allLocked u) u
  have ht' : t = levelCause .DOORS_NOT_LOCKED (aboveThreshold u && !allLocked u) u := ht
  rw [← ht'] at hch
  refine ⟨fun c hc => ⟨?_, fun hm hn => ⟨fun hs => hch.latchS ((hnew c hm hn).1 hs), fun he => hch.latchE ((hnew c hm hn).2 he)⟩⟩,
    hdoors, fun hm hn => ?_, hch.inForce, hwork.trans hch.toCauseWork⟩
  · have hne : c ≠ .DOORS_NOT_LOCKED := by rcases hc with rfl | rfl | rfl <;> decide
    rw [hch.active, ← hiff c hc]
    cases aboveThreshold u && !allLocked u <;> simp [hne]
  · have hon : (aboveThreshold u && !allLocked u) = true := by
      by_contra hoff
      rw [Bool.not_eq_true] at hoff
      have hin := hdoors.mpr hm
      rw [hch.active, hoff] at hin
      simp at hin
    rw [hon] at hch
    refine hch.newE _ (List.mem_singleton_self _) (fun hin => ?_) rfl
    exact ((hall _).mp hin).elim hnotDoors fun h => hn h.1

/-! ## The demand in the queue (R45, R48) -/

theorem queuedDemand_content {s : State} {f : OutFrame} {q : DemandP} (h : queuedDemand s = some (f, q)) : f.content = .demand q := by
  unfold queuedDemand at h
  split at h
  · split at h
    next hc => cases h; exact hc
    · cases h
  · cases h

theorem find_replaceFirst {α : Type} {p : α → Bool} {x : α} (hx : p x = true) (l : List α) (hl : l.any p = true) :
    (replaceFirst p x l).find? p = some x := by
  induction l with
  | nil => cases hl
  | cons y l ih =>
    unfold replaceFirst
    split
    · exact List.find?_cons_of_pos hx
    next hy => rw [List.find?_cons_of_neg hy, ih (by simpa [hy] using hl)]

/-- A DEMAND toward the drive that is placed is the one held in the queue (R45, R168). -/
theorem queuedDemand_placed (dst src : Byte) (p : DemandP) (s : State) :
    queuedDemand (placeUrgent ⟨dst, src, some .DRIVE, .demand p⟩ s) = some (⟨dst, src, some .DRIVE, .demand p⟩, p) := by
  obtain ⟨x, hx⟩ : ∃ x : OutFrame, x = ⟨dst, src, some .DRIVE, .demand p⟩ := ⟨_, rfl⟩
  have hkey : sameKey x = isDemand := by
    funext y
    rw [hx]
    unfold sameKey isDemand
    rw [Bool.beq_comm (a := contentKind y.content), Bool.beq_comm (a := y.role)]
    rfl
  have hself : isDemand x = true := by rw [hx]; rfl
  have hfind : (s.ports.f.withUrgent x).urgent.find? isDemand = some x := by
    unfold Port.withUrgent
    split
    next hany =>
      rw [hkey] at hany ⊢
      exact find_replaceFirst hself _ hany
    next hany =>
      rw [hkey] at hany
      have hnone : s.ports.f.urgent.find? isDemand = none := by simpa [List.find?_eq_none] using hany
      change (s.ports.f.urgent ++ [x]).find? isDemand = some x
      rw [List.find?_append, hnone, List.find?_cons_of_pos hself]
      rfl
  rw [← hx]
  unfold queuedDemand
  rw [placeUrgent_fields, hfind, hx]

/-- A held DEMAND that is lowered: in its place, with the code, the direction and the clamp flag (R45). -/
theorem lowerQueued_held {s : State} {f : OutFrame} {q : DemandP} (h : queuedDemand s = some (f, q)) (code : Nat) (dir : Dir) :
    let r : DemandP := { q with code := BitVec.ofNat 16 code, dir := dir, flags := q.flags ||| 0x02#8 }
    queuedDemand (lowerQueued f q code dir s) = some ({ f with content := .demand r }, r) := by
  intro r
  have hf : ({ f with content := .demand r } : OutFrame) = ⟨f.dst, f.src, some .DRIVE, .demand r⟩ := by
    rw [← queuedDemand_key h]
  rw [hf]
  refine Eq.trans ?_ (queuedDemand_placed f.dst f.src r s)
  unfold lowerQueued
  rw [← hf]
  rfl

theorem codeOf_eq (v : Nat) : codeOf v = min 0xFFE (1 + v / 5) := rfl

theorem codeOf_toNat (v : Nat) : (BitVec.ofNat 16 (codeOf v)).toNat = codeOf v := by
  rw [BitVec.toNat_ofNat, codeOf_eq]
  omega

theorem lowerToCode_some {s : State} {f : OutFrame} {q : DemandP} (h : queuedDemand s = some (f, q)) (code : Nat) :
    lowerToCode code s = if code < q.code.toNat then lowerQueued f q code q.dir s else s := by
  unfold lowerToCode
  rw [h]

theorem lowerToCode_none {s : State} (h : queuedDemand s = none) (code : Nat) : lowerToCode code s = s := by
  unfold lowerToCode
  rw [h]

/-- Lowering changes the queue and last forwarded alone (R45). -/
theorem lowerToCode_frame (code : Nat) (s : State) : ∃ p l,
    lowerToCode code s = { s with ports := p, filter := { s.filter with lastForwarded := l } } := by
  unfold lowerToCode
  split
  · split
    · exact ⟨_, _, rfl⟩
    · exact ⟨_, _, rfl⟩
  · exact ⟨_, _, rfl⟩

/-- A held DEMAND is within the code it was lowered to (R45). -/
theorem lowerToCode_le (v : Nat) {s : State} {f : OutFrame} {q : DemandP} (h : queuedDemand (lowerToCode (codeOf v) s) = some (f, q)) :
    q.code.toNat ≤ codeOf v := by
  rcases hq : queuedDemand s with _ | ⟨g, p⟩
  · rw [lowerToCode_none hq, hq] at h
    cases h
  · rw [lowerToCode_some hq] at h
    split at h
    · rw [lowerQueued_held hq] at h
      cases h
      exact (codeOf_toNat v).le
    next hle =>
      rw [hq] at h
      cases h
      omega

/-- The substitute of a driving sample takes the place of a held DEMAND (R48). -/
theorem substituteDemand_some {s : State} {e : NodeEntry} (he : firstRole s.active.b .DRIVE = some e) (v : Nat) :
    let sent := if s.trip.state = .STOPPING ∧ s.brake.latchS ≠ none then 1 else codeOf v
    let r : DemandP := ⟨BitVec.ofNat 16 sent, BitVec.ofNat 8 (s.params.accelMax.toNat / 10), s.trip.dir, 0x01#8⟩
    let t := substituteDemand (codeOf v) s
    queuedDemand t = some (⟨e.address, s.mgmt.ownAddress, some .DRIVE, .demand r⟩, r) ∧
      t.filter = { s.filter with lastForwarded := some sent } ∧ sent ≤ codeOf v ∧ r.code.toNat = sent := by
  intro sent r t
  have hsent : (if s.trip.state = .STOPPING ∧ s.brake.latchS.isSome then zeroSpeedCode else codeOf v) = sent := by
    simp only [Option.isSome_iff_ne_none]
    rfl
  have hle : sent ≤ codeOf v := by
    have := codeOf_eq v
    change (if _ then _ else _) ≤ _
    split <;> omega
  have hcode : r.code.toNat = sent := by
    have := codeOf_eq v
    change (BitVec.ofNat 16 sent).toNat = sent
    rw [BitVec.toNat_ofNat]
    omega
  have ht : t = placeDemand e.address s.mgmt.ownAddress r s := by
    change substituteDemand (codeOf v) s = _
    unfold substituteDemand
    rw [he]
    dsimp only
    rw [hsent]
    rfl
  refine ⟨?_, ?_, hle, hcode⟩
  · rw [ht]
    exact queuedDemand_placed ..
  · rw [ht]
    exact congrArg (fun n => { s.filter with lastForwarded := some n }) hcode

theorem demandTakesCode_eq (driving : Bool) (v : Nat) (s : State) : demandTakesCode driving v s =
    if driving = true ∧ s.filter.substitution = true then substituteDemand (codeOf v) (lowerToCode (codeOf v) s)
    else lowerToCode (codeOf v) s := by
  obtain ⟨p, l, h⟩ := lowerToCode_frame (codeOf v) s
  unfold demandTakesCode
  dsimp only
  rw [show (lowerToCode (codeOf v) s).filter.substitution = s.filter.substitution by rw [h]]
  simp only [Bool.and_eq_true]

/-- Every held DEMAND is within the code that the filter took (R45, R48). -/
theorem demandTakesCode_le {driving : Bool} {v : Nat} {s : State} {f : OutFrame} {q : DemandP}
    (h : queuedDemand (demandTakesCode driving v s) = some (f, q)) : q.code.toNat ≤ codeOf v := by
  rw [demandTakesCode_eq] at h
  split at h
  · rcases he : firstRole (lowerToCode (codeOf v) s).active.b .DRIVE with _ | e
    · unfold substituteDemand at h
      rw [he] at h
      exact lowerToCode_le v h
    · obtain ⟨hheld, -, hle, hcode⟩ := substituteDemand_some he v
      rw [hheld] at h
      cases h
      exact hcode.le.trans hle
  · exact lowerToCode_le v h

theorem turnQueued_some {s : State} {f : OutFrame} {q : DemandP} (h : queuedDemand s = some (f, q)) :
    turnQueued s = if q.dir = s.trip.dir then s else lowerQueued f q zeroSpeedCode s.trip.dir s := by
  unfold turnQueued
  rw [h]

theorem lowerForLatchS_some {s : State} {f : OutFrame} {q : DemandP} (h : queuedDemand s = some (f, q)) : lowerForLatchS s =
    if s.trip.state = .STOPPING then (if q.code.toNat = 1 then s else lowerQueued f q 1 q.dir s) else s := by
  unfold lowerForLatchS
  rw [h]
  rfl

theorem lowerForLatchS_none {s : State} (h : queuedDemand s = none) : lowerForLatchS s = s := by
  unfold lowerForLatchS
  rw [h]
  exact ite_self s

/-! ## O23 -/

theorem brakeDoorsChanged_active (s : State) : (brakeDoorsChanged s).brake.active = (evalDoorsCause s).brake.active := by
  unfold brakeDoorsChanged
  dsimp only
  split
  · obtain ⟨c, o, r, d, p, v, l, h⟩ := stageRule_fields
      { evalDoorsCause s with brake := { (evalDoorsCause s).brake with wantsRelease := false } }
    change (requestHold (evalDoorsCause s)).brake.active = _
    unfold requestHold
    rw [h]
  · rfl

theorem stageRule_rollback {s : State} (h : demandedStage s.brake ≠ s.brake.commanded) : (stageRule s).brake.rollback =
    if demandedStage s.brake = .RELEASED then some s.pos.ropeTravel else none := by
  rw [stageRule_brake, if_neg h]

/-- Settles O23: the comparison by its causes, the demand filter by what is held in the queue. -/
theorem resultsAreComparedAndSent : Obligations.ResultsAreComparedAndSent := by
  refine ⟨?_, fun s => ⟨stageRule_rollback, ?_⟩, ?_⟩
  · intro driving v s t n p follows unlocked
    obtain ⟨hspeeds, hdoors, hlatch, hforce, hwork⟩ := brakeCompare_causes driving v s
    obtain ⟨⟨pp, m, w, hwarn⟩, hkept, hnotice⟩ := evalWarning_spec v s
    have hmem : ∀ c, c ∈ overspeedCauses v (evalWarning v s) ↔ c ∈ overspeedCauses v s := fun c => by
      rw [mem_overspeedCauses, mem_overspeedCauses, hwarn]
      rfl
    have hwarning : t.brake.warning = decide (v + p.warningMargin.toNat < n) := by
      rw [hwork.warning, hwarn]
    have hfollows : ∀ (c : Cause) (holds : Prop) (latch : Supervisor → Option Cause),
        c = .OVERSPEED_SERVICE ∧ latch = Supervisor.latchS ∨ (c = .OVERSPEED_EMERGENCY ∨ c = .OVERSPEED_ABSOLUTE) ∧ latch = Supervisor.latchE →
        (c ∈ overspeedCauses v s ↔ holds) → follows c holds latch := by
      intro c holds latch hc hiff
      rw [← hmem c] at hiff
      rcases hc with ⟨rfl, rfl⟩ | ⟨hc, rfl⟩
      · obtain ⟨hact, hnew⟩ := hspeeds .OVERSPEED_SERVICE (.inl rfl)
        exact ⟨hact.trans hiff, fun hh hn => (hnew (hiff.mpr hh) hn).1 rfl⟩
      · obtain ⟨hact, hnew⟩ := hspeeds c (.inr hc)
        exact ⟨hact.trans hiff, fun hh hn => (hnew (hiff.mpr hh) hn).2 (by rcases hc with rfl | rfl <;> rfl)⟩
    obtain ⟨b, pp', m', w', l, hframe⟩ := hwork.frame
    refine ⟨by rw [hwarning, decide_eq_true_iff], fun ht hs => hwork.pending _ (hnotice (hwarning.symm.trans ht) hs),
      hfollows _ _ _ (.inl ⟨rfl, rfl⟩) ?_, hfollows _ _ _ (.inr ⟨.inl rfl, rfl⟩) ?_, hfollows _ _ _ (.inr ⟨.inr rfl, rfl⟩) ?_,
      ⟨hdoors, hlatch⟩, fun hf hrel h1 h2 h3 hu => ?_, hforce, ?_⟩
    · simp [mem_overspeedCauses]
      rfl
    · simp [mem_overspeedCauses]
      rfl
    · simp [mem_overspeedCauses]
      rfl
    · have hnil : overspeedCauses v (evalWarning v s) = [] :=
        List.eq_nil_iff_forall_not_mem.mpr fun c hc => by
          rw [hmem, overspeedCauses_nil h1 h2 h3] at hc
          cases hc
      obtain ⟨hkeep, hdriving⟩ := brakeCompare_rollback (allQuiet_of_released hf hrel) hu hnil
      refine ⟨hkeep, fun hd base hb => ?_⟩
      have := hdriving hd base hb
      rw [advanceOf_eq] at this
      exact this
    · have ht : t = _ := hframe
      rw [ht, hwarn]
      exact ⟨rfl, rfl, rfl, rfl, rfl, rfl⟩
  · rw [brakeDoorsChanged_active]
    exact evalDoorsCause_active s
  · intro s held frame lowered
    refine ⟨fun driving v => ?_, fun f q hq => ⟨fun hst hne => ?_, fun hcase => ?_, fun hne => ?_, fun heq => ?_⟩,
      fun hnone => ⟨lowerForLatchS_none hnone, ?_⟩⟩
    · intro t code substitutes
      have hcode : code = codeOf v := (codeOf_eq v).symm
      rw [hcode]
      refine ⟨fun f q h => demandTakesCode_le h, fun hn => ?_, fun hs e he => ?_⟩
      · have ht : t = lowerToCode (codeOf v) s := (demandTakesCode_eq driving v s).trans (if_neg hn)
        rw [ht]
        refine ⟨fun hnone => lowerToCode_none hnone _, fun f q hq => ⟨fun hle => ?_, fun hlt => ?_⟩⟩
        · rw [lowerToCode_some hq, if_neg (by omega)]
        · rw [lowerToCode_some hq, if_pos hlt]
          exact ⟨lowerQueued_held hq _ _, rfl⟩
      · have ht : t = substituteDemand (codeOf v) (lowerToCode (codeOf v) s) := (demandTakesCode_eq driving v s).trans (if_pos hs)
        obtain ⟨p, l, hlow⟩ := lowerToCode_frame (codeOf v) s
        rw [ht, hlow]
        obtain ⟨hheld, hfilter, -⟩ := substituteDemand_some (s := { s with ports := p, filter := { s.filter with lastForwarded := l } }) he v
        exact ⟨hheld, hfilter⟩
    · rw [lowerForLatchS_some hq, if_pos hst, if_neg hne]
      exact ⟨lowerQueued_held hq _ _, rfl⟩
    · rw [lowerForLatchS_some hq]
      rcases hcase with h | h
      · rw [if_neg h]
      · rw [if_pos h, ite_self]
    · have ht : demandTakesTrip none s = lowerQueued f q 1 s.trip.dir s := (turnQueued_some hq).trans (if_neg hne)
      rw [ht]
      exact ⟨lowerQueued_held hq _ _, rfl⟩
    · exact (turnQueued_some hq).trans (if_pos heq)
    · change turnQueued s = s
      unfold turnQueued
      rw [hnone]

end Sys2Proof.Machine
end

section
/-!
PROOFS. Boarding windows and gate modes (R139 to R142, R156): the statement O41 fails, in a state whose validation queue holds two entries
in one place, which no step reaches (O55).
-/

namespace Sys2Proof.Machine

/-- The entry that asks for the token, at halt 0. -/
def askingEntry : VEntry := ⟨0, .ASKING, 0, 0, 1#64, 0, 0#8, some 1#16, none, none, none, some 300⟩

/-- The entry of halt 1 that waits for the same answer, in place 1. -/
def waitingEntry : VEntry := ⟨1, .MERGED, 1, 1, 1#64, 0, 0#8, none, some 0, none, none, none⟩

/-- A second entry in place 1: in WAIT_PASS at halt 0, and yet named as merged. -/
def passingEntry : VEntry := ⟨1, .WAIT_PASS, 2, 0, 1#64, 0, 0#8, none, some 0, none, none, none⟩

/-- A state with two entries in place 1 of the validation queue. -/
def sharedPlace : State :=
  { State.reset with gates := { State.reset.gates with queue := [askingEntry, waitingEntry, passingEntry] } }

/-- What the close-out of halt 0 makes of the entry in WAIT_PASS there: it takes the query over with the entry whose place it shares. -/
def passingAsks : VEntry := { passingEntry with state := .ASKING, query := some 1#16, deadline := some 300, mergedTo := none }

theorem closeOut_sharedPlace : passingAsks ∈ (closeOut (fun x => x == 0) sharedPlace).gates.queue := by decide +kernel

/-- Refutes O41: a close-out does not refuse every entry of its halt that is not in WAIT_PASS. In `sharedPlace`, whose queue holds two
entries in one place, the close-out of halt 0 leaves an entry of halt 0 in ASKING, and not in WAIT_GATE with a refusal. -/
theorem not_boardingWindowsOpenAndClose : ¬ Obligations.BoardingWindowsOpenAndClose := by
  rintro ⟨-, hclose⟩
  obtain ⟨-, hrefused, -⟩ := hclose (fun x => x == 0) sharedPlace
  obtain ⟨hstate, -⟩ := hrefused passingAsks closeOut_sharedPlace rfl (by decide)
  exact absurd hstate (by decide)

end Sys2Proof.Machine
end

section
/-!
PROOFS. Records and frames as bytes (R190 to R192): the statement O59.
-/

namespace Sys2Proof.Machine

/-! ## Numbers and bytes (R190) -/

theorem bytesNat_concat (l : List Byte) (x : Byte) : bytesNat (l ++ [x]) = bytesNat l * 256 + x.toNat := by
  unfold bytesNat
  rw [List.foldl_append]
  rfl

theorem bytesNat_lt (l : List Byte) : bytesNat l < 256 ^ l.length := by
  induction l using List.reverseRecOn with
  | nil => decide
  | append_singleton l x ih =>
    have := x.isLt
    rw [bytesNat_concat, List.length_append, List.length_singleton, Nat.pow_succ]
    omega

/-- The bytes of the number that some bytes spell are those bytes. -/
theorem natBytes_bytesNat (l : List Byte) : natBytes l.length (bytesNat l) = l := by
  induction l using List.reverseRecOn with
  | nil => rfl
  | append_singleton l x ih =>
    have hx := x.isLt
    have hdiv : bytesNat (l ++ [x]) / 256 = bytesNat l := by rw [bytesNat_concat]; omega
    have hmod : BitVec.ofNat 8 (bytesNat (l ++ [x])) = x := by
      refine BitVec.eq_of_toNat_eq ?_
      rw [BitVec.toNat_ofNat, bytesNat_concat]
      omega
    rw [List.length_append, List.length_singleton]
    unfold natBytes
    rw [hdiv, hmod, ih]

theorem bytesNat_natBytes (n x : Nat) : bytesNat (natBytes n x) = x % 256 ^ n := by
  induction n generalizing x with
  | zero => rw [Nat.pow_zero, Nat.mod_one]; rfl
  | succ n ih =>
    unfold natBytes
    have hsplit : x % 256 ^ (n + 1) = x % 256 + 256 * (x / 256 % 256 ^ n) := by rw [Nat.pow_succ', Nat.mod_mul]
    rw [bytesNat_concat, ih, BitVec.toNat_ofNat, hsplit]
    omega

theorem bvBytes_length {w : Nat} (n : Nat) (x : BitVec w) : (bvBytes n x).length = n := natBytes_length ..

/-- A field is known by its bytes. -/
theorem bvBytes_injective {w n : Nat} (hw : w = 8 * n) {x y : BitVec w} (h : bvBytes n x = bvBytes n y) : x = y := by
  have hsize : 2 ^ w = 256 ^ n := by rw [hw, Nat.pow_mul]
  have heq := congrArg bytesNat h
  unfold bvBytes at heq
  rw [bytesNat_natBytes, bytesNat_natBytes, ← hsize, Nat.mod_eq_of_lt x.isLt, Nat.mod_eq_of_lt y.isLt] at heq
  exact BitVec.eq_of_toNat_eq heq

/-! ## Parts of a byte string -/

/-- The `n` bytes from place `i` on. -/
def slice (b : List Byte) (i n : Nat) : List Byte := (b.drop i).take n

theorem slice_length {b : List Byte} {i n : Nat} (h : i + n ≤ b.length) : (slice b i n).length = n := by
  unfold slice
  rw [List.length_take, List.length_drop]
  omega

theorem slice_all {b : List Byte} {n : Nat} (h : b.length = n) : slice b 0 n = b := by
  unfold slice
  rw [List.drop_zero, ← h, List.take_length]

theorem slice_append {b : List Byte} {i j n m : Nat} (h : j = i + n) : slice b i n ++ slice b j m = slice b i (n + m) := by
  unfold slice
  rw [h, List.take_add, List.drop_drop]

theorem byteAt_cons {b l : List Byte} {i : Nat} (h : i < b.length) : byteAt b i :: l = slice b i 1 ++ l := by
  unfold slice byteAt
  rw [List.take_one_drop_eq_of_lt_length h, List.getD_eq_getElem _ _ h]
  rfl

/-- A field read from some bytes has those bytes. -/
theorem bvBytes_bvAt {w n i : Nat} {b : List Byte} (hw : w = 8 * n) (h : i + n ≤ b.length) : bvBytes n (bvAt w b i n) = slice b i n := by
  have hsize : 2 ^ w = 256 ^ n := by rw [hw, Nat.pow_mul]
  have hlen := slice_length h
  have hlt := bytesNat_lt (slice b i n)
  rw [hlen, ← hsize] at hlt
  have hback := natBytes_bytesNat (slice b i n)
  rw [hlen] at hback
  unfold bvBytes bvAt numAt
  rw [BitVec.toNat_ofNat]
  exact (congrArg (natBytes n) (Nat.mod_eq_of_lt hlt)).trans hback

/-- Equal ends of one length: the parts in front are equal. -/
theorem append_eq_iff_of_length {l l' r r' : List Byte} (h : r.length = r'.length) : l ++ r = l' ++ r' ↔ l = l' ∧ r = r' :=
  ⟨fun e => List.append_inj' e h, fun e => by rw [e.1, e.2]⟩

theorem bvBytes_eq_iff {w n : Nat} (hw : w = 8 * n) {x y : BitVec w} : bvBytes n x = bvBytes n y ↔ x = y :=
  ⟨bvBytes_injective hw, fun h => by rw [h]⟩

/-! ## Layouts -/

/-- A layout of `k` bytes that drops none: read and written, it is what it was (R192). -/
structure ReadsBack {α : Type} (k : Nat) (bytes : α → List Byte) (ofBytes : List Byte → α) : Prop where
  length : ∀ x, (bytes x).length = k
  written : ∀ b, b.length = k → bytes (ofBytes b) = b
  read : ∀ x, ofBytes (bytes x) = x

theorem readsBack_of_injective {α : Type} {k : Nat} {bytes : α → List Byte} {ofBytes : List Byte → α}
    (hl : ∀ x, (bytes x).length = k) (hw : ∀ b, b.length = k → bytes (ofBytes b) = b) (hi : ∀ x y, bytes x = bytes y → x = y) :
    ReadsBack k bytes ofBytes :=
  ⟨hl, hw, fun x => hi _ _ (hw _ (hl x))⟩

theorem readsBack_byte : ReadsBack 1 (fun x : Byte => [x]) fun b => byteAt b 0 := by
  refine readsBack_of_injective (fun _ => rfl) (fun b hb => ?_) fun x y h => List.singleton_inj.mp h
  obtain ⟨x, rfl⟩ := List.length_eq_one_iff.mp hb
  rfl

theorem readsBack_bv {w n : Nat} (hw : w = 8 * n) : ReadsBack n (bvBytes (w := w) n) fun b => bvAt w b 0 n :=
  readsBack_of_injective (bvBytes_length n) (fun _ hb => (bvBytes_bvAt hw (by omega)).trans (slice_all hb)) fun _ _ => bvBytes_injective hw

theorem readsBack_halt : ReadsBack 9 HaltEntry.bytes HaltEntry.ofBytes := by
  refine readsBack_of_injective (fun x => ?_) (fun b hb => ?_) fun x y h => ?_
  · simp [HaltEntry.bytes, bvBytes_length]
  · refine Eq.trans (b := slice b 0 9) ?_ (slice_all hb)
    simp only [HaltEntry.bytes, HaltEntry.ofBytes, byteAt_cons, bvBytes_bvAt, slice_append, List.append_nil, hb, Nat.reduceAdd,
      Nat.reduceMul, Nat.reduceLT, Nat.reduceLeDiff]
  · obtain ⟨_, _, _, _, _, _⟩ := x
    obtain ⟨_, _, _, _, _, _⟩ := y
    simpa only [HaltEntry.bytes, append_eq_iff_of_length, bvBytes_length, List.length_cons, List.length_nil, bvBytes_eq_iff, Nat.reduceMul,
      List.cons.injEq, and_true, and_assoc, HaltEntry.mk.injEq] using h

theorem readsBack_marker : ReadsBack 4 MarkerEntry.bytes MarkerEntry.ofBytes := by
  refine readsBack_of_injective (fun x => ?_) (fun b hb => ?_) fun x y h => ?_
  · simp [MarkerEntry.bytes, bvBytes_length]
  · refine Eq.trans (b := slice b 0 4) ?_ (slice_all hb)
    simp only [MarkerEntry.bytes, MarkerEntry.ofBytes, byteAt_cons, bvBytes_bvAt, slice_append, List.append_nil, hb, Nat.reduceAdd,
      Nat.reduceMul, Nat.reduceLT, Nat.reduceLeDiff]
  · obtain ⟨_, _⟩ := x
    obtain ⟨_, _⟩ := y
    simpa only [MarkerEntry.bytes, append_eq_iff_of_length, bvBytes_length, List.length_cons, List.length_nil, bvBytes_eq_iff, Nat.reduceMul,
      List.cons.injEq, and_true, and_assoc, MarkerEntry.mk.injEq] using h

theorem readsBack_envelope : ReadsBack 6 EnvelopeEntry.bytes EnvelopeEntry.ofBytes := by
  refine readsBack_of_injective (fun x => ?_) (fun b hb => ?_) fun x y h => ?_
  · simp [EnvelopeEntry.bytes, bvBytes_length]
  · refine Eq.trans (b := slice b 0 6) ?_ (slice_all hb)
    simp only [EnvelopeEntry.bytes, EnvelopeEntry.ofBytes, byteAt_cons, bvBytes_bvAt, slice_append, List.append_nil, hb, Nat.reduceAdd,
      Nat.reduceMul, Nat.reduceLT, Nat.reduceLeDiff]
  · obtain ⟨_, _, _⟩ := x
    obtain ⟨_, _, _⟩ := y
    simpa only [EnvelopeEntry.bytes, append_eq_iff_of_length, bvBytes_length, List.length_cons, List.length_nil, bvBytes_eq_iff, Nat.reduceMul,
      List.cons.injEq, and_true, and_assoc, EnvelopeEntry.mk.injEq] using h

theorem readsBack_channel : ReadsBack 3 ChannelSettings.bytes ChannelSettings.ofBytes := by
  refine readsBack_of_injective (fun x => ?_) (fun b hb => ?_) fun x y h => ?_
  · simp [ChannelSettings.bytes, bvBytes_length]
  · refine Eq.trans (b := slice b 0 3) ?_ (slice_all hb)
    simp only [ChannelSettings.bytes, ChannelSettings.ofBytes, byteAt_cons, bvBytes_bvAt, slice_append, List.append_nil, hb, Nat.reduceAdd,
      Nat.reduceMul, Nat.reduceLT, Nat.reduceLeDiff]
  · obtain ⟨_, _⟩ := x
    obtain ⟨_, _⟩ := y
    simpa only [ChannelSettings.bytes, append_eq_iff_of_length, bvBytes_length, List.length_cons, List.length_nil, bvBytes_eq_iff, Nat.reduceMul,
      List.cons.injEq, and_true, and_assoc, ChannelSettings.mk.injEq] using h

theorem readsBack_node : ReadsBack 7 NodeEntry.bytes NodeEntry.ofBytes := by
  refine readsBack_of_injective (fun x => ?_) (fun b hb => ?_) fun x y h => ?_
  · simp [NodeEntry.bytes]
  · refine Eq.trans (b := slice b 0 7) ?_ (slice_all hb)
    simp only [NodeEntry.bytes, NodeEntry.ofBytes, byteAt_cons, slice_append, List.append_nil, hb, Nat.reduceAdd, Nat.reduceLT]
  · obtain ⟨_, _, _, _, _, _, _⟩ := x
    obtain ⟨_, _, _, _, _, _, _⟩ := y
    simpa only [NodeEntry.bytes, List.cons.injEq, and_true, NodeEntry.mk.injEq] using h

theorem params_bytes_length (x : Params) : x.bytes.length = 47 := by
  unfold Params.bytes
  simp only [List.length_append, bvBytes_length, List.length_cons, List.length_nil, Nat.reduceAdd]
theorem params_bytes_ofBytes {b : List Byte} (hb : b.length = 47) : (Params.ofBytes b).bytes = b := by
  refine Eq.trans (b := slice b 0 47) ?_ (slice_all hb)
  unfold Params.bytes Params.ofBytes
  dsimp only
  simp only [byteAt_cons, bvBytes_bvAt, slice_append, List.append_nil, hb, Nat.reduceAdd,
      Nat.reduceMul, Nat.reduceLT, Nat.reduceLeDiff]
theorem params_bytes_injective {x y : Params} (h : x.bytes = y.bytes) : x = y := by
  unfold Params.bytes at h
  simp only [append_eq_iff_of_length, bvBytes_length, List.length_cons, List.length_nil, bvBytes_eq_iff, Nat.reduceMul,
      List.cons.injEq, and_true, and_assoc] at h
  cases x
  cases y
  simpa only [Params.mk.injEq] using h

theorem readsBack_params : ReadsBack 47 Params.bytes Params.ofBytes :=
  readsBack_of_injective params_bytes_length (fun _ => params_bytes_ofBytes) fun _ _ => params_bytes_injective

theorem readsBack_pulse : ReadsBack 8 PulseEntry.bytes PulseEntry.ofBytes := by
  refine readsBack_of_injective (fun x => ?_) (fun b hb => ?_) fun x y h => ?_
  · simp [PulseEntry.bytes, bvBytes_length]
  · refine Eq.trans (b := slice b 0 8) ?_ (slice_all hb)
    simp only [PulseEntry.bytes, PulseEntry.ofBytes, byteAt_cons, bvBytes_bvAt, slice_append, List.append_nil, hb, Nat.reduceAdd,
      Nat.reduceMul, Nat.reduceLT, Nat.reduceLeDiff]
  · obtain ⟨_, _, _, _, _, _⟩ := x
    obtain ⟨_, _, _, _, _, _⟩ := y
    simpa only [PulseEntry.bytes, append_eq_iff_of_length, bvBytes_length, List.length_cons, List.length_nil, bvBytes_eq_iff, Nat.reduceMul,
      List.cons.injEq, and_true, and_assoc, PulseEntry.mk.injEq] using h

theorem readsBack_gate : ReadsBack 4 GateEntry.bytes GateEntry.ofBytes := by
  refine readsBack_of_injective (fun x => ?_) (fun b hb => ?_) fun x y h => ?_
  · simp [GateEntry.bytes]
  · refine Eq.trans (b := slice b 0 4) ?_ (slice_all hb)
    simp only [GateEntry.bytes, GateEntry.ofBytes, byteAt_cons, slice_append, List.append_nil, hb, Nat.reduceAdd, Nat.reduceLT]
  · obtain ⟨_, _, _, _⟩ := x
    obtain ⟨_, _, _, _⟩ := y
    simpa only [GateEntry.bytes, List.cons.injEq, and_true, GateEntry.mk.injEq] using h

theorem readsBack_fare : ReadsBack 13 FareSettings.bytes FareSettings.ofBytes := by
  refine readsBack_of_injective (fun x => ?_) (fun b hb => ?_) fun x y h => ?_
  · simp [FareSettings.bytes, bvBytes_length]
  · refine Eq.trans (b := slice b 0 13) ?_ (slice_all hb)
    simp only [FareSettings.bytes, FareSettings.ofBytes, byteAt_cons, bvBytes_bvAt, slice_append, List.append_nil, hb, Nat.reduceAdd,
      Nat.reduceMul, Nat.reduceLT, Nat.reduceLeDiff]
  · obtain ⟨_, _, _, _, _⟩ := x
    obtain ⟨_, _, _, _, _⟩ := y
    simpa only [FareSettings.bytes, append_eq_iff_of_length, bvBytes_length, List.length_cons, List.length_nil, bvBytes_eq_iff, Nat.reduceMul,
      List.cons.injEq, and_true, and_assoc, FareSettings.mk.injEq] using h

/-! ## Sequencer programs -/

/-- Chunks that are consecutive parts of a byte string, one behind the other. -/
theorem flatMap_ofFn_slice {α : Type} {g : α → List Byte} {k s : Nat} {b : List Byte} :
    ∀ {n : Nat} {f : Fin n → α}, (∀ i, g (f i) = slice b (s + k * i.val) k) → (List.ofFn f).flatMap g = slice b s (k * n) := by
  intro n
  induction n with
  | zero =>
    intro f _
    rw [List.ofFn_zero, Nat.mul_zero]
    exact (List.take_zero ..).symm
  | succ n ih =>
    intro f h
    have hinit : (List.ofFn fun i : Fin n => f i.castSucc).flatMap g = slice b s (k * n) := ih fun i => h i.castSucc
    rw [List.ofFn_succ', List.concat_eq_append, List.flatMap_append, hinit, List.flatMap_singleton, h (Fin.last n), Nat.mul_succ]
    exact slice_append rfl

theorem flatMap_injective {α : Type} {g : α → List Byte} {k : Nat} (hk : ∀ x, (g x).length = k) (hg : ∀ x y, g x = g y → x = y) :
    ∀ {l l' : List α}, l.length = l'.length → l.flatMap g = l'.flatMap g → l = l'
  | [], [], _, _ => rfl
  | x :: l, y :: l', hl, h => by
    rw [List.flatMap_cons, List.flatMap_cons] at h
    obtain ⟨hx, ht⟩ := List.append_inj h (by rw [hk, hk])
    rw [hg _ _ hx, flatMap_injective hk hg (Nat.succ.inj hl) ht]

theorem vector_flatMap_length {α : Type} {n k : Nat} {g : α → List Byte} (hk : ∀ x, (g x).length = k) (v : Vector α n) :
    (v.toList.flatMap g).length = n * k := by
  have all : ∀ l : List α, (l.flatMap g).length = l.length * k := by
    intro l
    induction l with
    | nil => simp
    | cons x l ih => rw [List.flatMap_cons, List.length_append, hk, ih, List.length_cons, Nat.succ_mul, Nat.add_comm]
  rw [all, Vector.length_toList]

theorem vector_flatMap_eq_iff {α : Type} {n k : Nat} {g : α → List Byte} (hk : ∀ x, (g x).length = k)
    (hg : ∀ x y, g x = g y → x = y) {v w : Vector α n} : v.toList.flatMap g = w.toList.flatMap g ↔ v = w :=
  ⟨fun h => Vector.toList_inj.mp (flatMap_injective hk hg (by rw [Vector.length_toList, Vector.length_toList]) h), fun h => by rw [h]⟩

theorem slot_bytes_length (x : SlotEntry) : x.bytes.length = 4 := rfl

theorem slot_bytes_injective (x y : SlotEntry) (h : x.bytes = y.bytes) : x = y := by
  cases x
  cases y
  simpa only [SlotEntry.bytes, List.cons.injEq, and_true, SlotEntry.mk.injEq] using h

theorem slot_bytes_at {b : List Byte} {i : Nat} (h : i + 4 ≤ b.length) : (SlotEntry.at b i).bytes = slice b i 4 := by
  unfold SlotEntry.bytes SlotEntry.at
  rw [byteAt_cons (by omega), byteAt_cons (by omega), byteAt_cons (by omega), byteAt_cons (by omega), List.append_nil,
    slice_append rfl, slice_append rfl, slice_append rfl]

theorem program_bytes_eq (p : Program) : p.bytes = [p.stateCount, p.initial] ++ p.outputs.toList.flatMap (fun x => [x]) ++
    p.timers.toList.flatMap (fun t => bvBytes 2 t) ++ p.slots.toList.flatMap SlotEntry.bytes ++
    [p.reset.enabled, p.reset.condition, p.reset.polarity] := by
  rw [List.flatMap_singleton']
  rfl

theorem program_bytes_length (p : Program) : p.bytes.length = 125 := by
  rw [program_bytes_eq]
  simp only [List.length_append, List.length_cons, List.length_nil, vector_flatMap_length (fun x : Byte => rfl : ∀ x : Byte, [x].length = 1),
    vector_flatMap_length (bvBytes_length (w := 16) 2), vector_flatMap_length slot_bytes_length, Nat.reduceAdd, Nat.reduceMul]

theorem program_bytes_ofBytes {b : List Byte} (hb : b.length = 125) : (Program.ofBytes b).bytes = b := by
  have outputs : (List.ofFn fun i : Fin 8 => byteAt b (2 + i.val)).flatMap (fun x => [x]) = slice b 2 8 :=
    flatMap_ofFn_slice (k := 1) fun i => by rw [byteAt_cons (by omega), List.append_nil, Nat.one_mul]
  have timers : (List.ofFn fun i : Fin 8 => bvAt 16 b (10 + 2 * i.val) 2).flatMap (fun t => bvBytes 2 t) = slice b 10 16 :=
    flatMap_ofFn_slice (k := 2) fun i => bvBytes_bvAt rfl (by omega)
  have slots : (List.ofFn fun i : Fin 24 => SlotEntry.at b (26 + 4 * i.val)).flatMap SlotEntry.bytes = slice b 26 96 :=
    flatMap_ofFn_slice (k := 4) fun i => slot_bytes_at (by omega)
  refine Eq.trans (b := slice b 0 125) ?_ (slice_all hb)
  rw [program_bytes_eq]
  unfold Program.ofBytes
  simp only [Vector.toList_ofFn, outputs, timers, slots, byteAt_cons, slice_append, List.append_nil, hb, Nat.reduceAdd, Nat.reduceLT]

theorem program_bytes_injective {p q : Program} (h : p.bytes = q.bytes) : p = q := by
  rw [program_bytes_eq, program_bytes_eq] at h
  have hbyte : ∀ x : Byte, [x].length = 1 := fun _ => rfl
  have hbytes : ∀ x y : Byte, [x] = [y] → x = y := fun _ _ => List.singleton_inj.mp
  have htimer := bvBytes_length (w := 16) 2
  have htimers : ∀ x y : BitVec 16, bvBytes 2 x = bvBytes 2 y → x = y := fun _ _ => bvBytes_injective rfl
  obtain ⟨h, hreset⟩ := List.append_inj' h rfl
  obtain ⟨h, hslots⟩ := List.append_inj' h (by simp only [vector_flatMap_length slot_bytes_length])
  obtain ⟨h, htime⟩ := List.append_inj' h (by simp only [vector_flatMap_length htimer])
  obtain ⟨hhead, hout⟩ := List.append_inj' h (by simp only [vector_flatMap_length hbyte])
  rw [vector_flatMap_eq_iff slot_bytes_length slot_bytes_injective] at hslots
  rw [vector_flatMap_eq_iff htimer htimers] at htime
  rw [vector_flatMap_eq_iff hbyte hbytes] at hout
  obtain ⟨_, _, _, _, _, ⟨_, _, _⟩⟩ := p
  obtain ⟨_, _, _, _, _, ⟨_, _, _⟩⟩ := q
  simp_all

theorem readsBack_program : ReadsBack 125 Program.bytes Program.ofBytes :=
  readsBack_of_injective program_bytes_length (fun _ => program_bytes_ofBytes) fun _ _ => program_bytes_injective

/-! ## Banks 0 to 3 (R174, R192) -/

/-- What an item of a bank keeps: a record reads back as written, the other records of the item stay, and a record written as it
stands changes nothing. -/
structure ItemKeeps (bank item : Nat) : Prop where
  readsBack : ∀ {t : Tables} {index : Nat} {old : List Byte}, tableBytes t bank item index = some old → ∀ new : List Byte,
    new.length = old.length → tableBytes (tableWrite t bank item index new) bank item index = some new
  others : ∀ {t : Tables} {index : Nat} {old : List Byte}, tableBytes t bank item index = some old → ∀ (new : List Byte) {index' : Nat},
    index' ≠ index → tableBytes (tableWrite t bank item index new) bank item index' = tableBytes t bank item index'
  restores : ∀ {t : Tables} {index : Nat} {old : List Byte}, tableBytes t bank item index = some old → tableWrite t bank item index old = t

theorem indexOf_some {n i : Nat} {x : Fin n} (h : indexOf n i = some x) : x.val = i := by
  unfold indexOf at h
  split at h
  · cases h
    rfl
  · cases h

/-- An item that is a table of entries. -/
theorem itemKeeps_table {α : Type} {n k bank item : Nat} {bytes : α → List Byte} {ofBytes : List Byte → α} (hl : ReadsBack k bytes ofBytes)
    (table : Tables → Vector α n) (set : Tables → Vector α n → Tables) (hget : ∀ t v, table (set t v) = v) (hset : ∀ t, set t (table t) = t)
    (hread : ∀ t index, tableBytes t bank item index = (indexOf n index).map fun i => bytes ((table t).get i))
    (hwrite : ∀ t index b, tableWrite t bank item index b = set t (setAt (table t) index (ofBytes b))) : ItemKeeps bank item := by
  have found : ∀ {t : Tables} {index : Nat} {old : List Byte}, tableBytes t bank item index = some old →
      ∃ i, indexOf n index = some i ∧ bytes ((table t).get i) = old := by
    intro t index old h
    rw [hread] at h
    exact Option.map_eq_some_iff.mp h
  have written : ∀ {t : Tables} {index : Nat} {i : Fin n} (b : List Byte), indexOf n index = some i →
      tableWrite t bank item index b = set t (vset (table t) i (ofBytes b)) := by
    intro t index i b hi
    rw [hwrite]
    unfold setAt
    rw [hi]
  refine ⟨fun {t index old} h new hn => ?_, fun {t index old} h new index' hne => ?_, fun {t index old} h => ?_⟩
  · obtain ⟨i, hi, rfl⟩ := found h
    rw [hl.length] at hn
    rw [written _ hi, hread, hget, hi, Option.map_some, vset_get_self, hl.written _ hn]
  · obtain ⟨i, hi, -⟩ := found h
    rw [written _ hi, hread, hread, hget]
    rcases hi' : indexOf n index' with - | j
    · rfl
    · have hij : j ≠ i := fun hij => hne (by rw [← indexOf_some hi', ← indexOf_some hi, hij])
      rw [Option.map_some, Option.map_some, vset_get_ne _ _ hij]
  · obtain ⟨i, hi, rfl⟩ := found h
    rw [written _ hi, hl.read, vset_get, hset]

/-- An item that is a single record. -/
theorem itemKeeps_single {α : Type} {k bank item : Nat} {bytes : α → List Byte} {ofBytes : List Byte → α} (hl : ReadsBack k bytes ofBytes)
    (field : Tables → α) (set : Tables → α → Tables) (hget : ∀ t v, field (set t v) = v) (hset : ∀ t, set t (field t) = t)
    (hread : ∀ t index, tableBytes t bank item index = (indexOf 1 index).map fun _ => bytes (field t))
    (hwrite : ∀ t index b, tableWrite t bank item index b = set t (ofBytes b)) : ItemKeeps bank item := by
  have found : ∀ {t : Tables} {index : Nat} {old : List Byte}, tableBytes t bank item index = some old →
      (∃ i, indexOf 1 index = some i) ∧ bytes (field t) = old := by
    intro t index old h
    rw [hread] at h
    obtain ⟨i, hi, hold⟩ := Option.map_eq_some_iff.mp h
    exact ⟨⟨i, hi⟩, hold⟩
  refine ⟨fun {t index old} h new hn => ?_, fun {t index old} h new index' hne => ?_, fun {t index old} h => ?_⟩
  · obtain ⟨⟨i, hi⟩, rfl⟩ := found h
    rw [hl.length] at hn
    rw [hwrite, hread, hget, hi, Option.map_some, hl.written _ hn]
  · obtain ⟨⟨i, hi⟩, -⟩ := found h
    rw [hwrite, hread, hread]
    rcases hi' : indexOf 1 index' with - | j
    · rfl
    · exact absurd (by rw [← indexOf_some hi', ← indexOf_some hi, Subsingleton.elim j i]) hne
  · obtain ⟨-, rfl⟩ := found h
    rw [hwrite, hl.read, hset]

/-- Each item of banks 0 to 3, by the table or the record that it is (R192). -/
theorem itemKeeps {t : Tables} {bank item index : Nat} {old : List Byte} (h : tableBytes t bank item index = some old) :
    ItemKeeps bank item := by
  unfold tableBytes at h
  split at h
  · exact itemKeeps_table readsBack_halt (fun t => t.b.halts) (fun t v => setB t fun g => { g with halts := v }) (fun _ _ => rfl)
      (fun _ => rfl) (fun _ _ => rfl) fun _ _ _ => rfl
  · exact itemKeeps_table readsBack_marker (fun t => t.b.markers) (fun t v => setB t fun g => { g with markers := v }) (fun _ _ => rfl)
      (fun _ => rfl) (fun _ _ => rfl) fun _ _ _ => rfl
  · exact itemKeeps_table readsBack_envelope (fun t => t.b.envelope) (fun t v => setB t fun g => { g with envelope := v })
      (fun _ _ => rfl) (fun _ => rfl) (fun _ _ => rfl) fun _ _ _ => rfl
  · exact itemKeeps_single (readsBack_bv (w := 24) (n := 3) rfl) (fun t => t.b.pairSum) (fun t v => setB t fun g => { g with pairSum := v })
      (fun _ _ => rfl) (fun _ => rfl) (fun _ _ => rfl) fun _ _ _ => rfl
  · exact itemKeeps_table readsBack_channel (fun t => t.b.channels) (fun t v => setB t fun g => { g with channels := v })
      (fun _ _ => rfl) (fun _ => rfl) (fun _ _ => rfl) fun _ _ _ => rfl
  · exact itemKeeps_table readsBack_node (fun t => t.b.nodes) (fun t v => setB t fun g => { g with nodes := v }) (fun _ _ => rfl)
      (fun _ => rfl) (fun _ _ => rfl) fun _ _ _ => rfl
  · exact itemKeeps_single readsBack_params (fun t => t.b.params) (fun t v => setB t fun g => { g with params := v }) (fun _ _ => rfl)
      (fun _ => rfl) (fun _ _ => rfl) fun _ _ _ => rfl
  · exact itemKeeps_table readsBack_byte (fun t => t.b.filterTimes) (fun t v => setB t fun g => { g with filterTimes := v })
      (fun _ _ => rfl) (fun _ => rfl) (fun _ _ => rfl) fun _ _ _ => rfl
  · exact itemKeeps_table readsBack_program (fun t => t.a.programs) (fun t v => setA t fun g => { g with programs := v })
      (fun _ _ => rfl) (fun _ => rfl) (fun _ _ => rfl) fun _ _ _ => rfl
  · exact itemKeeps_table readsBack_pulse (fun t => t.a.pulses) (fun t v => setA t fun g => { g with pulses := v }) (fun _ _ => rfl)
      (fun _ => rfl) (fun _ _ => rfl) fun _ _ _ => rfl
  · exact itemKeeps_table readsBack_byte (fun t => t.a.polarity) (fun t v => setA t fun g => { g with polarity := v }) (fun _ _ => rfl)
      (fun _ => rfl) (fun _ _ => rfl) fun _ _ _ => rfl
  · exact itemKeeps_single (readsBack_bv (w := 24) (n := 3) rfl) (fun t => t.a.notify)
      (fun t v => setA t fun g => { g with notify := v }) (fun _ _ => rfl)
      (fun _ => rfl) (fun _ _ => rfl) fun _ _ _ => rfl
  · exact itemKeeps_table readsBack_gate (fun t => t.a.gates) (fun t v => setA t fun g => { g with gates := v }) (fun _ _ => rfl)
      (fun _ => rfl) (fun _ _ => rfl) fun _ _ _ => rfl
  · exact itemKeeps_table readsBack_byte (fun t => t.a.capacity) (fun t v => setA t fun g => { g with capacity := v }) (fun _ _ => rfl)
      (fun _ => rfl) (fun _ _ => rfl) fun _ _ _ => rfl
  · exact itemKeeps_table readsBack_byte (fun t => t.a.classPolicy) (fun t v => setA t fun g => { g with classPolicy := v })
      (fun _ _ => rfl) (fun _ => rfl) (fun _ _ => rfl) fun _ _ _ => rfl
  · exact itemKeeps_single readsBack_fare (fun t => t.a.fare) (fun t v => setA t fun g => { g with fare := v }) (fun _ _ => rfl)
      (fun _ => rfl) (fun _ _ => rfl) fun _ _ _ => rfl
  · cases h

/-- A record of one item is written without touching another item: each item has a field of its own (R192). -/
theorem tableBytes_write_other (t : Tables) {bank item bank' item' : Nat} (hne : (bank', item') ≠ (bank, item)) (index index' : Nat)
    (b : List Byte) : tableBytes (tableWrite t bank item index b) bank' item' index' = tableBytes t bank' item' index' := by
  unfold tableWrite
  split
  all_goals
    unfold tableBytes
    split
  any_goals exact absurd rfl hne
  all_goals rfl

/-! ## Frames (R190, R191) -/

theorem sentFrame_sized {f : OutFrame} {n : Nat} (h : (contentBytes f.content).length = n) (hn : n ≤ 32) :
    (sentFrame f).length = BitVec.ofNat 8 n ∧ rawValid (sentFrame f) = true :=
  ⟨congrArg (BitVec.ofNat 8) h, sentFrame_valid f (h.trans_le hn)⟩

theorem statusBytes_length (s : State) : (statusBytes s).length = 32 := by
  unfold statusBytes berthByte intBytesClamped intBytes
  simp only [List.length_append, natBytes_length, optBytes_length, allHalts, List.flatMap_cons, List.flatMap_nil, List.length_nil]

theorem detail_length (d : List Byte) : (detail d).length = 29 := by
  unfold detail
  rw [List.length_append, List.length_take, List.length_replicate]
  omega

/-- A field at the head of a payload. -/
theorem fieldAt_head {w n : Nat} (hw : w = 8 * n) (x : BitVec w) (l : List Byte) : fieldAt w (bvBytes n x ++ l) 0 n = x := by
  have hhead : ((bvBytes n x ++ l).drop 0).take n = ((bvBytes n x).drop 0).take n := by
    rw [List.drop_zero, List.drop_zero, List.take_append_of_le_length (bvBytes_length n x).ge]
  exact (congrArg (fun b => BitVec.ofNat w (bytesNat b)) hhead).trans ((readsBack_bv hw).read x)

theorem readPayload_sent_demand (p : DemandP) : readPayload 0x09 (contentBytes (.demand p)) = some (.demand p) := by
  obtain ⟨code, accel, dir, flags⟩ := p
  obtain ⟨b, hb⟩ : ∃ b, b = contentBytes (.demand ⟨code, accel, dir, flags⟩) := ⟨_, rfl⟩
  have hcode : fieldAt 16 b 0 2 = code := by
    rw [hb]
    unfold contentBytes
    simp only [List.append_assoc]
    exact fieldAt_head (n := 2) rfl code _
  have hrest : byteAt b 2 = accel ∧ byteAt b 3 = BitVec.ofNat 8 (dirCode dir) ∧ byteAt b 4 = flags ∧ b.length = 5 := by
    rw [hb]
    exact ⟨rfl, rfl, rfl, rfl⟩
  obtain ⟨haccel, hdir, hflags, hlen⟩ := hrest
  have hread : readDemand b = some ⟨code, accel, dir, flags⟩ := by
    unfold readDemand
    rw [hcode, haccel, hdir, hflags]
    cases dir <;> rfl
  rw [← hb]
  change ofLength 5 b ((readDemand b).map Payload.demand) = _
  unfold ofLength
  rw [if_pos hlen, hread]
  rfl

theorem readPayload_sent_driveState (p : DriveStateP) : readPayload 0x0A (contentBytes (.driveState p)) = some (.driveState p) := by
  obtain ⟨ready, torque⟩ := p
  cases ready <;> cases torque <;> rfl

theorem readPayload_sent_brakeState (p : BrakeStateP) : readPayload 0x0B (contentBytes (.brakeState p)) = some (.brakeState p) := by
  obtain ⟨number, stage⟩ := p
  cases stage <;> rfl

/-- Settles O59: a record by the item that it belongs to, a frame by the length of its payload. -/
theorem recordsReadBackAsWritten : Obligations.RecordsReadBackAsWritten := by
  refine ⟨fun t bank item index old h => ⟨fun new hn => ⟨(itemKeeps h).readsBack h new hn, fun bank' item' index' hne => ?_⟩,
    (itemKeeps h).restores h⟩, fun f => ?_⟩
  · by_cases hitem : (bank', item') = (bank, item)
    · obtain ⟨rfl, rfl⟩ := Prod.mk.inj hitem
      exact (itemKeeps h).others h new fun he => hne (by rw [he])
    · exact tableBytes_write_other t hitem index index' new
  · intro sized
    have sized_of : ∀ {c : Content} {n : Nat}, f.content = c → (contentBytes c).length = n → n ≤ 32 → sized n :=
      fun hc h hn => sentFrame_sized (by rw [hc]; exact h) hn
    have payload : ∀ {c : Content}, f.content = c → (sentFrame f).payload = contentBytes c := fun hc => congrArg contentBytes hc
    refine ⟨fun _ _ h => sized_of h rfl (by decide), fun p h => ⟨sized_of h rfl (by decide), by rw [payload h]; exact readPayload_sent_demand p⟩,
      fun _ _ h => sized_of h rfl (by decide), fun _ h => sized_of h rfl (by decide), fun _ h => sized_of h rfl (by decide),
      fun _ _ _ h => sized_of h rfl (by decide), fun _ _ _ _ _ h => sized_of h rfl (by decide),
      fun _ _ _ _ _ _ h => sized_of h rfl (by decide), fun _ _ a h => sized_of h ?_ (by decide),
      fun s h => sized_of h (statusBytes_length s) (by decide), fun _ _ _ h => sized_of h rfl (by decide),
      fun _ _ _ d h => sized_of h ?_ (by decide),
      fun p h => ⟨sized_of h rfl (by decide), by rw [payload h]; exact readPayload_sent_driveState p⟩,
      fun p h => ⟨sized_of h rfl (by decide), by rw [payload h]; exact readPayload_sent_brakeState p⟩⟩
    · cases a <;> rfl
    · unfold contentBytes
      rw [List.length_append, detail_length]
      rfl

end Sys2Proof.Machine
end

section
/-!
PROOFS. Platform sequencers and pulses (R124 to R130, R134): the statement O40.
-/

namespace Sys2Proof.Machine

/-! ## The condition of a state timer (R124, R125) -/

theorem maskOf_testBit (l : List Bool) (i : Nat) : (maskOf l).testBit i = l.getD i false := by
  induction l generalizing i with
  | nil => exact Nat.zero_testBit i
  | cons b l ih =>
    unfold maskOf
    cases i with
    | zero =>
      rw [Nat.testBit_zero]
      cases b <;> simp
    | succ i =>
      have hhalf : ((if b = true then 1 else 0) + 2 * maskOf l) / 2 = maskOf l := by
        cases b
        · simp
        · simp
          omega
      rw [Nat.testBit_succ, hhalf, ih]
      rfl

theorem conditionWord_bit (s : State) (h : Halt) (i : Nat) (hi : i < 32) :
    (conditionWord s h).getLsbD i = (conditionList s h).getD i false := by
  unfold conditionWord
  rw [BitVec.getLsbD_ofNat, maskOf_testBit, decide_eq_true hi, Bool.true_and]

/-- Of the conditions of a halt, a sequencer's record gives its own timer done and the user bits published (R124). -/
theorem conditionList_modSeq {q : Halt} {r : SeqRecord} {s : State} (hr : r.published = (s.seqs.get q).published) (h : Halt) :
    conditionList (modSeq q (fun _ => r) s) h =
      (conditionList s h).set 6 (if h = q then r.timerDone else (s.seqs.get h).timerDone) := by
  have hget : ∀ x, (modSeq q (fun _ => r) s).seqs.get x = if x = q then r else s.seqs.get x := by
    intro x
    change (vmod s.seqs q fun _ => r).get x = _
    by_cases hx : x = q
    · subst hx
      rw [vmod_get_self, if_pos rfl]
    · rw [vmod_get_ne _ _ hx, if_neg hx]
  have huser : ∀ x, userA (modSeq q (fun _ => r) s) x = userA s x := by
    intro x
    unfold userA outputSet
    rw [hget]
    split
    next hx => rw [hr, hx]
    · rfl
  have hdone : ((modSeq q (fun _ => r) s).seqs.get h).timerDone = if h = q then r.timerDone else (s.seqs.get h).timerDone := by
    rw [hget]
    split <;> rfl
  unfold conditionList
  simp only [huser, hdone]
  rfl

/-- The outside change of STATE_TIMER_DONE of sequencer `q` (R124). -/
def timerDoneChange (q : Halt) : Vector (BitVec 32) 6 := Vector.ofFn fun h => if h = q then 0x40#32 else 0#32

theorem vector_get_ofFn {α : Type} {n : Nat} (f : Fin n → α) (i : Fin n) : (Vector.ofFn f).get i = f i := by
  rw [Vector.get_eq_getElem, Vector.getElem_ofFn]

/-- What a sequencer's record changes of the condition words: bit 6, where its timer done changed. -/
theorem conditionWord_modSeq {q : Halt} {r : SeqRecord} {s : State} (hr : r.published = (s.seqs.get q).published) (h : Halt) :
    conditionWord s h ^^^ conditionWord (modSeq q (fun _ => r) s) h =
      if h = q ∧ r.timerDone ≠ (s.seqs.get q).timerDone then 0x40#32 else 0#32 := by
  refine BitVec.eq_of_getLsbD_eq fun i hi => ?_
  have hold : (conditionList s h).getD 6 false = (s.seqs.get h).timerDone := rfl
  have hlen : 6 < (conditionList s h).length := by
    change 6 < 32
    decide
  rw [BitVec.getLsbD_xor, conditionWord_bit _ _ _ hi, conditionWord_bit _ _ _ hi, conditionList_modSeq hr]
  by_cases h6 : i = 6
  · subst h6
    rw [hold, List.getD_eq_getElem?_getD, List.getElem?_set_self hlen, Option.getD_some]
    by_cases hq : h = q
    · subst hq
      rw [if_pos rfl]
      cases r.timerDone <;> cases (s.seqs.get h).timerDone <;> simp
    · rw [if_neg hq, if_neg fun hc => hq hc.1, Bool.xor_self]
      simp
  · have hbit : (0x40#32).getLsbD i = false := by
      rw [show (0x40#32) = BitVec.twoPow 32 6 from rfl, BitVec.getLsbD_twoPow]
      simp [Ne.symm h6]
    rw [List.getD_eq_getElem?_getD, List.getD_eq_getElem?_getD, List.getElem?_set_ne (Ne.symm h6), Bool.xor_self]
    split
    · exact hbit.symm
    · simp

/-- A word after the changes that are still to be told: each adds to those before it. -/
theorem toldWord_eq (s : State) (h : Halt) : toldWord s h = conditionWord s h ^^^ s.agenda.foldl
    (fun w a => match a with
      | .outside changed _ => w ^^^ changed.get h
      | _ => w) 0#32 := by
  have all : ∀ (l : List Ann) (w : BitVec 32),
      l.foldl (fun w a => match a with
        | .outside changed _ => w ^^^ changed.get h
        | _ => w) w = w ^^^ l.foldl (fun w a => match a with
        | .outside changed _ => w ^^^ changed.get h
        | _ => w) 0#32 := by
    intro l
    induction l with
    | nil => simp
    | cons a l ih =>
      intro w
      rw [List.foldl_cons, List.foldl_cons, ih, ih (match a with
        | .outside changed _ => 0#32 ^^^ changed.get h
        | _ => 0#32), ← BitVec.xor_assoc]
      congr 1
      split
      · rw [BitVec.zero_xor]
      · rw [BitVec.xor_zero]
  exact all s.agenda _

/-- Between states with the same announcements, the changed words are those of the condition words. -/
theorem changedConditions_get {a b : State} (h : b.agenda = a.agenda) (x : Halt) :
    (changedConditions a b).get x = conditionWord a x ^^^ conditionWord b x := by
  unfold changedConditions
  rw [vector_get_ofFn, toldWord_eq, toldWord_eq, h]
  generalize List.foldl _ _ _ = w
  rw [BitVec.xor_assoc, BitVec.xor_comm w, BitVec.xor_assoc, BitVec.xor_self, BitVec.xor_zero]

theorem vector_ext_get {α : Type} {n : Nat} {v w : Vector α n} (h : ∀ i, v.get i = w.get i) : v = w := by
  refine Vector.ext fun i hi => ?_
  have := h ⟨i, hi⟩
  rwa [Vector.get_eq_getElem, Vector.get_eq_getElem] at this

/-- The conditions that a sequencer's record changes. -/
theorem changedConditions_modSeq {q : Halt} {r : SeqRecord} {s : State} (hr : r.published = (s.seqs.get q).published) :
    changedConditions s (modSeq q (fun _ => r) s) =
      if r.timerDone = (s.seqs.get q).timerDone then Vector.replicate 6 0#32 else timerDoneChange q := by
  refine vector_ext_get fun h => ?_
  rw [changedConditions_get (a := s) (b := modSeq q (fun _ => r) s) rfl, conditionWord_modSeq hr]
  by_cases hd : r.timerDone = (s.seqs.get q).timerDone
  · rw [if_neg fun hc => hc.2 hd, if_pos hd, Vector.get_eq_getElem, Vector.getElem_replicate]
  · rw [if_neg hd]
    unfold timerDoneChange
    rw [vector_get_ofFn]
    simp only [hd, not_false_iff, and_true, ne_eq]

theorem timerDoneChange_some : ∀ q, ¬ ((timerDoneChange q).toList.all fun x => x == 0#32) = true := by decide

/-- The only kind of change that holds STATE_TIMER_DONE of a sequencer is that of its halt. -/
theorem changeKinds_timerDone : ∀ q, changeKinds.filter (fun m => (changeWithin m (timerDoneChange q)).toList.any fun x => x != 0#32) =
    [changeOf (fun x => x == q) 6] := by decide +kernel

theorem changeWithin_timerDone : ∀ q, changeWithin (changeOf (fun x => x == q) 6) (timerDoneChange q) = timerDoneChange q := by decide +kernel

theorem foldl_announceChange (v : Vector (BitVec 32) 6) (l : List (Vector (BitVec 32) 6)) (b : State) :
    l.foldl (fun s m => announceChange v m s) b = { b with
      agenda := b.agenda ++ (l.filter fun m => (changeWithin m v).toList.any fun x => x != 0#32).map
        fun m => .outside (changeWithin m v) 0#6 } := by
  induction l generalizing b with
  | nil => simp
  | cons m l ih =>
    rw [List.foldl_cons, ih]
    unfold announceChange announceIf announce
    by_cases hm : ((changeWithin m v).toList.any fun x => x != 0#32) = true
    · rw [if_pos hm, List.filter_cons, if_pos hm, List.map_cons]
      simp only [List.append_assoc, List.singleton_append]
    · rw [if_neg hm, List.filter_cons, if_neg hm]

/-- A sequencer's record, told to the others: the change of STATE_TIMER_DONE alone (R124, R127). -/
theorem watch_modSeq {q : Halt} {r : SeqRecord} {s : State} (hr : r.published = (s.seqs.get q).published) :
    watch (modSeq q fun _ => r) s = { modSeq q (fun _ => r) s with
      agenda := s.agenda ++ if r.timerDone = (s.seqs.get q).timerDone then [] else [.outside (timerDoneChange q) 0#6] } := by
  unfold watch announceConditions
  dsimp only
  rw [changedConditions_modSeq hr]
  by_cases hd : r.timerDone = (s.seqs.get q).timerDone
  · rw [if_pos hd, if_pos hd, if_pos (by decide), List.append_nil]
    rfl
  · rw [if_neg hd, if_neg hd, if_neg (timerDoneChange_some q), foldl_announceChange, changeKinds_timerDone, List.map_singleton,
      changeWithin_timerDone]
    rfl

/-! ## A pass (R126 to R129) -/

theorem findIdx_slot (p : Program) (w : BitVec 32) (r : SeqRecord) (i : Fin 24) :
    p.slots.toList.findIdx? (slotTrue w r) = some i.val ↔
      slotTrue w r (p.slots.get i) = true ∧ ∀ j, j < i → slotTrue w r (p.slots.get j) = false := by
  have hlen : p.slots.toList.length = 24 := Vector.length_toList
  have hget : ∀ (j : Nat) (hj : j < p.slots.toList.length), p.slots.toList[j] = p.slots.get ⟨j, hlen ▸ hj⟩ := fun j hj => by
    rw [Vector.getElem_toList, Vector.get_eq_getElem]
  rw [List.findIdx?_eq_some_iff_getElem]
  constructor
  · rintro ⟨hi, htrue, hbefore⟩
    rw [hget] at htrue
    refine ⟨htrue, fun j hj => ?_⟩
    have := hbefore j.val hj
    rw [hget] at this
    simpa using this
  · rintro ⟨htrue, hbefore⟩
    refine ⟨by rw [hlen]; exact i.isLt, by rw [hget]; exact htrue, fun j hj => ?_⟩
    rw [hget]
    simpa using hbefore ⟨j, hj.trans i.isLt⟩ hj

theorem findIdx_none (p : Program) (w : BitVec 32) (r : SeqRecord) :
    p.slots.toList.findIdx? (slotTrue w r) = none ↔ ∀ i, slotTrue w r (p.slots.get i) = false := by
  rw [List.findIdx?_eq_none_iff]
  constructor
  · intro h i
    rw [Vector.get_eq_getElem]
    exact h _ (Vector.mem_toList_iff.mpr (Vector.getElem_mem _))
  · intro h x hx
    obtain ⟨j, hj, rfl⟩ := List.getElem_of_mem hx
    have hlen : p.slots.toList.length = 24 := Vector.length_toList
    have := h ⟨j, hlen ▸ hj⟩
    rw [Vector.get_eq_getElem] at this
    rwa [Vector.getElem_toList]

theorem passGo_none {p : Program} {w : BitVec 32} {n : Nat} {r : SeqRecord} (h : ∀ i, slotTrue w r (p.slots.get i) = false) :
    passGo p w (n + 1) r = (r, false) := by
  unfold passGo
  rw [(findIdx_none p w r).mpr h]

theorem passGo_some {p : Program} {w : BitVec 32} {n : Nat} {r : SeqRecord} {i : Nat}
    (h : p.slots.toList.findIdx? (slotTrue w r) = some i) : passGo p w (n + 1) r =
      if r.transitions < 8 then passGo p w n (enterSeqState p (slotTarget i) { r with transitions := r.transitions + 1 })
      else (enterCyclingHold p r, true) := by
  rw [passGo, h]

/-- Fuel beyond the transitions that an answer still allows changes nothing (R129). -/
theorem passGo_fuel (p : Program) (w : BitVec 32) (n : Nat) (r : SeqRecord) (h : 8 ≤ n + r.transitions) :
    passGo p w (n + 2) r = passGo p w (n + 1) r := by
  induction n generalizing r with
  | zero =>
    rcases hf : p.slots.toList.findIdx? (slotTrue w r) with - | i
    · rw [passGo_none ((findIdx_none p w r).mp hf), passGo_none ((findIdx_none p w r).mp hf)]
    · rw [passGo_some hf, passGo_some hf, if_neg (by omega), if_neg (by omega)]
  | succ n ih =>
    rcases hf : p.slots.toList.findIdx? (slotTrue w r) with - | i
    · rw [passGo_none ((findIdx_none p w r).mp hf), passGo_none ((findIdx_none p w r).mp hf)]
    · rw [passGo_some hf, passGo_some hf]
      split
      · exact ih _ (by change 8 ≤ n + (r.transitions + 1); omega)
      · rfl

theorem passGo_published (p : Program) (w : BitVec 32) (n : Nat) (r : SeqRecord) : (passGo p w n r).1.published = r.published := by
  induction n generalizing r with
  | zero => rfl
  | succ n ih =>
    rcases hf : p.slots.toList.findIdx? (slotTrue w r) with - | i
    · rw [passGo_none ((findIdx_none p w r).mp hf)]
    · rw [passGo_some hf]
      split
      · exact ih _
      · rfl

/-- A sequencer's record at the start of a pass: the first of an answer begins to count its transitions (R129). -/
def recordAtPass (fresh : Bool) (r : SeqRecord) : SeqRecord := { r with transitions := if fresh then 0 else r.transitions }

/-- The cases of a pass (R126, R128, R129). -/
theorem passRecord_eq (p : Program) (w : BitVec 32) (fresh : Bool) (r : SeqRecord) : passRecord p w fresh r =
    if r.cyclingHold = true ∧ fresh = false then (r, false)
    else if resetHolds p w r = true then
      if r.resetHeld = true then (recordAtPass fresh r, false)
      else (enterSeqState p (stateOfCode p.initial) { recordAtPass fresh r with resetHeld := true, cyclingHold := false }, false)
    else if r.cyclingHold = true then
      passGo p w 10 (enterSeqState p (stateOfCode p.initial) { recordAtPass fresh r with resetHeld := false, cyclingHold := false })
    else passGo p w 10 { recordAtPass fresh r with resetHeld := false } := by
  have hfirst : (!fresh && r.cyclingHold) = true ↔ r.cyclingHold = true ∧ fresh = false := by cases fresh <;> simp
  unfold passRecord
  simp only [hfirst]
  cases fresh <;> rfl

theorem passRecord_published (p : Program) (w : BitVec 32) (fresh : Bool) (r : SeqRecord) :
    (passRecord p w fresh r).1.published = r.published := by
  rw [passRecord_eq]
  split
  · rfl
  · split
    · split <;> rfl
    · split <;> exact passGo_published ..

/-! ## The end of a pass (R130) -/

/-- A record that publishes `new` where `old` stood: whether bit `b` changed. -/
theorem changedBit (old new : Byte) (b : Nat) : (old ^^^ new).getLsbD b = true ↔ old.getLsbD b ≠ new.getLsbD b := by
  rw [BitVec.getLsbD_xor]
  cases old.getLsbD b <;> cases new.getLsbD b <;> decide

/-- What an evaluation of the doors of a car touches (R104, R107). -/
theorem doorEvaluation_frame (k : CarId) (s : State) : ∃ d p w l,
    doorEvaluation k s = { s with doors := d, ports := p, pulses := w, agenda := l } := by
  obtain ⟨d, p, w, h⟩ := evaluateDoors_frame k s
  obtain ⟨l, hl⟩ := doorEvent_eq k (evaluateDoors k) s
  exact ⟨d, p, w, (evaluateDoors k s).agenda ++ l, by rw [doorEvaluation, hl, h]⟩

/-- The work of the gate unit that gives no notice: gates and ports (R139 to R142, R156). -/
def GateWork (s t : State) : Prop := ∃ p g, t = { s with ports := p, gates := g }

namespace GateWork

theorem refl (s : State) : GateWork s s := ⟨_, _, rfl⟩

theorem trans {s t u : State} (h : GateWork s t) (h' : GateWork t u) : GateWork s u := by
  obtain ⟨p, g, rfl⟩ := h
  obtain ⟨p', g', rfl⟩ := h'
  exact ⟨p', g', rfl⟩

theorem when {c : Prop} [Decidable c] {f : State → State} (hf : ∀ u, GateWork u (f u)) (s : State) : GateWork s (if c then f s else s) := by
  split
  · exact hf s
  · exact refl s

theorem foldl {α : Type} {g : State → α → State} (hg : ∀ u x, GateWork u (g u x)) (l : List α) (s : State) : GateWork s (l.foldl g s) := by
  induction l generalizing s with
  | nil => exact refl s
  | cons x l ih => exact (hg s x).trans (ih _)

theorem modGates (f : GateUnit → GateUnit) (s : State) : GateWork s (modGates f s) := ⟨_, _, rfl⟩

theorem modWindow (x : Halt) (f : Window → Window) (s : State) : GateWork s (modWindow x f s) := ⟨_, _, rfl⟩

theorem updateMode (g : GateId) (s : State) : GateWork s (updateMode g s) := by
  obtain ⟨p, r, h, -⟩ := updateMode_fields g s
  exact ⟨p, _, h⟩

theorem updateModesOf (p : GateId → Bool) (s : State) : GateWork s (updateModesOf p s) :=
  foldl (fun u g => when (updateMode g) u) _ s

theorem deliver (g : GateId) (s : State) : GateWork s (deliver g s) := by
  obtain ⟨p, q, b0, b1, f, h, -⟩ := deliver_fields g s
  exact ⟨p, _, h⟩

theorem openWindow (x : Halt) (s : State) : GateWork s (openWindow x s) := by
  unfold Machine.openWindow
  split
  · exact modGates ..
  · exact modWindow ..

theorem closeOut (hs : Halt → Bool) (s : State) : GateWork s (closeOut hs s) := by
  have each : ∀ (f : Halt → Window → Window) (u : State),
      GateWork u (allHalts.foldl (fun s x => if hs x then Machine.modWindow x (f x) s else s) u) :=
    fun f u => foldl (fun u x => when (modWindow x (f x)) u) _ u
  unfold Machine.closeOut
  dsimp only
  refine GateWork.trans ?_ (foldl (fun u g => deliver g u) _ _)
  refine GateWork.trans ?_ (modGates _ _)
  refine GateWork.trans ?_ (each _ _)
  exact GateWork.trans (each _ s) (updateModesOf _ _)

theorem gateTakesOutputs (x : Halt) (rose fell : Bool) (s : State) : GateWork s (gateTakesOutputs x rose fell s) := by
  have first : GateWork s (if fell then Machine.closeOut (fun y => y == x) s else s) := when (closeOut _) s
  unfold Machine.gateTakesOutputs
  dsimp only
  generalize (if fell then Machine.closeOut (fun y => y == x) s else s) = s1 at first ⊢
  exact first.trans (GateWork.trans (when (openWindow x) s1) (updateModesOf _ _))

end GateWork

/-- What the trip sequencer touches when it is told of outputs: the trip and the overrun field, pulses and announcements (R85, R86). -/
def TripWork (s t : State) : Prop :=
  ∃ (tr : Trip) (w : Vector PulseRun 16) (v : SpeedRecord) (l : List Ann), t = { s with trip := tr, pulses := w, speed := v, agenda := l }

namespace TripWork

theorem refl (s : State) : TripWork s s := ⟨_, _, _, _, rfl⟩

theorem trans {s t u : State} (h : TripWork s t) (h' : TripWork t u) : TripWork s u := by
  obtain ⟨tr, w, v, l, rfl⟩ := h
  obtain ⟨tr', w', v', l', rfl⟩ := h'
  exact ⟨tr', w', v', l', rfl⟩

theorem carry {f : State → State} {s : State} (hf : TripWork s (f s)) : TripWork s (carry f s) := by
  obtain ⟨v, l, h⟩ := carry_fields f s
  rw [h]
  exact hf.trans ⟨_, _, _, _, rfl⟩

theorem enterReady (o : Origin) (s : State) : TripWork s (enterReady o s) := by
  unfold Machine.enterReady
  dsimp only
  split
  · exact ⟨_, _, _, _, rfl⟩
  · exact ⟨_, _, _, _, rfl⟩

theorem testReady (s : State) : TripWork s (testReady s) := by
  unfold Machine.testReady
  split
  · exact carry ⟨_, _, _, _, rfl⟩
  · exact refl s

theorem testAuto (s : State) : TripWork s (testAuto s) := by
  unfold Machine.testAuto
  split
  · refine carry ?_
    unfold startDispatch
    split
    · exact TripWork.trans ⟨_, _, _, _, rfl⟩ (enterReady _ _)
    · exact enterReady _ _
  · exact refl s

theorem tellTrip (q : Halt) (ch : Byte) (s : State) : TripWork s (tellTrip q ch s) := by
  have auto : ∀ u : State, TripWork u (if ch.getLsbD bitDepartRequest && !(carsAt u q).isEmpty then Machine.testAuto u else u) := by
    intro u
    split
    · exact testAuto u
    · exact refl u
  refine TripWork.trans (t := if ch.getLsbD bitEntryOpen then Machine.testReady s else s) ?_ (auto _)
  split
  · exact testReady s
  · exact refl s

end TripWork

/-- Told of neither ENTRY_OPEN nor DEPART_REQUEST, the trip sequencer does nothing. -/
theorem tellTrip_none {q : Halt} {ch : Byte} {s : State} (h0 : ch.getLsbD 0 = false) (h3 : ch.getLsbD 3 = false) : tellTrip q ch s = s := by
  have e0 : ch.getLsbD bitEntryOpen = false := h0
  have e3 : ch.getLsbD bitDepartRequest = false := h3
  unfold tellTrip
  rw [e0, e3]
  rfl

/-- The user events of a changed word, one behind the other (R130). -/
def userEvent (q : Halt) (old new : Byte) (b : Fin 3) (s : State) : State :=
  if old.getLsbD (5 + b.val) ≠ new.getLsbD (5 + b.val) then
    giveEvent (if new.getLsbD (5 + b.val) then .userRise q b else .userFall q b) s
  else s

theorem giveUserEvents_eq (q : Halt) (old new : Byte) (s : State) :
    giveUserEvents q old new s = userEvent q old new 2 (userEvent q old new 1 (userEvent q old new 0 s)) := by
  have each : ∀ (b : Fin 3) (u : State), (if (old.getLsbD (5 + b.val) == new.getLsbD (5 + b.val)) = true then u
      else if new.getLsbD (5 + b.val) = true then giveEvent (.userRise q b) u else giveEvent (.userFall q b) u) =
      userEvent q old new b u := by
    intro b u
    unfold userEvent
    cases old.getLsbD (5 + b.val) <;> cases new.getLsbD (5 + b.val) <;> rfl
  unfold giveUserEvents
  simp only [List.foldl_cons, List.foldl_nil]
  rw [← each, ← each, ← each]

/-- Events touch the pulses alone, and these by the pulses and the pulse table as they stand. -/
theorem userEvent_frame (q : Halt) (old new : Byte) (b : Fin 3) (s : State) : ∃ w, userEvent q old new b s = { s with pulses := w } ∧
    ∀ u : State, u.pulses = s.pulses → u.active = s.active → (userEvent q old new b u).pulses = w := by
  unfold userEvent
  split
  · refine ⟨_, rfl, fun u hp ha => ?_⟩
    unfold giveEvent
    dsimp only
    rw [hp, ha]
  · exact ⟨_, rfl, fun u hp _ => hp⟩

theorem giveUserEvents_frame (q : Halt) (old new : Byte) (s : State) : ∃ w, giveUserEvents q old new s = { s with pulses := w } ∧
    ∀ u : State, u.pulses = s.pulses → u.active = s.active → (giveUserEvents q old new u).pulses = w := by
  obtain ⟨w0, h0, g0⟩ := userEvent_frame q old new 0 s
  obtain ⟨w1, h1, g1⟩ := userEvent_frame q old new 1 (userEvent q old new 0 s)
  obtain ⟨w2, h2, g2⟩ := userEvent_frame q old new 2 (userEvent q old new 1 (userEvent q old new 0 s))
  refine ⟨w2, by rw [giveUserEvents_eq, h2, h1, h0], fun u hp ha => ?_⟩
  obtain ⟨v0, e0, -⟩ := userEvent_frame q old new 0 u
  obtain ⟨v1, e1, -⟩ := userEvent_frame q old new 1 (userEvent q old new 0 u)
  have a0 : (userEvent q old new 0 u).active = (userEvent q old new 0 s).active := by rw [e0, h0]; exact ha
  have p0 : (userEvent q old new 0 u).pulses = (userEvent q old new 0 s).pulses := by rw [g0 u hp ha, h0]
  have a1 : (userEvent q old new 1 (userEvent q old new 0 u)).active = (userEvent q old new 1 (userEvent q old new 0 s)).active := by
    rw [e1, h1]
    exact a0
  have p1 : (userEvent q old new 1 (userEvent q old new 0 u)).pulses = (userEvent q old new 1 (userEvent q old new 0 s)).pulses := by
    rw [g1 _ p0 a0, h1]
  rw [giveUserEvents_eq]
  exact g2 _ p1 a1

/-- What a block's consumers leave while a changed word is announced: the sequencers, the supervisor and the tables (R130). -/
structure ToldWork (s t : State) : Prop where
  seqs : t.seqs = s.seqs
  brake : t.brake = s.brake
  active : t.active = s.active
  mgmt : t.mgmt = s.mgmt

theorem doorWork_told {k : CarId} {s : State} : ToldWork s (watch (doorEvaluation k) s) ∧
    (watch (doorEvaluation k) s).gates = s.gates ∧ (watch (doorEvaluation k) s).trip = s.trip := by
  obtain ⟨d, p, w, l, h⟩ := doorEvaluation_frame k s
  obtain ⟨l', hw⟩ := watch_eq (doorEvaluation k) s
  rw [hw, h]
  exact ⟨⟨rfl, rfl, rfl, rfl⟩, rfl, rfl⟩

theorem doorsWork_told (ks : List CarId) (s : State) : ToldWork s (ks.foldl (fun s k => watch (doorEvaluation k) s) s) ∧
    (ks.foldl (fun s k => watch (doorEvaluation k) s) s).gates = s.gates ∧
    (ks.foldl (fun s k => watch (doorEvaluation k) s) s).trip = s.trip := by
  induction ks generalizing s with
  | nil => exact ⟨⟨rfl, rfl, rfl, rfl⟩, rfl, rfl⟩
  | cons k ks ih =>
    obtain ⟨h, hg, ht⟩ := doorWork_told (k := k) (s := s)
    obtain ⟨h', hg', ht'⟩ := ih (watch (doorEvaluation k) s)
    exact ⟨⟨h'.seqs.trans h.seqs, h'.brake.trans h.brake, h'.active.trans h.active, h'.mgmt.trans h.mgmt⟩, hg'.trans hg, ht'.trans ht⟩

theorem gateWork_told (q : Halt) (rose fell : Bool) (s : State) : ToldWork s (watch (gateTakesOutputs q rose fell) s) ∧
    (watch (gateTakesOutputs q rose fell) s).doors = s.doors ∧ (watch (gateTakesOutputs q rose fell) s).trip = s.trip ∧
    (watch (gateTakesOutputs q rose fell) s).pulses = s.pulses := by
  obtain ⟨p, g, h⟩ := GateWork.gateTakesOutputs q rose fell s
  obtain ⟨l, hw⟩ := watch_eq (gateTakesOutputs q rose fell) s
  rw [hw, h]
  exact ⟨⟨rfl, rfl, rfl, rfl⟩, rfl, rfl, rfl⟩

theorem tripWork_told (q : Halt) (ch : Byte) (s : State) : ToldWork s (watch (tellTrip q ch) s) ∧
    (watch (tellTrip q ch) s).doors = s.doors ∧ (watch (tellTrip q ch) s).gates = s.gates ∧
    (ch.getLsbD 0 = false → ch.getLsbD 3 = false → (watch (tellTrip q ch) s).trip = s.trip ∧ (watch (tellTrip q ch) s).pulses = s.pulses) := by
  obtain ⟨tr, w, v, l, h⟩ := TripWork.tellTrip q ch s
  obtain ⟨l', hw⟩ := watch_eq (tellTrip q ch) s
  refine ⟨?_, ?_, ?_, fun h0 h3 => ?_⟩
  · rw [hw, h]
    exact ⟨rfl, rfl, rfl, rfl⟩
  · rw [hw, h]
  · rw [hw, h]
  · rw [hw, tellTrip_none h0 h3]
    exact ⟨rfl, rfl⟩

/-- The publication of a word: the record, and of the blocks those to which a changed bit belongs (R130). -/
theorem publish_spec (q : Halt) (s : State) :
    let old := (s.seqs.get q).published
    let new := wordToPublish (s.seqs.get q)
    let t := publish tellTrip q s
    let same (b : Nat) : Prop := old.getLsbD b = new.getLsbD b
    t.seqs = vmod s.seqs q (fun r => { r with published := new }) ∧ (same 2 → t.doors = s.doors) ∧ (same 0 → same 1 → t.gates = s.gates) ∧
      (same 0 → same 3 → t.trip = s.trip) ∧ (same 0 → same 2 → same 3 → t.pulses = (giveUserEvents q old new s).pulses) ∧
      t.mgmt = s.mgmt ∧ (old = new → t = s) := by
  intro old new t same
  by_cases heq : old = new
  · have ht : t = s := if_pos heq
    have hself : vmod s.seqs q (fun r => { r with published := new }) = s.seqs := by
      unfold vmod
      rw [← heq]
      exact vset_get s.seqs q
    have hquiet : giveUserEvents q old new s = s := by
      rw [giveUserEvents_eq, heq]
      unfold userEvent
      simp only [ne_eq, not_true_eq_false, if_false]
    rw [ht, hself, hquiet]
    exact ⟨rfl, fun _ => rfl, fun _ _ => rfl, fun _ _ => rfl, fun _ _ _ => rfl, rfl, fun _ => rfl⟩
  · have hbit : ∀ {b : Nat}, same b → (old ^^^ new).getLsbD b = false := fun {b} hs => by
      rw [← Bool.not_eq_true, changedBit]
      exact not_not_intro hs
    obtain ⟨s1, hs1⟩ : ∃ x, x = modSeq q (fun r => { r with published := new }) s := ⟨_, rfl⟩
    obtain ⟨s2, hs2⟩ : ∃ x, x = if (old ^^^ new).getLsbD bitDoorPermit then
      (carsAt s1 q).foldl (fun s k => watch (doorEvaluation k) s) s1 else s1 := ⟨_, rfl⟩
    obtain ⟨s3, hs3⟩ : ∃ x, x = if (old ^^^ new).getLsbD bitEntryOpen || (old ^^^ new).getLsbD bitExitOpen then
        watch (gateTakesOutputs q ((old ^^^ new).getLsbD bitEntryOpen && new.getLsbD bitEntryOpen)
          ((old ^^^ new).getLsbD bitEntryOpen && old.getLsbD bitEntryOpen)) s2 else s2 := ⟨_, rfl⟩
    have ht : t = giveUserEvents q old new (watch (tellTrip q (old ^^^ new)) s3) := by
      rw [hs3, hs2, hs1]
      exact if_neg heq
    have told2 : ToldWork s1 s2 ∧ s2.gates = s1.gates ∧ s2.trip = s1.trip ∧ (same 2 → s2 = s1) := by
      rw [hs2]
      split
      next hc =>
        obtain ⟨h, hg, htr⟩ := doorsWork_told (carsAt s1 q) s1
        exact ⟨h, hg, htr, fun h2 => absurd (hbit h2) (by rw [show (old ^^^ new).getLsbD 2 = true from hc]; decide)⟩
      · exact ⟨⟨rfl, rfl, rfl, rfl⟩, rfl, rfl, fun _ => rfl⟩
    have told3 : ToldWork s2 s3 ∧ s3.doors = s2.doors ∧ s3.trip = s2.trip ∧ s3.pulses = s2.pulses ∧ (same 0 → same 1 → s3 = s2) := by
      rw [hs3]
      split
      next hc =>
        obtain ⟨h, hd, htr, hp⟩ := gateWork_told q ((old ^^^ new).getLsbD bitEntryOpen && new.getLsbD bitEntryOpen)
          ((old ^^^ new).getLsbD bitEntryOpen && old.getLsbD bitEntryOpen) s2
        refine ⟨h, hd, htr, hp, fun h0 h1 => absurd hc ?_⟩
        rw [show (old ^^^ new).getLsbD bitEntryOpen = false from hbit h0, show (old ^^^ new).getLsbD bitExitOpen = false from hbit h1]
        decide
      · exact ⟨⟨rfl, rfl, rfl, rfl⟩, rfl, rfl, rfl, fun _ _ => rfl⟩
    obtain ⟨told4, hd4, hg4, hquiet4⟩ := tripWork_told q (old ^^^ new) s3
    obtain ⟨w, hw, hsame⟩ := giveUserEvents_frame q old new (watch (tellTrip q (old ^^^ new)) s3)
    obtain ⟨told2, hg2, htr2, hq2⟩ := told2
    obtain ⟨told3, hd3, htr3, hp3, hq3⟩ := told3
    rw [ht, hw]
    refine ⟨?_, fun h2 => ?_, fun h0 h1 => ?_, fun h0 h3 => ?_, fun h0 h2 h3 => ?_, ?_, fun he => absurd he heq⟩
    · exact told4.seqs.trans (told3.seqs.trans (told2.seqs.trans (by rw [hs1]; rfl)))
    · exact hd4.trans (hd3.trans (by rw [hq2 h2, hs1]; rfl))
    · exact hg4.trans (by rw [hq3 h0 h1, hg2, hs1]; rfl)
    · exact (hquiet4 (hbit h0) (hbit h3)).1.trans (htr3.trans (htr2.trans (by rw [hs1]; rfl)))
    · refine (hsame s ?_ ?_).symm
      · exact ((hquiet4 (hbit h0) (hbit h3)).2.trans (hp3.trans (by rw [hq2 h2, hs1]; rfl))).symm
      · exact (told4.active.trans (told3.active.trans (told2.active.trans (by rw [hs1]; rfl)))).symm
    · exact told4.mgmt.trans (told3.mgmt.trans (told2.mgmt.trans (by rw [hs1]; rfl)))

/-- A pass with its publication: the record, the cycling notice, and what the changed bits of the word reach (R126, R130). -/
theorem seqPass_spec (levels : Vector (BitVec 32) 6) (fresh : Bool) (q : Fin 6) (s : State) :
    let r := passRecord (s.active.a.programs.get q) (passWord levels s q) fresh (s.seqs.get q)
    let old := (s.seqs.get q).published
    let word := wordToPublish r.1
    let t := seqPass tellTrip levels fresh q s
    let same (b : Nat) : Prop := old.getLsbD b = word.getLsbD b
    t.seqs = vset s.seqs q { r.1 with published := word } ∧
      (r.2 = true → (t.mgmt.notices.get (noticeIndex .SEQUENCER_CYCLING)).pending = true) ∧ (same 2 → t.doors = s.doors) ∧
      (same 0 → same 1 → t.gates = s.gates) ∧ (same 0 → same 3 → t.trip = s.trip) ∧
      (same 0 → same 2 → same 3 → t.pulses = (giveUserEvents q old word s).pulses) ∧
      (word = old → t.brake = s.brake ∧ (r.2 = false → t.ports = s.ports ∧ t.mgmt = s.mgmt) ∧
        t.agenda = s.agenda ++ if r.1.timerDone = (s.seqs.get q).timerDone then [] else [.outside (timerDoneChange q) 0#6]) := by
  intro r old word t same
  have hpub : r.1.published = (s.seqs.get q).published := passRecord_published ..
  obtain ⟨s1, hs1⟩ : ∃ x, x = watch (modSeq q fun _ => r.1) s := ⟨_, rfl⟩
  have hwatch := hs1.trans (watch_modSeq hpub)
  obtain ⟨u, hu⟩ : ∃ x, x = if r.2 = true then occur .SEQUENCER_CYCLING s1 else s1 := ⟨_, rfl⟩
  have ht : t = publish tellTrip q u := by
    rw [hu, hs1]
    rfl
  have hframe : ∃ p w, u = { s1 with ports := p, mgmt := { s1.mgmt with notices := w } } := by
    rw [hu]
    split
    · obtain ⟨p, w, -, h⟩ := occur_fields .SEQUENCER_CYCLING s1
      exact ⟨p, w, h⟩
    · exact ⟨_, _, rfl⟩
  have hpending : r.2 = true → (u.mgmt.notices.get (noticeIndex .SEQUENCER_CYCLING)).pending = true := fun h => by
    rw [hu, if_pos h]
    exact occur_pending ..
  have hplain : r.2 = false → u = s1 := fun h => by
    rw [hu, h]
    rfl
  obtain ⟨p, w, hframe⟩ := hframe
  rw [hwatch] at hframe
  have hseqs : u.seqs = vset s.seqs q r.1 := by rw [hframe]; rfl
  have hget : u.seqs.get q = r.1 := by rw [hseqs, vset_get_self]
  obtain ⟨h1, h2, h3, h4, h5, h6, h7⟩ := publish_spec q u
  rw [← ht] at h1 h2 h3 h4 h5 h6 h7
  rw [hget] at h1 h2 h3 h4 h5 h7
  rw [hpub] at h2 h3 h4 h5 h7
  obtain ⟨v, hv, hsame⟩ := giveUserEvents_frame q old word u
  refine ⟨?_, fun h => by rw [h6]; exact hpending h, fun b2 => (h2 b2).trans (by rw [hframe]; rfl),
    fun b0 b1 => (h3 b0 b1).trans (by rw [hframe]; rfl), fun b0 b3 => (h4 b0 b3).trans (by rw [hframe]; rfl), fun b0 b2 b3 => ?_,
    fun he => ?_⟩
  · rw [h1, hseqs]
    unfold vmod
    rw [vset_get_self, vset_vset]
  · rw [h5 b0 b2 b3, hv]
    exact (hsame s (by rw [hframe]; rfl) (by rw [hframe]; rfl)).symm
  · rw [h7 he.symm]
    refine ⟨by rw [hframe]; rfl, fun hr => ?_, by rw [hframe]⟩
    rw [hplain hr, hwatch]
    exact ⟨rfl, rfl⟩

/-! ## O40 -/

theorem stateTimerExpires_some {q : Halt} {s : State} (h : (s.seqs.get q).timer ≠ none) :
    let s1 := modSeq q (fun _ => { s.seqs.get q with timer := none, timerDone := true }) s
    stateTimerExpires q s = { s1 with agenda := s.agenda ++ [.outside (changedConditions s s1) (1#6 <<< q.val)] } :=
  if_pos (Option.isSome_iff_ne_none.mpr h)

theorem stateTimerExpires_none {q : Halt} {s : State} (h : (s.seqs.get q).timer = none) : stateTimerExpires q s = s := by
  unfold stateTimerExpires
  rw [h]
  rfl

theorem pulseStarts_eq (i : Fin 16) (s : State) : pulseStarts i s = if (s.pulses.get i).state = .WAITING then
    { s with pulses := vset s.pulses i { s.pulses.get i with state := .ACTIVE } } else s := by
  unfold pulseStarts
  cases (s.pulses.get i).state <;> rfl

theorem pulseEnds_eq (i : Fin 16) (s : State) : pulseEnds i s = if (s.pulses.get i).state = .ACTIVE then
    { s with pulses := vset s.pulses i { s.pulses.get i with state := .IDLE } } else s := by
  unfold pulseEnds
  cases (s.pulses.get i).state <;> rfl

theorem slotTrue_iff (w : BitVec 32) (x : SeqRecord) (sl : SlotEntry) : slotTrue w x sl = true ↔
    yes sl.enabled = true ∧ sl.source.getLsbD x.state.val = true ∧ condLevel w x sl.condition ≠ yes sl.polarity := by
  unfold slotTrue
  rw [Bool.and_eq_true, Bool.and_eq_true, bne_iff_ne, and_assoc]

theorem resetHolds_iff (p : Program) (w : BitVec 32) (x : SeqRecord) : resetHolds p w x = true ↔
    yes p.reset.enabled = true ∧ condLevel w x p.reset.condition ≠ yes p.reset.polarity := by
  unfold resetHolds
  rw [Bool.and_eq_true, bne_iff_ne]

/-- The steps of a pass from a record on (R126, R129). -/
theorem passGo_steps (p : Program) (w : BitVec 32) (x : SeqRecord) :
    ((∀ i, slotTrue w x (p.slots.get i) = false) → passGo p w 10 x = (x, false)) ∧
    ∀ i : Fin 24, slotTrue w x (p.slots.get i) = true → (∀ j, j < i → slotTrue w x (p.slots.get j) = false) →
      (x.transitions < 8 → passGo p w 10 x =
        passGo p w 10 (enterSeqState p ⟨i.val / 3, by omega⟩ { x with transitions := x.transitions + 1 })) ∧
      (8 ≤ x.transitions → passGo p w 10 x = (enterCyclingHold p x, true)) := by
  refine ⟨passGo_none, fun i hi hbefore => ?_⟩
  have hfind := (findIdx_slot p w x i).mpr ⟨hi, hbefore⟩
  refine ⟨fun hlt => ?_, fun hge => ?_⟩
  · have htarget : slotTarget i.val = ⟨i.val / 3, by omega⟩ := by
      refine Fin.ext ?_
      change min 7 (i.val / 3) = i.val / 3
      omega
    rw [passGo_some hfind, if_pos hlt, htarget]
    exact (passGo_fuel p w 8 _ (by omega)).symm
  · rw [passGo_some hfind, if_neg (by omega)]

/-- Settles O40: timers by their records, a pass by the steps of its slots, its end by what the changed bits reach. -/
theorem stationTimersMoveTheirRecords : Obligations.StationTimersMoveTheirRecords := by
  refine ⟨fun q s hr hag => ?_, fun i s hr => ?_, fun ev s => ⟨rfl, fun i => ?_⟩, fun p w => ?_, fun levels fresh q s => ?_⟩
  · intro r
    refine ⟨fun ht => ?_, fun ht hq => event_idle hr hq (stateTimerExpires_none ht)⟩
    obtain ⟨l, hl⟩ := react_eq (stateTimerExpires q) s
    have hf := stateTimerExpires_some ht
    refine ⟨react (stateTimerExpires q) s, event_eq hr, ?_, ?_, ?_⟩
    · rw [settle_rest, react_rest, hf]
      rfl
    · rw [hl, hf]
      unfold State.bare
      rw [← hag]
      rfl
    · refine ⟨changedConditions s (modSeq q (fun _ => { r with timer := none, timerDone := true }) s), ?_, fun h => ?_⟩
      · rw [hl, hf, hag]
        rfl
      · have hbit := conditionWord_modSeq (q := q) (r := { r with timer := none, timerDone := true }) (s := s) rfl h
        rw [changedConditions_get (a := s) (b := modSeq q _ s) rfl, hbit]
        refine if_congr (and_congr_right fun _ => ?_) rfl rfl
        change true ≠ r.timerDone ↔ r.timerDone = false
        cases r.timerDone <;> decide
  · intro r next
    have hstart : exec (.pulseStartOffset i) s = .next (pulseStarts i s) := plainly_eq hr
    have hend : exec (.pulseEndOffset i) s = .next (pulseEnds i s) := plainly_eq hr
    rw [pulseStarts_eq] at hstart
    rw [pulseEnds_eq] at hend
    refine ⟨fun h => ?_, fun h => ?_, fun h => ?_, fun h => ?_⟩
    · rw [if_pos h] at hstart
      exact hstart
    · rw [if_neg h] at hstart
      exact hstart
    · rw [if_pos h] at hend
      exact hend
    · rw [if_neg h] at hend
      exact hend
  · intro e starts
    rw [giveEvent_get]
    exact ⟨fun h => if_pos h, fun h => if_neg h⟩
  · intro first level holds enter go
    have hholds : ∀ (x : SeqRecord) (i : Fin 24), holds x i ↔ slotTrue w x (p.slots.get i) = true :=
      fun x i => (slotTrue_iff w x _).symm
    have hnot : ∀ (x : SeqRecord) (i : Fin 24), ¬ holds x i ↔ slotTrue w x (p.slots.get i) = false := fun x i => by
      rw [hholds, Bool.not_eq_true]
    refine ⟨fun x => ?_, fun fresh r => ?_⟩
    · obtain ⟨hnone, hsome⟩ := passGo_steps p w x
      exact ⟨fun h => hnone fun i => (hnot x i).mp (h i),
        fun i hi hbefore => hsome i ((hholds x i).mp hi) fun j hj => (hnot x j).mp (hbefore j hj)⟩
    · intro x resets
      have hreset : resets ↔ resetHolds p w r = true := (resetHolds_iff p w r).symm
      have heq := passRecord_eq p w fresh r
      refine ⟨fun hc hf => heq.trans (if_pos ⟨hc, hf⟩), fun hcase => ?_⟩
      rw [if_neg fun h => hcase.elim (fun hc => by rw [hc] at h; exact absurd h.1 (by decide))
        fun hf => by rw [hf] at h; exact absurd h.2 (by decide)] at heq
      refine ⟨fun hs hh => ?_, fun hs hh => ?_, fun hs hh => ?_, fun hs hh => ?_⟩
      · rw [if_pos (hreset.mp hs), if_pos hh] at heq
        exact heq
      · rw [if_pos (hreset.mp hs), if_neg (by rw [hh]; decide)] at heq
        exact heq
      · rw [if_neg fun h => hs (hreset.mpr h), if_neg (by rw [hh]; decide)] at heq
        exact heq
      · rw [if_neg fun h => hs (hreset.mpr h), if_pos hh] at heq
        exact heq
  · intro r old word t changed given
    obtain ⟨h1, h2, h3, h4, h5, h6, h7⟩ := seqPass_spec levels fresh q s
    refine ⟨h1, h2, fun c2 => h3 (not_not.mp c2), fun c0 c1 => h4 (not_not.mp c0) (not_not.mp c1),
      fun c0 c3 => h5 (not_not.mp c0) (not_not.mp c3), fun c0 c2 c3 => (h6 (not_not.mp c0) (not_not.mp c2) (not_not.mp c3)).trans ?_, h7⟩
    rw [giveUserEvents_eq]
    rfl

end Sys2Proof.Machine
end

section
/-!
PROOFS. The gate unit's operations (chapter 8): frames sent, the ticket cache, the validation queue and its delivery, for the statements O42
to O44.
-/

namespace Sys2Proof.Machine

/-! ## Frames toward gates and the fare server -/

/-- A frame that goes to the node of entry `d`, as it stands among the frames that wait, unless the queue is full (R168). -/
def Waits (s : State) (d : Option NodeEntry) (own : Byte) (c : Content) : Prop := ∀ n, d = some n →
  (s.ports.get (nodeSide n)).normal.length < 32 → ⟨n.address, own, none, c⟩ ∈ (s.ports.get (nodeSide n)).normal

/-- A frame placed in a queue with room left afterwards is among those that wait. -/
theorem placeNormal_mem {x : OutFrame} {q : PortId} {s t : State} (hx : isLineStatus x = false) (h : StationWork (placeNormal q x s) t)
    (hroom : (t.ports.get q).normal.length < 32) : x ∈ (t.ports.get q).normal := by
  obtain ⟨l, hl⟩ := h.normal q
  have hin : x ∈ ((placeNormal q x s).ports.get q).normal := by
    rw [placeNormal_fields, PerPort.get_set_self] at hl ⊢
    rw [hl, List.length_append] at hroom
    rcases withNormal_cases x (s.ports.get q) with ⟨hs, -, -⟩ | ⟨hlt, hp⟩ | ⟨hge, hp⟩
    · rw [hx] at hs
      cases hs
    · rw [hp]
      exact List.mem_append_right _ (List.mem_singleton_self x)
    · rw [hp] at hroom
      have := hroom
      simp only at this
      omega
  rw [hl]
  exact List.mem_append_left _ hin

theorem sendGate_waits {g : GateId} {c : Content} {s t : State} (hc : ∀ dst src, isLineStatus ⟨dst, src, none, c⟩ = false)
    (h : StationWork (sendGate g c s) t) : Waits t (gateNode s.active.b g) s.mgmt.ownAddress c := by
  intro n hn hroom
  unfold sendGate at h
  rw [hn] at h
  exact placeNormal_mem (hc ..) h hroom

theorem sendNormal_waits {r : Role} {c : Content} {s t : State} (hc : ∀ dst src, isLineStatus ⟨dst, src, none, c⟩ = false)
    (h : StationWork (sendNormal r c s) t) : Waits t (firstRole s.active.b r) s.mgmt.ownAddress c := by
  intro n hn hroom
  unfold sendNormal at h
  rw [hn] at h
  exact placeNormal_mem (hc ..) h hroom

/-- The frames of a kind that an operation on the stations adds, if it adds any. -/
def AddsNo (kind : Byte) (s t : State) : Prop :=
  ∀ q y, y ∈ (t.ports.get q).normal → contentKind y.content = kind → y ∈ (s.ports.get q).normal

/-- What a frame that is placed adds to the queues: itself. -/
theorem placeNormal_new {x y : OutFrame} {p q : PortId} {s : State} (h : y ∈ ((placeNormal p x s).ports.get q).normal) :
    y = x ∨ y ∈ (s.ports.get q).normal := by
  by_cases hpq : q = p
  · subst hpq
    rw [placeNormal_fields, PerPort.get_set_self] at h
    have kept : ∀ l : List OutFrame, y ∈ replaceFirst isLineStatus x l → y = x ∨ y ∈ l := by
      intro l
      induction l with
      | nil => exact nofun
      | cons z l ih =>
        unfold replaceFirst
        split
        · exact fun h => (List.mem_cons.mp h).imp_right (List.mem_cons_of_mem _)
        · exact fun h => (List.mem_cons.mp h).elim (fun e => .inr (e ▸ List.mem_cons_self)) fun h => (ih h).imp_right (List.mem_cons_of_mem _)
    rcases withNormal_cases x (s.ports.get q) with ⟨-, -, hp⟩ | ⟨-, hp⟩ | ⟨-, hp⟩
    · rw [hp] at h
      exact kept _ h
    · rw [hp] at h
      exact (List.mem_append.mp h).symm.imp_left List.mem_singleton.mp
    · rw [hp] at h
      exact .inr h
  · rw [placeNormal_fields, PerPort.get_set_ne s.ports _ hpq] at h
    exact .inr h

theorem sendNormal_new {r : Role} {c : Content} {y : OutFrame} {q : PortId} {s : State} (h : y ∈ ((sendNormal r c s).ports.get q).normal) :
    y.content = c ∨ y ∈ (s.ports.get q).normal := by
  unfold sendNormal at h
  split at h
  · exact .inr h
  · exact (placeNormal_new h).imp_left fun e => by rw [e]; rfl

theorem placeNormal_addsNo {x : OutFrame} {kind : Byte} (hx : contentKind x.content ≠ kind) (p : PortId) (s : State) :
    AddsNo kind s (placeNormal p x s) :=
  fun _ _ hy hk => (placeNormal_new hy).resolve_left fun e => hx (e ▸ hk)

theorem sendGate_addsNo {g : GateId} {c : Content} {kind : Byte} (hc : contentKind c ≠ kind) (s : State) : AddsNo kind s (sendGate g c s) := by
  unfold sendGate
  split
  · exact fun _ _ h _ => h
  · exact placeNormal_addsNo (by exact hc) _ s

/-! ## Delivery (R151) -/

/-- The frames of kinds other than those of gate orders stay; what a delivery does to the gate unit it does entry by entry. -/
theorem deliver_induction {g : GateId} {P : State → Prop}
    (hadmit : ∀ s v, P s → v ∈ s.gates.queue → v.gate = g → v.state = .WAIT_GATE → v.verdict = some .ADMIT →
      P (modGates (modEntry v.slot fun x => { x with state := .WAIT_PASS, deadline := some (passDeadline s g) })
        (sendGate g (.gateAdmitOne v.number) s)))
    (hrefuse : ∀ s v r sr, P s → v ∈ s.gates.queue → v.gate = g → v.state = .WAIT_GATE → v.verdict = some (.REFUSE r sr) →
      P (modGates (freeEntry v) (sendRefusal g v.number r sr s))) {s : State} (h : P s) : P (deliver g s) := by
  have go : ∀ (n : Nat) (s : State), P s → P (deliverGo g n s) := by
    intro n
    induction n with
    | zero => exact fun _ => id
    | succ n ih =>
      intro s h
      unfold deliverGo
      split
      · exact h
      · split
        · exact h
        next v hv =>
          have hmem := List.mem_of_find?_eq_some hv
          have hgate : v.gate = g := by
            have := List.find?_some hv
            rw [Bool.and_eq_true, beq_iff_eq] at this
            exact this.1
          split
          next hst =>
            split
            next hver => exact hadmit s v h hmem hgate hst hver
            next r sr hver => exact ih _ (hrefuse s v r sr h hmem hgate hst hver)
            · exact h
          · exact h
  exact go _ s h

/-- Delivery, told by the gate unit alone. -/
theorem deliver_gates {g : GateId} {P : GateUnit → Prop}
    (hadmit : ∀ u v d, P u → v ∈ u.queue → v.gate = g → v.state = .WAIT_GATE → v.verdict = some .ADMIT →
      P (modEntry v.slot (fun x => { x with state := .WAIT_PASS, deadline := d }) u))
    (hrefuse : ∀ u v r sr f, P u → v ∈ u.queue → v.gate = g → v.state = .WAIT_GATE → v.verdict = some (.REFUSE r sr) →
      P (freeEntry v { u with refusals := f })) {s : State} (h : P s.gates) : P (deliver g s).gates := by
  refine deliver_induction (P := fun s => P s.gates) (fun s v hP hm hg hs hv => ?_) (fun s v r sr hP hm hg hs hv => ?_) h
  · obtain ⟨p, hp⟩ := sendGate_fields g (.gateAdmitOne v.number) s
    rw [hp]
    exact hadmit s.gates v _ hP hm hg hs hv
  · obtain ⟨p, hp⟩ := sendRefusal_fields g v.number r sr s
    rw [hp]
    exact hrefuse s.gates v r sr _ hP hm hg hs hv

theorem freeEntry_queue (v : VEntry) (u : GateUnit) : (freeEntry v u).queue = u.queue.filter fun x => x.slot != v.slot := by
  obtain ⟨b0, b1, h⟩ := freeEntry_fields v u
  rw [h]

/-- An entry after a delivery is one from before it, or one that now waits for its passage. -/
theorem deliver_entry {g : GateId} {s : State} {y : VEntry} (h : y ∈ (deliver g s).gates.queue) :
    ∃ x ∈ s.gates.queue, y = x ∨ ∃ d, y = { x with state := .WAIT_PASS, deadline := d } := by
  have step : ∀ (x y z : VEntry), (y = x ∨ ∃ d, y = { x with state := .WAIT_PASS, deadline := d }) →
      (z = y ∨ ∃ d, z = { y with state := .WAIT_PASS, deadline := d }) → z = x ∨ ∃ d, z = { x with state := .WAIT_PASS, deadline := d } := by
    rintro x y z (rfl | ⟨d, rfl⟩) hz
    · exact hz
    · rcases hz with rfl | ⟨d', rfl⟩
      · exact .inr ⟨d, rfl⟩
      · exact .inr ⟨d', rfl⟩
  have all : ∀ y ∈ (deliver g s).gates.queue, ∃ x ∈ s.gates.queue, y = x ∨ ∃ d, y = { x with state := .WAIT_PASS, deadline := d } := by
    refine deliver_gates (g := g) (s := s) (P := fun u => ∀ y ∈ u.queue, ∃ x ∈ s.gates.queue, y = x ∨
      ∃ d, y = { x with state := .WAIT_PASS, deadline := d }) (fun u v d hP _ _ _ _ z hz => ?_) (fun u v r sr f hP _ _ _ _ z hz => ?_)
      fun y hy => ⟨y, hy, .inl rfl⟩
    · obtain ⟨y, hy, rfl⟩ := List.mem_map.mp hz
      obtain ⟨x, hx, hxy⟩ := hP y hy
      refine ⟨x, hx, step x y _ hxy ?_⟩
      split
      · exact .inr ⟨d, rfl⟩
      · exact .inl rfl
    · rw [freeEntry_queue] at hz
      exact hP z (List.mem_filter.mp hz).1
  exact all y h

/-- What every entry in a place has of token, verdict, decision and query stays so in a delivery. -/
theorem deliver_place {g : GateId} {s : State} {i : SlotId} {P : VEntry → Prop}
    (hP : ∀ x d, P x → P { x with state := .WAIT_PASS, deadline := d }) (h : ∀ x ∈ s.gates.queue, x.slot = i → P x) :
    ∀ x ∈ (deliver g s).gates.queue, x.slot = i → P x := by
  intro y hy hi
  obtain ⟨x, hx, rfl | ⟨d, rfl⟩⟩ := deliver_entry hy
  · exact h _ hx hi
  · exact hP _ _ (h x hx hi)

/-- An admitted entry in a place of its own stays in the queue (R151). -/
theorem deliver_admitted {g : GateId} {s : State} {i : SlotId} (hall : ∀ x ∈ s.gates.queue, x.slot = i → x.verdict = some .ADMIT)
    (hex : ∃ x ∈ s.gates.queue, x.slot = i) : ∃ x ∈ (deliver g s).gates.queue, x.slot = i := by
  refine (deliver_gates (g := g) (s := s) (P := fun u => (∀ x ∈ u.queue, x.slot = i → x.verdict = some .ADMIT) ∧ ∃ x ∈ u.queue, x.slot = i)
    (fun u v d hP _ _ _ _ => ⟨fun z hz hi => ?_, ?_⟩) (fun u v r sr f hP hm _ _ hv => ?_) ⟨hall, hex⟩).2
  · obtain ⟨y, hy, rfl⟩ := List.mem_map.mp hz
    split at hi
    next hs => rw [if_pos hs]; exact hP.1 y hy hi
    next hs => rw [if_neg hs]; exact hP.1 y hy hi
  · obtain ⟨x, hx, hi⟩ := hP.2
    refine ⟨_, List.mem_map_of_mem hx, ?_⟩
    split
    · exact hi
    · exact hi
  · have hne : ∀ x ∈ u.queue, x.slot = i → (x.slot != v.slot) = true := by
      intro x hx hi
      rw [bne_iff_ne]
      intro hs
      have := hP.1 v hm (hs.symm.trans hi)
      rw [hv] at this
      cases this
    rw [freeEntry_queue]
    obtain ⟨x, hx, hi⟩ := hP.2
    exact ⟨fun z hz => hP.1 z (List.mem_filter.mp hz).1, x, List.mem_filter.mpr ⟨hx, hne x hx hi⟩, hi⟩

theorem deliver_windows (g : GateId) (s : State) : (deliver g s).gates.windows = s.gates.windows := by
  obtain ⟨p, q, b0, b1, f, h, -⟩ := deliver_fields g s
  rw [h]

theorem deliver_addsNo {g : GateId} {kind : Byte} (hk : kind ≠ 0x22#8) (s : State) : AddsNo kind s (deliver g s) := by
  refine deliver_induction (P := fun t => AddsNo kind s t) (fun t v hP _ _ _ _ q y hy hc => ?_) (fun t v r sr hP _ _ _ _ q y hy hc => ?_)
    fun _ _ h _ => h
  · exact hP q y (sendGate_addsNo (c := .gateAdmitOne v.number) (Ne.symm hk) t q y hy hc) hc
  · exact hP q y (sendGate_addsNo (c := .gateRefuse v.number r sr) (Ne.symm hk) t q y hy hc) hc

/-- A gate with an entry in WAIT_PASS is delivered nothing (R151). -/
theorem deliver_blocked {g : GateId} {s : State} (h : ∃ v ∈ s.gates.queue, v.gate = g ∧ v.state = .WAIT_PASS) : deliver g s = s := by
  obtain ⟨v, hv, hg, hst⟩ := h
  have hany : (s.gates.queue.any fun v => (v.gate == g) && (v.state == .WAIT_PASS)) = true :=
    List.any_eq_true.mpr ⟨v, hv, by rw [hg, hst, beq_self_eq_true, beq_self_eq_true]; rfl⟩
  unfold deliver deliverGo
  rw [if_pos hany]

/-- A gate without entries is delivered nothing. -/
theorem deliverGo_absent {g : GateId} {n : Nat} {s : State} (h : ∀ v ∈ s.gates.queue, v.gate ≠ g) : deliverGo g n s = s := by
  cases n with
  | zero => rfl
  | succ n =>
    have hfind : (s.gates.queue.find? fun v => (v.gate == g) && undelivered v) = none :=
      List.find?_eq_none.mpr fun v hv => by
        rw [show (v.gate == g) = false from beq_eq_false_iff_ne.mpr (h v hv), Bool.false_and]
        exact Bool.false_ne_true
    unfold deliverGo
    rw [hfind]
    exact ite_self s

/-- The only entry of a gate, in WAIT_GATE, is the next that is delivered. -/
theorem alone_next {q l : List VEntry} {v : VEntry} (hq : l = q ++ [v]) (hg : ∀ x ∈ q, x.gate ≠ v.gate) (hst : v.state = .WAIT_GATE) :
    (l.any fun x => (x.gate == v.gate) && (x.state == .WAIT_PASS)) = false ∧
      (l.find? fun x => (x.gate == v.gate) && undelivered x) = some v := by
  constructor
  · rw [List.any_eq_false, hq]
    intro x hx
    rcases List.mem_append.mp hx with hx | hx
    · simp [hg x hx]
    · rw [List.mem_singleton.mp hx, hst]
      simp
  · rw [hq, List.find?_append, List.find?_eq_none.mpr fun x hx => by simp [hg x hx], Option.none_or]
    exact List.find?_cons_of_pos (by unfold undelivered; simp [hst])

/-- An admission that is the only entry of its gate, in a place of its own, goes out (R151). -/
theorem deliver_alone_admit {s : State} {q : List VEntry} {v : VEntry} (hq : s.gates.queue = q ++ [v]) (hg : ∀ x ∈ q, x.gate ≠ v.gate)
    (hst : v.state = .WAIT_GATE) (hver : v.verdict = some .ADMIT) : deliver v.gate s =
      modGates (modEntry v.slot fun x => { x with state := .WAIT_PASS, deadline := some (passDeadline s v.gate) })
        (sendGate v.gate (.gateAdmitOne v.number) s) := by
  obtain ⟨hpass, hfind⟩ := alone_next hq hg hst
  unfold deliver deliverGo
  rw [hpass, hfind]
  simp only [Bool.false_eq_true, if_false, hst, if_true, hver]

/-- A refusal that is the only entry of its gate goes out, and its place is free (R151). -/
theorem deliver_alone_refuse {s : State} {q : List VEntry} {v : VEntry} {r : GateReason} {sr : Byte} (hq : s.gates.queue = q ++ [v])
    (hg : ∀ x ∈ q, x.gate ≠ v.gate) (hst : v.state = .WAIT_GATE) (hver : v.verdict = some (.REFUSE r sr)) :
    deliver v.gate s = modGates (freeEntry v) (sendRefusal v.gate v.number r sr s) := by
  obtain ⟨hpass, hfind⟩ := alone_next hq hg hst
  obtain ⟨p, hp⟩ := sendRefusal_fields v.gate v.number r sr s
  have habsent : ∀ x ∈ (modGates (freeEntry v) (sendRefusal v.gate v.number r sr s)).gates.queue, x.gate ≠ v.gate := by
    intro x hx
    rw [hp] at hx
    change x ∈ (freeEntry v _).queue at hx
    rw [freeEntry_queue, List.mem_filter] at hx
    obtain ⟨hx, hne⟩ := hx
    change x ∈ s.gates.queue at hx
    rw [hq] at hx
    rcases List.mem_append.mp hx with hx | hx
    · exact hg x hx
    · rw [List.mem_singleton.mp hx] at hne
      simp at hne
  unfold deliver
  rw [deliverGo, hpass, hfind]
  simp only [Bool.false_eq_true, if_false, hst, if_true, hver]
  exact deliverGo_absent habsent

/-! ## The ticket cache (R144) -/

/-- Whether the found element of a list is also found under a sharper test. -/
theorem find_and {α : Type} {p q : α → Bool} {e : α} : ∀ {l : List α}, l.find? p = some e → q e = true → 
    l.find? (fun x => decide (q x = true ∧ p x = true)) = some e
  | x :: l, h, hq => by
    by_cases hx : p x = true
    · rw [List.find?_cons_of_pos hx] at h
      cases h
      exact List.find?_cons_of_pos (decide_eq_true ⟨hq, hx⟩)
    · rw [List.find?_cons_of_neg hx] at h
      rw [List.find?_cons_of_neg (by simp [hx])]
      exact find_and h hq

theorem cacheFind_token {a : GroupA} {g : GateUnit} {t : Token} {e : CacheEntry} (h : cacheFind a g t = some e) : e.token = t := by
  have := List.find?_some h
  exact beq_iff_eq.mp this

theorem bankFor_setBankFor (a : GroupA) (t : Token) (b : List CacheEntry) (g : GateUnit) : bankFor a (setBankFor a t b g) t = b := by
  unfold bankFor setBankFor
  cases tokenInBank1 a.fare.bankMask t <;> rfl

/-- The bank of another token after one bank is replaced. -/
theorem bankFor_setBankFor_other (a : GroupA) (t t' : Token) (b : List CacheEntry) (g : GateUnit) :
    bankFor a (setBankFor a t b g) t' =
      if tokenInBank1 a.fare.bankMask t' = tokenInBank1 a.fare.bankMask t then b else bankFor a g t' := by
  unfold bankFor setBankFor
  cases tokenInBank1 a.fare.bankMask t <;> cases tokenInBank1 a.fare.bankMask t' <;> rfl

/-- A bank's use: whether a bank is that of a token. -/
theorem bankFor_of_same {a : GroupA} {t t' : Token} (h : tokenInBank1 a.fare.bankMask t' = tokenInBank1 a.fare.bankMask t) (g : GateUnit) :
    bankFor a g t = bankFor a g t' := by
  unfold bankFor
  rw [h]

/-- Replacing the bank of a token where another token's entry is found alike leaves that entry. -/
theorem cacheFind_setBankFor_other {a : GroupA} {t t' : Token} {b : List CacheEntry} {g : GateUnit}
    (h : b.find? (fun e => e.token == t') = (bankFor a g t).find? fun e => e.token == t') :
    cacheFind a (setBankFor a t b g) t' = cacheFind a g t' := by
  unfold cacheFind
  rw [bankFor_setBankFor_other]
  split
  next hs => rw [h, bankFor_of_same hs]
  · rfl

theorem cacheFill_find (a : GroupA) (e : CacheEntry) (g : GateUnit) : cacheFind a (cacheFill a e g) e.token = some e := by
  have head : ∀ (l : List CacheEntry) (u : GateUnit), cacheFind a (setBankFor a e.token (e :: l) u) e.token = some e := by
    intro l u
    unfold cacheFind
    rw [bankFor_setBankFor]
    exact List.find?_cons_of_pos (beq_self_eq_true _)
  unfold cacheFill
  dsimp only
  split
  · exact head ..
  · split
    · exact head ..
    · exact head ..

theorem cacheTouch_find (a : GroupA) (t : Token) (g : GateUnit) : cacheFind a (cacheTouch a t g) t = cacheFind a g t := by
  unfold cacheTouch
  rcases h : cacheFind a g t with - | e
  · exact h
  · unfold cacheFind
    dsimp only
    rw [bankFor_setBankFor]
    exact List.find?_cons_of_pos (beq_iff_eq.mpr (cacheFind_token h))

theorem cacheUpdate_find (a : GroupA) (t : Token) (f : CacheEntry → CacheEntry) (hf : ∀ e, (f e).token = e.token) (g : GateUnit) :
    cacheFind a (cacheUpdate a t f g) t = (cacheFind a g t).map f := by
  unfold cacheUpdate cacheFind
  rw [bankFor_setBankFor]
  induction bankFor a g t with
  | nil => rfl
  | cons e l ih =>
    rw [List.map_cons]
    by_cases he : (e.token == t) = true
    · simp only [List.find?_cons, hf, he, if_true, Option.map_some]
    · rw [if_neg he]
      simp only [List.find?_cons, he, ih]

theorem cacheUpdate_find_other (a : GroupA) {t t' : Token} (ht : t' ≠ t) (f : CacheEntry → CacheEntry) (hf : ∀ e, (f e).token = e.token)
    (g : GateUnit) : cacheFind a (cacheUpdate a t f g) t' = cacheFind a g t' := by
  refine cacheFind_setBankFor_other ?_
  induction bankFor a g t with
  | nil => rfl
  | cons e l ih =>
    rw [List.map_cons]
    by_cases he : (e.token == t) = true
    · have hne : (e.token == t') = false := by
        rw [beq_iff_eq] at he
        rw [beq_eq_false_iff_ne, he]
        exact Ne.symm ht
      simp only [if_pos he, List.find?_cons, hf, hne, ih]
    · rw [if_neg he, List.find?_cons, List.find?_cons, ih]

/-- Entries that a removal spares are those they were, in their order. -/
theorem dropFirst_filter {α : Type} (p : α → Bool) : ∀ (n : Nat) (l : List α), (dropFirst p n l).filter (fun x => !p x) = l.filter fun x => !p x
  | 0, l => by unfold dropFirst; rfl
  | n + 1, [] => rfl
  | n + 1, x :: l => by
    unfold dropFirst
    split
    next hx => rw [dropFirst_filter p n l, List.filter_cons_of_neg (by rw [hx]; decide)]
    next hx => rw [List.filter_cons, List.filter_cons, dropFirst_filter p (n + 1) l]

/-- A token in use keeps its entry when its bank gives one up (R144). -/
theorem evict_find {q : List VEntry} {t : Token} (hu : tokenInUse q t = true) (n : Nat) (b : List CacheEntry) :
    (evict q n b).find? (fun e => e.token == t) = b.find? fun e => e.token == t := by
  have spared : (evict q n b).filter (fun e => tokenInUse q e.token) = b.filter fun e => tokenInUse q e.token := by
    have h := dropFirst_filter (fun e : CacheEntry => !tokenInUse q e.token) n b.reverse
    simp only [Bool.not_not] at h
    unfold evict
    rw [List.filter_reverse, h, List.filter_reverse, List.reverse_reverse]
  have among : ∀ l : List CacheEntry, l.find? (fun e => e.token == t) = (l.filter fun e => tokenInUse q e.token).find? fun e => e.token == t := by
    intro l
    rw [List.find?_filter]
    congr 1
    funext e
    by_cases he : e.token = t
    · simp [he, hu]
    · simp [he]
  rw [among, spared, ← among]

theorem withoutToken_find {t t' : Token} (ht : t' ≠ t) (b : List CacheEntry) :
    (withoutToken t b).find? (fun e => e.token == t') = b.find? fun e => e.token == t' := by
  unfold withoutToken
  rw [List.find?_filter]
  congr 1
  funext e
  by_cases he : e.token = t'
  · simp [he, ht]
  · simp [he]

/-- Filling the entry of one token leaves the entry of another that is in use (R144). -/
theorem cacheFill_find_other (a : GroupA) {e : CacheEntry} {t : Token} (ht : t ≠ e.token) {g : GateUnit} (hu : tokenInUse g.queue t = true) :
    cacheFind a (cacheFill a e g) t = cacheFind a g t := by
  have behind : ∀ l : List CacheEntry, (e :: l).find? (fun x => x.token == t) = l.find? fun x => x.token == t := fun l =>
    List.find?_cons_of_neg (by rw [beq_iff_eq]; exact Ne.symm ht)
  unfold cacheFill
  dsimp only
  split
  · refine cacheFind_setBankFor_other ?_
    rw [behind, withoutToken_find ht]
  · split
    · exact cacheFind_setBankFor_other (behind _)
    · refine cacheFind_setBankFor_other ?_
      rw [behind, evict_find hu]

/-- A stale entry goes with the last use of its token; every other found entry is found again (R144). -/
theorem dropStale_find {a : GroupA} {g : GateUnit} {t t' : Token} {e : CacheEntry} (h : cacheFind a g t = some e)
    (hk : e.stale = false ∨ (t' = t → tokenInUse g.queue t = true)) : cacheFind a (dropStale t' g) t = some e := by
  unfold dropStale
  split
  · exact h
  next hu =>
    have hkeep : (!((e.token == t') && e.stale)) = true := by
      rcases hk with hs | hu'
      · rw [hs, Bool.and_false]
        rfl
      · have hne : t' ≠ t := fun he => hu (by rw [he]; exact hu' he)
        rw [cacheFind_token h, show (t == t') = false from beq_eq_false_iff_ne.mpr (Ne.symm hne)]
        rfl
    have hbank : bankFor a { g with
        bank0 := g.bank0.filter fun e => !((e.token == t') && e.stale)
        bank1 := g.bank1.filter fun e => !((e.token == t') && e.stale) } t =
        (bankFor a g t).filter fun e => !((e.token == t') && e.stale) := by
      unfold bankFor
      split <;> rfl
    unfold cacheFind at h ⊢
    rw [hbank, List.find?_filter]
    exact find_and h hkeep

/-! ## Entries in flight -/

/-- An admission of a token on its way through place `i`: decided, and not yet passed (R148, R150). -/
structure InFlight (i : SlotId) (t : Token) (u : GateUnit) : Prop where
  here : ∃ x ∈ u.queue, x.slot = i ∧ x.token = t ∧ (x.state = .WAIT_GATE ∨ x.state = .WAIT_PASS)
  admitted : ∀ x ∈ u.queue, x.slot = i → x.verdict = some .ADMIT

theorem InFlight.inUse {i : SlotId} {t : Token} {u : GateUnit} (h : InFlight i t u) : tokenInUse u.queue t = true := by
  obtain ⟨x, hx, -, ht, hs⟩ := h.here
  refine List.any_eq_true.mpr ⟨x, hx, ?_⟩
  rw [ht, beq_self_eq_true, Bool.true_and, Bool.or_eq_true, beq_iff_eq, beq_iff_eq]
  exact hs

theorem InFlight.modEntry {i j : SlotId} {t : Token} {u : GateUnit} {d : Timer} (h : InFlight i t u) :
    InFlight i t (modEntry j (fun x => { x with state := .WAIT_PASS, deadline := d }) u) := by
  constructor
  · obtain ⟨x, hx, hi, ht, hs⟩ := h.here
    refine ⟨_, List.mem_map_of_mem hx, ?_⟩
    split
    · exact ⟨hi, ht, .inr rfl⟩
    · exact ⟨hi, ht, hs⟩
  · intro z hz hi
    obtain ⟨y, hy, rfl⟩ := List.mem_map.mp hz
    split at hi
    next hs => rw [if_pos hs]; exact h.admitted y hy hi
    next hs => rw [if_neg hs]; exact h.admitted y hy hi

/-- A refused entry that leaves is in another place. -/
theorem InFlight.filter {i : SlotId} {t : Token} {u : GateUnit} {v : VEntry} (h : InFlight i t u) (hm : v ∈ u.queue)
    (hv : v.verdict ≠ some .ADMIT) {u' : GateUnit} (hu : u'.queue = u.queue.filter fun x => x.slot != v.slot) : InFlight i t u' := by
  constructor
  · obtain ⟨x, hx, hi, ht, hs⟩ := h.here
    refine ⟨x, ?_, hi, ht, hs⟩
    rw [hu]
    refine List.mem_filter.mpr ⟨hx, bne_iff_ne.mpr fun hsame => hv ?_⟩
    exact h.admitted v hm (hsame.symm.trans hi)
  · intro x hx
    rw [hu] at hx
    exact h.admitted x (List.mem_filter.mp hx).1

theorem deliver_inFlight {g : GateId} {s : State} {i : SlotId} {t : Token} (h : InFlight i t s.gates) : InFlight i t (deliver g s).gates :=
  deliver_gates (g := g) (P := InFlight i t) (fun _ _ _ hP _ _ _ _ => hP.modEntry)
    (fun _ v _ _ _ hP hm _ _ hv => hP.filter hm (by rw [hv]; exact nofun) (freeEntry_queue v _)) h

/-- The found cache entry of a token stays in a delivery, when it is not stale or its token is in flight (R144, R151). -/
theorem deliver_cacheFind {a : GroupA} {g : GateId} {s : State} {t : Token} {e : CacheEntry} (h : cacheFind a s.gates t = some e)
    (hk : e.stale = false ∨ ∃ i, InFlight i t s.gates) : cacheFind a (deliver g s).gates t = some e := by
  refine (deliver_gates (g := g) (P := fun u => cacheFind a u t = some e ∧ (e.stale = false ∨ ∃ i, InFlight i t u))
    (fun u v d hP _ _ _ _ => ⟨hP.1, hP.2.imp_right fun ⟨i, hi⟩ => ⟨i, hi.modEntry⟩⟩) (fun u v r sr f hP hm _ _ hv => ?_) ⟨h, hk⟩).1
  have hkeep : e.stale = false ∨ ∃ i, InFlight i t (freeEntry v { u with refusals := f }) :=
    hP.2.imp_right fun ⟨i, hi⟩ => ⟨i, hi.filter hm (by rw [hv]; exact nofun) (freeEntry_queue v _)⟩
  refine ⟨dropStale_find (g := { u with refusals := f, queue := u.queue.filter fun x => x.slot != v.slot }) hP.1 ?_, hkeep⟩
  refine hP.2.imp_right fun ⟨i, hi⟩ _ => ?_
  exact (hi.filter hm (by rw [hv]; exact nofun) (u' := { u with refusals := f, queue := u.queue.filter fun x => x.slot != v.slot }) rfl).inUse

end Sys2Proof.Machine
end

section
/-!
PROOFS. Passages (R154, R155): the statement O44.
-/

namespace Sys2Proof.Machine

/-! ## Frames from a gate (R137) -/

theorem fromGate_absent {e : NodeEntry} {f : GateId → State → State} {s : State} (h : gatePresent s.active.a (nodeGate e) = false) :
    fromGate e f s = s :=
  if_neg (by rw [h]; exact Bool.false_ne_true)

theorem fromGate_present {e : NodeEntry} {f : GateId → State → State} {s : State} (h : gatePresent s.active.a (nodeGate e) = true) :
    fromGate e f s = f (nodeGate e) (hearGate (nodeGate e) s) := if_pos h

/-- A valid frame from a gate: the gate is heard, and of the rest of the state only its port has changed. -/
structure GateHeard (s h : State) : Prop where
  frame : ∃ p r, h = { s with ports := p, gates := { s.gates with records := r } } ∧ ∀ x, (r.get x).fault = (s.gates.records.get x).fault
  rest : h.rest = s.rest
  quiet : quiet h = quiet s

theorem hearGate_heard (g : GateId) (s : State) : GateHeard s (hearGate g s) := by
  obtain ⟨p, r, h, hf⟩ := hearGate_fields g s
  refine ⟨⟨p, r, h, hf⟩, hearGate_rest g s, ?_⟩
  rw [h]
  rfl

/-- The entry of a quiet state to an operation that changes nothing which another block is told of. -/
theorem settle_react_heard {f : State → State} {s t : State} (hq : quiet s = true) (hf : f s = t)
    (ht : ∃ p g m, t = { s with ports := p, gates := g, mgmt := m } ∧ g.windows = s.gates.windows ∧ g.queue = s.gates.queue ∧
      g.serverLost = s.gates.serverLost) : settle (react f s) = t := by
  obtain ⟨p, g, m, rfl, hw, hqu, hl⟩ := ht
  rw [settle_react_quiet hq] <;> rw [hf]
  · exact hw
  · exact hqu
  · exact hl
  · rfl

/-! ## An entry that ends (R154) -/

theorem vmod_windows (s : State) (x : Halt) (f : Window → Window) :
    (modWindow x f s).gates.windows = vmod s.gates.windows x (Option.map f) := rfl

/-- Once an entry is free, no delivery brings its place back. -/
theorem deliver_freed {v : VEntry} {s : State} {g : GateId} : ∀ y ∈ (deliver g (modGates (freeEntry v) s)).gates.queue, y.slot ≠ v.slot := by
  intro y hy
  obtain ⟨x, hx, hxy⟩ := deliver_entry hy
  change x ∈ (freeEntry v s.gates).queue at hx
  rw [freeEntry_queue, List.mem_filter, bne_iff_ne] at hx
  rcases hxy with rfl | ⟨d, rfl⟩
  · exact hx.2
  · exact hx.2

theorem freeEntry_windows (v : VEntry) (u : GateUnit) : (freeEntry v u).windows = u.windows := by
  obtain ⟨b0, b1, h⟩ := freeEntry_fields v u
  rw [h]

/-- A passage that failed: the entry is gone and its reservation is released (R154). -/
theorem passageFailed_spec (v : VEntry) (s : State) :
    let t := passageFailed v s
    (∀ y ∈ t.gates.queue, y.slot ≠ v.slot) ∧
      t.gates.windows = vmod s.gates.windows v.halt (Option.map fun w => { w with reserved := w.reserved - 1 }) ∧ t.rest = s.rest ∧
      AddsNo 0x24#8 s t := by
  intro t
  refine ⟨deliver_freed, ?_, ?_, ?_⟩
  · change (deliver _ _).gates.windows = _
    rw [deliver_windows]
    exact freeEntry_windows ..
  · change (deliver _ _).rest = _
    rw [deliver_rest, modGates_rest _ (freeEntry_kept v), modWindow_rest]
  · exact deliver_addsNo (by decide) _

/-- The FARE_USE of a passage: one for a decision of the part's own, none for one of the server (R154). -/
theorem sendUse_eq (v : VEntry) (s : State) : (∀ b, v.decidedBy = some b → b ≠ .SERVER →
      sendUse v s = sendNormal .FARE_SERVER (.fareUse v.token v.cls v.halt v.gate s.localTime b) s) ∧
    ((∀ b, v.decidedBy = some b → b = .SERVER) → sendUse v s = s) := by
  unfold sendUse
  rcases hd : v.decidedBy with - | b
  · exact ⟨nofun, fun _ => rfl⟩
  · cases b with
    | LOCAL => exact ⟨fun b hb _ => (by cases hb; rfl), fun h => absurd (h _ rfl) (by decide)⟩
    | OFFLINE => exact ⟨fun b hb _ => (by cases hb; rfl), fun h => absurd (h _ rfl) (by decide)⟩
    | SERVER => exact ⟨fun b hb hn => absurd (Option.some.inj hb).symm hn, fun _ => rfl⟩

theorem sendUse_frame (v : VEntry) (s : State) : ∃ p, sendUse v s = { s with ports := p } := by
  unfold sendUse
  split
  · exact sendNormal_fields ..
  · exact sendNormal_fields ..
  · exact ⟨_, rfl⟩

/-- The frames of a FARE_USE that a passage adds (R154). -/
theorem sendUse_new {v : VEntry} {s : State} {q : PortId} {y : OutFrame} (h : y ∈ ((sendUse v s).ports.get q).normal)
    (hn : y ∉ (s.ports.get q).normal) :
    ∃ b, v.decidedBy = some b ∧ b ≠ .SERVER ∧ y.content = .fareUse v.token v.cls v.halt v.gate s.localTime b := by
  obtain ⟨hown, hserver⟩ := sendUse_eq v s
  by_cases hb : ∃ b, v.decidedBy = some b ∧ b ≠ .SERVER
  · obtain ⟨b, hd, hne⟩ := hb
    rw [hown b hd hne] at h
    exact ⟨b, hd, hne, (sendNormal_new h).resolve_right hn⟩
  · rw [hserver fun b hd => by_contra fun hne => hb ⟨b, hd, hne⟩] at h
    exact absurd h hn

/-- The cache entry of a token after one of its rides is used (R154). -/
def usedOnce (now : Nat) (c : CacheEntry) : CacheEntry := { c with rides := c.rides.map fun r => r - 1, lastAdmitted := some now }

/-- The gate unit of a passage before delivery: a reservation is an admission, and the ticket's entry has one ride less (R154). -/
def passedUnit (v : VEntry) (s : State) : State :=
  modGates (cacheUpdate s.active.a v.token (usedOnce s.localTime)) (modWindow v.halt Window.passed s)

theorem passagePassed_eq (v : VEntry) (s : State) :
    passagePassed v s = deliver v.gate (modGates (freeEntry v) (sendUse v (passedUnit v s))) := rfl

theorem cacheUpdate_frame (a : GroupA) (t : Token) (f : CacheEntry → CacheEntry) (g : GateUnit) :
    ∃ b0 b1, cacheUpdate a t f g = { g with bank0 := b0, bank1 := b1 } := by
  unfold cacheUpdate setBankFor
  split
  · exact ⟨_, _, rfl⟩
  · exact ⟨_, _, rfl⟩

theorem passedUnit_frame (v : VEntry) (s : State) : ∃ b0 b1, passedUnit v s =
    { s with gates := { s.gates with
        windows := vmod s.gates.windows v.halt (Option.map Window.passed), bank0 := b0, bank1 := b1 } } := by
  obtain ⟨b0, b1, h⟩ := cacheUpdate_frame s.active.a v.token (usedOnce s.localTime) (modWindow v.halt Window.passed s).gates
  refine ⟨b0, b1, ?_⟩
  unfold passedUnit modGates
  rw [h]
  rfl

theorem passedUnit_rest (v : VEntry) (s : State) : (passedUnit v s).rest = s.rest := by
  obtain ⟨b0, b1, h⟩ := passedUnit_frame v s
  rw [h]
  rfl

theorem sendUse_rest (v : VEntry) (s : State) : (sendUse v s).rest = s.rest := by
  unfold sendUse
  split
  · exact sendNormal_rest ..
  · exact sendNormal_rest ..
  · rfl

/-! ## A passage that passed (R154) -/

theorem passagePassed_rest (v : VEntry) (s : State) : (passagePassed v s).rest = s.rest := by
  rw [passagePassed_eq, deliver_rest, modGates_rest _ (freeEntry_kept v), sendUse_rest, passedUnit_rest]

theorem sendUse_gates (v : VEntry) (s : State) : (sendUse v s).gates = s.gates := by
  obtain ⟨p, h⟩ := sendUse_frame v s
  rw [h]

theorem passedUnit_windows (v : VEntry) (s : State) :
    (passedUnit v s).gates.windows = vmod s.gates.windows v.halt (Option.map Window.passed) := by
  obtain ⟨b0, b1, h⟩ := passedUnit_frame v s
  rw [h]

/-- The reservation of the entry is an admission. -/
theorem passagePassed_windows (v : VEntry) (s : State) :
    (passagePassed v s).gates.windows = vmod s.gates.windows v.halt (Option.map Window.passed) := by
  rw [passagePassed_eq, deliver_windows, ← passedUnit_windows, ← sendUse_gates v (passedUnit v s)]
  exact freeEntry_windows ..

theorem passagePassed_freed {v : VEntry} {s : State} : ∀ y ∈ (passagePassed v s).gates.queue, y.slot ≠ v.slot := deliver_freed

theorem passedUnit_outside (v : VEntry) (s : State) :
    (passedUnit v s).ports = s.ports ∧ (passedUnit v s).active = s.active ∧ (passedUnit v s).mgmt = s.mgmt ∧
      (passedUnit v s).localTime = s.localTime := by
  obtain ⟨b0, b1, h⟩ := passedUnit_frame v s
  rw [h]
  exact ⟨rfl, rfl, rfl, rfl⟩

/-- The only FARE_USE that it sends is that of a decision of the part's own. -/
theorem passagePassed_new {v : VEntry} {s : State} {q : PortId} {y : OutFrame} (h : y ∈ ((passagePassed v s).ports.get q).normal)
    (hk : contentKind y.content = 0x24#8) (hn : y ∉ (s.ports.get q).normal) :
    ∃ b, v.decidedBy = some b ∧ b ≠ .SERVER ∧ y.content = .fareUse v.token v.cls v.halt v.gate s.localTime b := by
  have hbefore : y ∈ ((sendUse v (passedUnit v s)).ports.get q).normal :=
    deliver_addsNo (g := v.gate) (by decide) (modGates (freeEntry v) (sendUse v (passedUnit v s))) q y h hk
  obtain ⟨hports, -, -, htime⟩ := passedUnit_outside v s
  rw [← htime]
  exact sendUse_new hbefore (by rw [hports]; exact hn)

/-- The FARE_USE of a decision of the part's own waits for its transmission. -/
theorem passagePassed_waits {v : VEntry} {s : State} {b : DecidedBy} (hb : v.decidedBy = some b) (hne : b ≠ .SERVER) :
    Waits (passagePassed v s) (firstRole s.active.b .FARE_SERVER) s.mgmt.ownAddress
      (.fareUse v.token v.cls v.halt v.gate s.localTime b) := by
  obtain ⟨-, hactive, hmgmt, htime⟩ := passedUnit_outside v s
  have hwaits : Waits (passagePassed v s) (firstRole (passedUnit v s).active.b .FARE_SERVER) (passedUnit v s).mgmt.ownAddress
      (.fareUse v.token v.cls v.halt v.gate (passedUnit v s).localTime b) := by
    rw [passagePassed_eq, (sendUse_eq v (passedUnit v s)).1 b hb hne]
    exact sendNormal_waits (fun _ _ => rfl) (work_deliver (work_modGates (.refl _)))
  rwa [hactive, hmgmt, htime] at hwaits

theorem passedUnit_find {v : VEntry} {s : State} {c : CacheEntry} (h : cacheFind s.active.a s.gates v.token = some c) :
    cacheFind s.active.a (passedUnit v s).gates v.token = some (usedOnce s.localTime c) := by
  have hwindow : cacheFind s.active.a (modWindow v.halt Window.passed s).gates v.token = some c := h
  have htoken : ∀ e, (usedOnce s.localTime e).token = e.token := fun _ => rfl
  rw [passedUnit, modGates_gates, cacheUpdate_find _ _ _ htoken, hwindow, Option.map_some]

/-- A cache entry that is not stale stays with one ride less and its last admission now. -/
theorem passagePassed_find {v : VEntry} {s : State} {c : CacheEntry} (h : cacheFind s.active.a s.gates v.token = some c)
    (hc : c.stale = false) : cacheFind s.active.a (passagePassed v s).gates v.token = some (usedOnce s.localTime c) := by
  have hused := passedUnit_find h
  rw [← sendUse_gates v (passedUnit v s)] at hused
  exact deliver_cacheFind (dropStale_find
    (g := { (sendUse v (passedUnit v s)).gates with queue := (sendUse v (passedUnit v s)).gates.queue.filter fun x => x.slot != v.slot })
    hused (.inl hc)) (.inl hc)

/-- A token without cache entries. -/
def Uncached (t : Token) (u : GateUnit) : Prop := ∀ e ∈ u.bank0 ++ u.bank1, e.token ≠ t

theorem Uncached.find {t : Token} {u : GateUnit} (h : Uncached t u) (a : GroupA) : cacheFind a u t = none := by
  refine List.find?_eq_none.mpr fun e he => ?_
  rw [beq_iff_eq]
  refine h e ?_
  unfold bankFor at he
  split at he
  · exact List.mem_append_right _ he
  · exact List.mem_append_left _ he

theorem dropStale_banks {t : Token} {u : GateUnit} {e : CacheEntry} (h : e ∈ (dropStale t u).bank0 ++ (dropStale t u).bank1) :
    e ∈ u.bank0 ++ u.bank1 ∧ (tokenInUse u.queue t = false → ¬ (e.token = t ∧ e.stale = true)) := by
  unfold dropStale at h
  split at h
  next hu => exact ⟨h, fun hn => absurd hu (by rw [hn]; exact Bool.false_ne_true)⟩
  next hu =>
    rw [← List.filter_append, List.mem_filter] at h
    refine ⟨h.1, fun _ hboth => ?_⟩
    have := h.2
    rw [hboth.1, hboth.2, beq_self_eq_true] at this
    exact Bool.false_ne_true this

theorem deliver_uncached {g : GateId} {s : State} {t : Token} (h : Uncached t s.gates) : Uncached t (deliver g s).gates :=
  deliver_gates (P := Uncached t) (fun _ _ _ hP _ _ _ _ => hP) (fun _ _ _ _ _ hP _ _ _ _ e he => hP e (dropStale_banks he).1) h

/-- The entries of a token after a use are those of before it, as stale as they were. -/
theorem cacheUpdate_banks {a : GroupA} {t : Token} {f : CacheEntry → CacheEntry} {u : GateUnit} {e : CacheEntry}
    (h : e ∈ (cacheUpdate a t f u).bank0 ++ (cacheUpdate a t f u).bank1) :
    ∃ x ∈ u.bank0 ++ u.bank1, e = x ∨ e = f x := by
  have mapped : ∀ l : List CacheEntry, e ∈ l.map (fun e => if e.token == t then f e else e) → ∃ x ∈ l, e = x ∨ e = f x := by
    intro l hl
    obtain ⟨x, hx, rfl⟩ := List.mem_map.mp hl
    refine ⟨x, hx, ?_⟩
    split
    · exact .inr rfl
    · exact .inl rfl
  unfold cacheUpdate setBankFor bankFor at h
  split at h <;> rcases List.mem_append.mp h with h | h
  · exact ⟨e, List.mem_append_left _ h, .inl rfl⟩
  · obtain ⟨x, hx, hex⟩ := mapped _ h
    exact ⟨x, List.mem_append_right _ hx, hex⟩
  · obtain ⟨x, hx, hex⟩ := mapped _ h
    exact ⟨x, List.mem_append_left _ hx, hex⟩
  · exact ⟨e, List.mem_append_right _ h, .inl rfl⟩

theorem passedUnit_stale {v : VEntry} {s : State} (hstale : ∀ y ∈ s.gates.bank0 ++ s.gates.bank1, y.token = v.token → y.stale = true) :
    ∀ e ∈ (passedUnit v s).gates.bank0 ++ (passedUnit v s).gates.bank1, e.token = v.token → e.stale = true := by
  intro e he ht
  obtain ⟨x, hx, rfl | rfl⟩ := cacheUpdate_banks (a := s.active.a) (t := v.token) (f := usedOnce s.localTime)
    (u := (modWindow v.halt Window.passed s).gates) he
  · exact hstale _ hx ht
  · exact hstale x hx ht

theorem passedUnit_queue (v : VEntry) (s : State) : (passedUnit v s).gates.queue = s.gates.queue := by
  obtain ⟨b0, b1, h⟩ := passedUnit_frame v s
  rw [h]

/-- Stale entries of a token go when its last entry is freed. -/
theorem freeEntry_uncached {v : VEntry} {u : GateUnit} (hstale : ∀ e ∈ u.bank0 ++ u.bank1, e.token = v.token → e.stale = true)
    (hlast : ∀ y ∈ u.queue, y.slot ≠ v.slot → y.token ≠ v.token) : Uncached v.token (freeEntry v u) := by
  intro e he ht
  obtain ⟨hin, hgone⟩ := dropStale_banks he
  refine hgone ?_ ⟨ht, hstale e hin ht⟩
  refine List.any_eq_false.mpr fun y hy => ?_
  obtain ⟨hy, hne⟩ := List.mem_filter.mp hy
  rw [show (y.token == v.token) = false from beq_eq_false_iff_ne.mpr (hlast y hy (bne_iff_ne.mp hne)), Bool.false_and]
  exact Bool.false_ne_true

/-- A stale cache entry goes with the last use of its token. -/
theorem passagePassed_gone {v : VEntry} {s : State} (hstale : ∀ y ∈ s.gates.bank0 ++ s.gates.bank1, y.token = v.token → y.stale = true)
    (hlast : ∀ y ∈ s.gates.queue, y.slot ≠ v.slot → y.token ≠ v.token) :
    cacheFind s.active.a (passagePassed v s).gates v.token = none := by
  have hunit := passedUnit_stale hstale
  rw [← passedUnit_queue v] at hlast
  rw [← sendUse_gates v (passedUnit v s)] at hunit hlast
  exact (deliver_uncached (freeEntry_uncached hunit hlast)).find _

/-! ## O44: passages and their deadlines -/

/-- What the end of an entry in WAIT_PASS leaves (R154). -/
structure PassageEnds (v : VEntry) (o : Passage) (s t : State) : Prop where
  rest : t.rest = s.rest
  freed : ∀ y ∈ t.gates.queue, y.slot ≠ v.slot
  windows : t.gates.windows = vmod s.gates.windows v.halt (Option.map fun w =>
    { w with reserved := w.reserved - 1, admitted := w.admitted + (if o = .passed ∧ 0 < w.reserved then 1 else 0) })
  used : o = .passed → ∀ c, cacheFind s.active.a s.gates v.token = some c → c.stale = false →
    cacheFind s.active.a t.gates v.token = some (usedOnce s.localTime c)
  gone : o = .passed → (∀ y ∈ s.gates.bank0 ++ s.gates.bank1, y.token = v.token → y.stale = true) →
    (∀ y ∈ s.gates.queue, y.slot ≠ v.slot → y.token ≠ v.token) → cacheFind s.active.a t.gates v.token = none
  new : ∀ q y, y ∈ (t.ports.get q).normal → contentKind y.content = 0x24#8 → y ∉ (s.ports.get q).normal →
    o = .passed ∧ ∃ b, v.decidedBy = some b ∧ b ≠ .SERVER ∧ y.content = .fareUse v.token v.cls v.halt v.gate s.localTime b
  waits : o = .passed → ∀ b, v.decidedBy = some b → b ≠ .SERVER →
    Waits t (firstRole s.active.b .FARE_SERVER) s.mgmt.ownAddress (.fareUse v.token v.cls v.halt v.gate s.localTime b)

theorem passagePassed_ends (v : VEntry) (s : State) : PassageEnds v .passed s (passagePassed v s) where
  rest := passagePassed_rest v s
  freed := passagePassed_freed
  windows := by
    rw [passagePassed_windows]
    simp only [true_and]
    rfl
  used _ _ h hc := passagePassed_find h hc
  gone _ := passagePassed_gone
  new _ _ h hk hn := ⟨rfl, passagePassed_new h hk hn⟩
  waits _ _ := passagePassed_waits

theorem passageFailed_ends (v : VEntry) (s : State) : PassageEnds v .expired s (passageFailed v s) where
  rest := (passageFailed_spec v s).2.2.1
  freed := (passageFailed_spec v s).1
  windows := by
    rw [(passageFailed_spec v s).2.1]
    simp only [reduceCtorEq, false_and, if_false, Nat.add_zero]
  used := nofun
  gone := nofun
  new q y h hk hn := absurd ((passageFailed_spec v s).2.2.2 q y h hk) hn
  waits := nofun

section
variable {g : GateId} {p : GatePassageP} {s : State}

theorem takeGatePassage_exit (h : gateIsExit s.active.a g = true) : takeGatePassage g p s =
    match p.outcome with
    | .passed => modGates (fun u => { u with exits := vmod u.exits (gateHalt s.active.a g) satInc }) s
    | .expired => s := if_pos h

/-- The passage of an entry ends it. -/
theorem takeGatePassage_ends {v : VEntry} (h : ¬ gateIsExit s.active.a g = true)
    (hv : (s.gates.queue.find? fun v => (v.gate == g) && (v.state == .WAIT_PASS) && (v.number == p.number)) = some v) :
    PassageEnds v p.outcome s (takeGatePassage g p s) := by
  unfold takeGatePassage
  rw [if_neg h, hv]
  cases p.outcome with
  | passed => exact passagePassed_ends v s
  | expired => exact passageFailed_ends v s

theorem takeGatePassage_unmatched (h : ¬ gateIsExit s.active.a g = true)
    (hv : (s.gates.queue.find? fun v => (v.gate == g) && (v.state == .WAIT_PASS) && (v.number == p.number)) = none) :
    takeGatePassage g p s = match p.outcome with
      | .passed => unverifiedPassage g s
      | .expired => s := by
  unfold takeGatePassage
  rw [if_neg h, hv]
  cases p.outcome <;> rfl

end

/-- An unverified passage is counted, sets the fault of its gate, and is noticed twice (R155). -/
theorem unverifiedPassage_spec (g : GateId) (s : State) :
    let t := unverifiedPassage g s
    t.rest = { s.rest with unverified := vmod s.gates.unverified (gateHalt s.active.a g) satInc } ∧
      (t.gates.records.get g).fault = true ∧ t.gates.queue = s.gates.queue ∧ t.gates.windows = s.gates.windows ∧
      (t.mgmt.notices.get (noticeIndex .UNVERIFIED_PASSAGE)).pending = true ∧
      (t.mgmt.notices.get (noticeIndex .GATE_FAULT)).pending = true := by
  intro t
  let s1 := modGates (fun u => { u with
    unverified := vmod u.unverified (gateHalt s.active.a g) satInc
    records := vmod u.records g fun r => { r with fault := true } }) s
  obtain ⟨p2, v2, -, h2⟩ := occur_fields .UNVERIFIED_PASSAGE s1
  obtain ⟨p3, v3, -, h3⟩ := occur_fields .GATE_FAULT (occur .UNVERIFIED_PASSAGE s1)
  have hpending := occur_pending .UNVERIFIED_PASSAGE s1
  have hkept := occur_pendingKept .GATE_FAULT (occur .UNVERIFIED_PASSAGE s1) _ hpending
  have hfault := occur_pending .GATE_FAULT (occur .UNVERIFIED_PASSAGE s1)
  have ht : t = updateMode g (occur .GATE_FAULT (occur .UNVERIFIED_PASSAGE s1)) := rfl
  have hrest : (occur .GATE_FAULT (occur .UNVERIFIED_PASSAGE s1)).rest = s1.rest := by rw [occur_rest, occur_rest]
  have hgates : (occur .GATE_FAULT (occur .UNVERIFIED_PASSAGE s1)).gates = s1.gates := by rw [h3, h2]
  obtain ⟨s3, hs3⟩ : ∃ x, x = occur .GATE_FAULT (occur .UNVERIFIED_PASSAGE s1) := ⟨_, rfl⟩
  rw [← hs3] at ht hrest hgates hkept hfault
  have hmode := updateMode_rest g s3
  obtain ⟨p4, r, h4, hr⟩ := updateMode_fields g s3
  rw [ht]
  refine ⟨hmode.trans hrest, ?_, ?_, ?_, ?_, ?_⟩
  · rw [h4]
    refine (hr g).1.trans ?_
    rw [hgates]
    exact congrArg GateRecord.fault (vmod_get_self ..)
  · rw [h4]
    change s3.gates.queue = s1.gates.queue
    rw [hgates]
  · rw [h4]
    change s3.gates.windows = s1.gates.windows
    rw [hgates]
  · rw [h4]
    exact hkept
  · rw [h4]
    exact hfault

theorem passDeadlineExpires_ends {i : SlotId} {s : State} {v : VEntry} (hv : entryAt s.gates i = some v)
    (h : v.state = .WAIT_PASS ∧ v.deadline ≠ none) : passDeadlineExpires i s = passageFailed v s := by
  unfold passDeadlineExpires
  rw [hv]
  exact if_pos (h.imp_right Option.isSome_iff_ne_none.mpr)

theorem passDeadlineExpires_idle {i : SlotId} {s : State}
    (h : ∀ v, entryAt s.gates i = some v → ¬ (v.state = .WAIT_PASS ∧ v.deadline ≠ none)) : passDeadlineExpires i s = s := by
  unfold passDeadlineExpires
  rcases hv : entryAt s.gates i with - | v
  · rfl
  · exact if_neg fun hc => h v hv (hc.imp_right Option.isSome_iff_ne_none.mp)

theorem entryAt_slot {u : GateUnit} {i : SlotId} {v : VEntry} (h : entryAt u i = some v) : v.slot = i := by
  have := List.find?_some h
  exact beq_iff_eq.mp this

/-- Settles O44: a passage or a deadline ends the entry, its reservation and its use of the cache; one without an entry is a fault. -/
theorem passagesEndReservations : Obligations.PassagesEndReservations := by
  refine ⟨fun hdr p e s hacc => ?_, fun i s hr => ⟨fun v hv hst hd => ?_, fun hnone hq => ?_⟩⟩
  · intro g x h here found counted isExit
    let a := heardOn hdr.port s
    have hexec : exec (.gatePassage hdr p) s = .next (settle (react (fromGate e fun g => takeGatePassage g p) a)) := running_receive hacc
    obtain ⟨⟨pp, rr, hh, hfaults⟩, hrest, -⟩ := hearGate_heard g a
    refine ⟨fun habsent hq => ?_, fun hpresent => ?_⟩
    · have hf : fromGate e (fun g => takeGatePassage g p) a = a := fromGate_absent habsent
      rw [hexec, settle_react_heard (heardOn_quiet hdr.port hq) hf ⟨_, _, _, rfl, rfl, rfl, rfl⟩]
    · have hf : fromGate e (fun g => takeGatePassage g p) a = takeGatePassage g p h := fromGate_present hpresent
      have hheard : h = { a with ports := pp, gates := { a.gates with records := rr } } := hh
      have hexit : gateIsExit h.active.a g = gateIsExit s.active.a g := by rw [hheard]; rfl
      have hqueue : h.gates.queue = s.gates.queue := by rw [hheard]; rfl
      refine ⟨fun hex ho hq => ?_, fun ho hnone hq => ?_, fun hex v hv => ?_, fun hex hnone ho => ?_⟩
      · have ht : takeGatePassage g p h = { h with gates := { h.gates with exits := counted s.gates.exits } } := by
          rw [hheard] at hexit ⊢
          rw [takeGatePassage_exit (hexit ▸ hex), ho]
          rfl
        rw [hexec, settle_react_heard (heardOn_quiet hdr.port hq) (hf.trans ht)]
        rw [hheard]
        exact ⟨_, _, _, rfl, rfl, rfl, rfl⟩
      · have ht : takeGatePassage g p h = h := by
          by_cases hex : isExit
          · rw [takeGatePassage_exit (hexit ▸ hex), ho]
          · rw [takeGatePassage_unmatched (hexit ▸ hex) (hqueue ▸ hnone.resolve_left hex), ho]
        rw [hexec, settle_react_heard (heardOn_quiet hdr.port hq) (hf.trans ht)]
        rw [hheard]
        exact ⟨_, _, _, rfl, rfl, rfl, rfl⟩
      · have hends : PassageEnds v p.outcome h (takeGatePassage g p h) := takeGatePassage_ends (hexit ▸ hex) (hqueue ▸ hv)
        obtain ⟨l, hu⟩ := react_eq (fromGate e fun g => takeGatePassage g p) a
        obtain ⟨t, ht⟩ : ∃ t, t = takeGatePassage g p h := ⟨_, rfl⟩
        rw [hf, ← ht] at hu
        rw [← ht] at hends
        rw [hheard] at hends
        refine ⟨_, hexec, ?_, ?_, ?_, fun ho c hc => ⟨fun hst => ?_, fun hst hlast => ?_⟩, fun q y hy hk hn => ?_, fun ho b hb hne => ?_⟩
        · rw [settle_rest, react_rest, hf, ← ht, hends.rest]
          exact hheard ▸ hrest
        · rw [hu]
          exact hends.freed
        · rw [hu]
          exact hends.windows
        · rw [hu]
          exact hends.used ho c hc hst
        · rw [hu]
          exact hends.gone ho hst hlast
        · rw [hu] at hy
          rw [hheard] at hn
          exact hends.new q y hy hk hn
        · rw [hu]
          exact hends.waits ho b hb hne
      · have ht : takeGatePassage g p h = unverifiedPassage g h := by
          rw [takeGatePassage_unmatched (hexit ▸ hex) (hqueue ▸ hnone), ho]
        obtain ⟨hresth, hfault, hq, hw, hn1, hn2⟩ := unverifiedPassage_spec g h
        obtain ⟨l, hu⟩ := react_eq (fromGate e fun g => takeGatePassage g p) a
        obtain ⟨t, hteq⟩ : ∃ t, t = unverifiedPassage g h := ⟨_, rfl⟩
        rw [hf, ht, ← hteq] at hu
        rw [← hteq] at hresth hfault hq hw hn1 hn2
        refine ⟨_, hexec, ?_, ?_, ?_, ?_, ?_, ?_⟩
        · rw [settle_rest, react_rest, hf, ht, ← hteq, hresth, hrest, hheard]
          rfl
        · rw [hu]
          exact hfault
        · rw [hu]
          exact hq.trans hqueue
        · rw [hu]
          refine hw.trans ?_
          rw [hheard]
          rfl
        · rw [hu]
          exact hn1
        · rw [hu]
          exact hn2
  · have ht : passDeadlineExpires i s = passageFailed v s := passDeadlineExpires_ends hv ⟨hst, hd⟩
    obtain ⟨l, hu⟩ := react_eq (passDeadlineExpires i) s
    obtain ⟨hfreed, hwindows, hrest, -⟩ := passageFailed_spec v s
    refine ⟨_, event_eq hr, ?_, ?_, ?_⟩
    · rw [settle_rest, react_rest, ht, hrest]
    · rw [hu, ht, ← entryAt_slot hv]
      exact hfreed
    · rw [hu, ht]
      exact hwindows
  · exact event_idle hr hq (passDeadlineExpires_idle hnone)

end Sys2Proof.Machine
end

section
/-!
PROOFS. Decisions on entries of the validation queue (R148, R150, R153), and the fare server (R152, R153): the statement O43.
-/

namespace Sys2Proof.Machine

/-! ## What a decision does (R150) -/

/-- An entry on which a verdict is taken. -/
def settledEntry (y : Verdict) (b : DecidedBy) (e : VEntry) : VEntry :=
  { e with state := .WAIT_GATE, verdict := some y, decidedBy := some b, query := none, mergedTo := none, deadline := none }

theorem takeVerdict_queue (v : VEntry) (x : Verdict) (b : DecidedBy) (s : State) : (takeVerdict v x b s).gates.queue =
    s.gates.queue.map fun e => if e.slot == v.slot then settledEntry (budgetVerdict s v.halt x) b e else e := by
  unfold takeVerdict
  dsimp only
  split
  · rfl
  · rfl

theorem takeVerdict_frame (v : VEntry) (x : Verdict) (b : DecidedBy) (s : State) : ∃ q w, takeVerdict v x b s =
    { s with gates := { s.gates with queue := q, windows := w } } := by
  unfold takeVerdict
  dsimp only
  split
  · exact ⟨_, _, rfl⟩
  · exact ⟨_, _, rfl⟩

theorem takeVerdict_windows (v : VEntry) (x : Verdict) (b : DecidedBy) (s : State) : (takeVerdict v x b s).gates.windows =
    if budgetVerdict s v.halt x = .ADMIT then vmod s.gates.windows v.halt (Option.map fun w => { w with reserved := w.reserved + 1 })
    else s.gates.windows := by
  unfold takeVerdict
  dsimp only
  split
  · rfl
  · rfl

/-- An entry that is decided by `b`, and delivered or waiting for it. -/
def Decided (b : DecidedBy) (x : VEntry) : Prop :=
  (x.state = .WAIT_GATE ∨ x.state = .WAIT_PASS) ∧ x.decidedBy = some b ∧ x.query = none ∧ x.mergedTo = none

/-- What is in place `i` is decided by `b`, with a verdict of which `Q` holds. -/
def DecidedAt (i : SlotId) (b : DecidedBy) (Q : Verdict → Prop) (s : State) : Prop :=
  ∀ x ∈ s.gates.queue, x.slot = i → Decided b x ∧ ∃ y, x.verdict = some y ∧ Q y

theorem DecidedAt.mono {i : SlotId} {b : DecidedBy} {Q R : Verdict → Prop} {s : State} (h : DecidedAt i b Q s) (hQ : ∀ y, Q y → R y) :
    DecidedAt i b R s := by
  intro x hx hi
  obtain ⟨hd, y, hy, hq⟩ := h x hx hi
  exact ⟨hd, y, hy, hQ y hq⟩

/-- The verdict `y` on entry `v`, by `b`: what it leaves in its place and in the others. -/
structure Decides (v : VEntry) (y : Verdict) (b : DecidedBy) (s t : State) : Prop where
  windows : t.gates.windows =
    if y = .ADMIT then vmod s.gates.windows v.halt (Option.map fun w => { w with reserved := w.reserved + 1 }) else s.gates.windows
  here : DecidedAt v.slot b (· = y) t
  others : ∀ {i c Q}, i ≠ v.slot → DecidedAt i c Q s → DecidedAt i c Q t
  flight : ∀ {i k}, i ≠ v.slot → InFlight i k s.gates → InFlight i k t.gates
  starts : y = .ADMIT → (∃ x ∈ s.gates.queue, x.slot = v.slot ∧ x.token = v.token) → InFlight v.slot v.token t.gates

theorem takeVerdict_decides (v : VEntry) (x : Verdict) (b : DecidedBy) (s : State) :
    Decides v (budgetVerdict s v.halt x) b s (takeVerdict v x b s) := by
  have hqueue := takeVerdict_queue v x b s
  have hmem : ∀ z ∈ (takeVerdict v x b s).gates.queue, (z.slot ≠ v.slot ∧ z ∈ s.gates.queue) ∨
      ∃ e ∈ s.gates.queue, e.slot = v.slot ∧ z = settledEntry (budgetVerdict s v.halt x) b e := by
    intro z hz
    rw [hqueue] at hz
    obtain ⟨e, he, rfl⟩ := List.mem_map.mp hz
    split
    next hs => exact .inr ⟨e, he, beq_iff_eq.mp hs, rfl⟩
    next hs => exact .inl ⟨fun h => hs (beq_iff_eq.mpr h), he⟩
  refine ⟨takeVerdict_windows v x b s, fun z hz hi => ?_, fun hne h z hz hi => ?_, fun hne h => ?_, fun hy ⟨z, hz, hi, hk⟩ => ?_⟩
  · obtain ⟨hn, -⟩ | ⟨e, -, -, rfl⟩ := hmem z hz
    · exact absurd hi hn
    · exact ⟨⟨.inl rfl, rfl, rfl, rfl⟩, _, rfl, rfl⟩
  · obtain ⟨-, hin⟩ | ⟨e, -, he, rfl⟩ := hmem z hz
    · exact h z hin hi
    · exact absurd (hi.symm.trans he) hne
  · constructor
    · obtain ⟨z, hz, hi, hk, hs⟩ := h.here
      refine ⟨z, ?_, hi, hk, hs⟩
      rw [hqueue]
      refine List.mem_map.mpr ⟨z, hz, if_neg fun hs => hne ?_⟩
      exact hi.symm.trans (beq_iff_eq.mp hs)
    · intro z hz hi
      obtain ⟨-, hin⟩ | ⟨e, -, he, rfl⟩ := hmem z hz
      · exact h.admitted z hin hi
      · exact absurd (hi.symm.trans he) hne
  · constructor
    · refine ⟨settledEntry (budgetVerdict s v.halt x) b z, ?_, hi, hk, .inl rfl⟩
      rw [hqueue]
      exact List.mem_map.mpr ⟨z, hz, if_pos (beq_iff_eq.mpr hi)⟩
    · intro z hz hi
      obtain ⟨hn, -⟩ | ⟨e, -, -, rfl⟩ := hmem z hz
      · exact absurd hi hn
      · exact congrArg some hy

theorem Decides.modGates {v : VEntry} {y : Verdict} {b : DecidedBy} {s t : State} (h : Decides v y b s t) {f : GateUnit → GateUnit}
    (hf : (f t.gates).queue = t.gates.queue ∧ (f t.gates).windows = t.gates.windows) : Decides v y b s (modGates f t) := by
  have hflight : ∀ {i k}, InFlight i k t.gates → InFlight i k (f t.gates) := fun h =>
    ⟨hf.1 ▸ h.here, hf.1 ▸ h.admitted⟩
  refine ⟨hf.2.trans h.windows, ?_, fun hne hd => ?_, fun hne hi => hflight (h.flight hne hi), fun hy hx => hflight (h.starts hy hx)⟩
  · intro x hx
    exact h.here x (hf.1 ▸ hx)
  · intro x hx
    exact h.others hne hd x (hf.1 ▸ hx)

theorem deliver_decidedAt {g : GateId} {i : SlotId} {b : DecidedBy} {Q : Verdict → Prop} {s : State} (h : DecidedAt i b Q s) :
    DecidedAt i b Q (deliver g s) :=
  deliver_place (P := fun x => Decided b x ∧ ∃ y, x.verdict = some y ∧ Q y)
    (fun _ _ hx => ⟨⟨.inr rfl, hx.1.2⟩, hx.2⟩) h

theorem Decides.deliver {v : VEntry} {y : Verdict} {b : DecidedBy} {s t : State} (h : Decides v y b s t) (g : GateId) :
    Decides v y b s (deliver g t) where
  windows := (deliver_windows g t).trans h.windows
  here := deliver_decidedAt h.here
  others hne hd := deliver_decidedAt (h.others hne hd)
  flight hne hi := deliver_inFlight (h.flight hne hi)
  starts hy hx := deliver_inFlight (h.starts hy hx)

theorem decideHit_decides (v : VEntry) (e : CacheEntry) (b : DecidedBy) (s : State) :
    Decides v (budgetVerdict s v.halt (hitVerdict s v.slot e)) b s (decideHit v e b s) :=
  (takeVerdict_decides ..).deliver _

theorem setBankFor_frame (a : GroupA) (t : Token) (b : List CacheEntry) (g : GateUnit) :
    ∃ b0 b1, setBankFor a t b g = { g with bank0 := b0, bank1 := b1 } := by
  unfold setBankFor
  split
  · exact ⟨_, _, rfl⟩
  · exact ⟨_, _, rfl⟩

theorem cacheFill_frame (a : GroupA) (e : CacheEntry) (g : GateUnit) : ∃ b0 b1, cacheFill a e g = { g with bank0 := b0, bank1 := b1 } := by
  unfold cacheFill
  dsimp only
  split
  · exact setBankFor_frame ..
  · split
    · exact setBankFor_frame ..
    · exact setBankFor_frame ..

theorem markProvisional_frame (a : GroupA) (t : Token) (cls : Nat) (g : GateUnit) :
    ∃ b0 b1, markProvisional a t cls g = { g with bank0 := b0, bank1 := b1 } := by
  unfold markProvisional
  split
  · exact cacheUpdate_frame ..
  · exact cacheFill_frame ..

theorem decideOffline_decides (v : VEntry) (s : State) :
    Decides v (budgetVerdict s v.halt (offlineVerdict s v)) .OFFLINE s (decideOffline v s) := by
  unfold decideOffline
  refine Decides.deliver ?_ _
  split
  · refine (takeVerdict_decides ..).modGates ?_
    obtain ⟨b0, b1, h⟩ := markProvisional_frame s.active.a v.token v.cls (takeVerdict v (offlineVerdict s v) .OFFLINE s).gates
    rw [h]
    exact ⟨rfl, rfl⟩
  · exact takeVerdict_decides ..

/-! ## Verdicts (R148, R150, R153) -/

theorem haltBudget_pos_iff (s : State) (h : Halt) :
    0 < haltBudget s h ↔ ∃ w, s.gates.windows.get h = some w ∧ w.base + w.admitted + w.reserved < w.capacity := by
  unfold haltBudget
  rcases s.gates.windows.get h with - | w
  · exact ⟨fun h => absurd h (by decide), fun ⟨w, hw, _⟩ => nomatch hw⟩
  · unfold windowBudget
    dsimp only
    constructor
    · exact fun h => ⟨w, rfl, by omega⟩
    · rintro ⟨w', hw, hlt⟩
      cases hw
      omega

theorem budgetVerdict_refuse {s : State} {h : Halt} {x : Verdict} {r : GateReason} {sr : Byte} (hx : x = .REFUSE r sr) :
    budgetVerdict s h x = .REFUSE r sr := by
  rw [hx]
  rfl

theorem budgetVerdict_room {s : State} {h : Halt} {x : Verdict} (hx : x = .ADMIT) (hr : 0 < haltBudget s h) :
    budgetVerdict s h x = .ADMIT := by
  rw [hx]
  exact if_pos hr

theorem budgetVerdict_full {s : State} {h : Halt} {x : Verdict} (hx : x = .ADMIT) (hr : ¬ 0 < haltBudget s h) :
    budgetVerdict s h x = .REFUSE .FULL 0#8 := by
  rw [hx]
  exact if_neg hr

theorem passback_iff (s : State) (i : SlotId) (t : Token) (last : Option Nat) : passback s i t last = true ↔
    (∃ x ∈ s.gates.queue, x.slot ≠ i ∧ x.token = t ∧ x.verdict = some .ADMIT ∧ (x.state = .WAIT_GATE ∨ x.state = .WAIT_PASS)) ∨
      ∃ l, last = some l ∧ s.localTime - l < s.active.a.fare.passback.toNat := by
  have hflight : (s.gates.queue.any fun v => (v.slot != i) && (v.token == t) && holdsReservation v) = true ↔
      ∃ x ∈ s.gates.queue, x.slot ≠ i ∧ x.token = t ∧ x.verdict = some .ADMIT ∧ (x.state = .WAIT_GATE ∨ x.state = .WAIT_PASS) := by
    simp only [List.any_eq_true, holdsReservation, Bool.and_eq_true, Bool.or_eq_true, bne_iff_ne, beq_iff_eq, and_assoc]
  unfold passback
  rw [Bool.or_eq_true, hflight]
  refine or_congr_right ?_
  cases last with
  | none => exact ⟨fun h => absurd h Bool.false_ne_true, fun ⟨l, hl, _⟩ => nomatch hl⟩
  | some l => exact ⟨fun h => ⟨l, rfl, of_decide_eq_true h⟩, fun ⟨l', hl, h⟩ => decide_eq_true (by cases hl; exact h)⟩

/-- A token in flight through another place is passed back (R148). -/
theorem InFlight.passback {i j : SlotId} {k : Token} {s : State} (h : InFlight i k s.gates) (hj : i ≠ j) (last : Option Nat) :
    passback s j k last = true := by
  obtain ⟨x, hx, hi, hk, hs⟩ := h.here
  exact (passback_iff s j k last).mpr (.inl ⟨x, hx, hi ▸ hj, hk, h.admitted x hx hi, hs⟩)

/-! ## Several decisions in a row -/

section
variable {f : State → VEntry → State} {Y : State → VEntry → Verdict} {b : DecidedBy}
  (hf : ∀ s x, Decides x (Y s x) b s (f s x))
include hf

theorem foldl_others {i : SlotId} {c : DecidedBy} {Q : Verdict → Prop} {ms : List VEntry} (hi : ∀ m ∈ ms, m.slot ≠ i) {s : State}
    (h : DecidedAt i c Q s) : DecidedAt i c Q (ms.foldl f s) := by
  induction ms generalizing s with
  | nil => exact h
  | cons m ms ih =>
    exact ih (fun x hx => hi x (List.mem_cons_of_mem _ hx)) ((hf s m).others (Ne.symm (hi m List.mem_cons_self)) h)

theorem foldl_flight {i : SlotId} {k : Token} {ms : List VEntry} (hi : ∀ m ∈ ms, m.slot ≠ i) {s : State} (h : InFlight i k s.gates) :
    InFlight i k (ms.foldl f s).gates := by
  induction ms generalizing s with
  | nil => exact h
  | cons m ms ih =>
    exact ih (fun x hx => hi x (List.mem_cons_of_mem _ hx)) ((hf s m).flight (Ne.symm (hi m List.mem_cons_self)) h)

/-- Each of several entries in places of their own keeps the verdict that it is given in its turn. -/
theorem foldl_decidedAt {P : State → Prop} {Q : Verdict → Prop} {good : VEntry → Prop} {ms : List VEntry}
    (hms : (ms.map VEntry.slot).Nodup) (hP : ∀ s, ∀ m ∈ ms, P s → P (f s m)) (hQ : ∀ s, ∀ m ∈ ms, P s → good m → Q (Y s m)) {s : State}
    (h : P s) : ∀ m ∈ ms, good m → DecidedAt m.slot b Q (ms.foldl f s) := by
  induction ms generalizing s with
  | nil => exact nofun
  | cons x ms ih =>
    rw [List.map_cons, List.nodup_cons] at hms
    obtain ⟨hx, hms⟩ := hms
    intro m hm hgood
    rcases List.mem_cons.mp hm with rfl | hm
    · have hne : ∀ z ∈ ms, z.slot ≠ m.slot := fun z hz hs => hx (hs ▸ List.mem_map_of_mem hz)
      refine foldl_others (s := f s m) hf hne ?_
      exact (hf s m).here.mono fun y hy => hy ▸ hQ s m List.mem_cons_self h hgood
    · exact ih hms (fun s z hz => hP s z (List.mem_cons_of_mem _ hz)) (fun s z hz => hQ s z (List.mem_cons_of_mem _ hz))
        (hP s x List.mem_cons_self h) m hm hgood

end

theorem decideHit_work (v : VEntry) (e : CacheEntry) (b : DecidedBy) (s : State) : StationWork s (decideHit v e b s) := by
  obtain ⟨q, w, h⟩ := takeVerdict_frame v (hitVerdict s v.slot e) b s
  unfold decideHit
  rw [h]
  exact work_deliver (work_modGates (f := fun g => { g with queue := q, windows := w }) (.refl s))

theorem decideOffline_work (v : VEntry) (s : State) : StationWork s (decideOffline v s) := by
  obtain ⟨q, w, h⟩ := takeVerdict_frame v (offlineVerdict s v) .OFFLINE s
  have htaken : StationWork s (takeVerdict v (offlineVerdict s v) .OFFLINE s) := by
    rw [h]
    exact work_modGates (f := fun g => { g with queue := q, windows := w }) (.refl s)
  unfold decideOffline
  refine work_deliver ?_
  split
  · exact work_modGates htaken
  · exact htaken

theorem takeVerdict_rest (v : VEntry) (x : Verdict) (b : DecidedBy) (s : State) : (takeVerdict v x b s).rest = s.rest := by
  obtain ⟨q, w, h⟩ := takeVerdict_frame v x b s
  rw [h]
  rfl

theorem decideHit_rest (v : VEntry) (e : CacheEntry) (b : DecidedBy) (s : State) : (decideHit v e b s).rest = s.rest :=
  (deliver_rest ..).trans (takeVerdict_rest ..)

theorem markProvisional_kept (a : GroupA) (t : Token) (cls : Nat) (g : GateUnit) :
    (markProvisional a t cls g).serverLost = g.serverLost ∧ (markProvisional a t cls g).timeouts = g.timeouts ∧
      (markProvisional a t cls g).queryCounter = g.queryCounter ∧ (markProvisional a t cls g).unverified = g.unverified ∧
      (markProvisional a t cls g).exits = g.exits := by
  obtain ⟨b0, b1, h⟩ := markProvisional_frame a t cls g
  rw [h]
  exact ⟨rfl, rfl, rfl, rfl, rfl⟩

theorem decideOffline_rest (v : VEntry) (s : State) : (decideOffline v s).rest = s.rest := by
  unfold decideOffline
  refine (deliver_rest ..).trans ?_
  split
  · rw [modGates_rest _ (markProvisional_kept _ _ _), takeVerdict_rest]
  · exact takeVerdict_rest ..

/-- A decision against a cache entry leaves every cache entry that is not stale (R144, R148). -/
theorem decideHit_find {a : GroupA} {v : VEntry} {e c : CacheEntry} {b : DecidedBy} {t : Token} {s : State}
    (h : cacheFind a s.gates t = some c) (hc : c.stale = false) : cacheFind a (decideHit v e b s).gates t = some c := by
  refine deliver_cacheFind ?_ (.inl hc)
  obtain ⟨q, w, ht⟩ := takeVerdict_frame v (hitVerdict s v.slot e) b s
  rw [ht]
  exact h

section
variable {f : State → VEntry → State} {Y : State → VEntry → Verdict} {b : DecidedBy}
  (hf : ∀ s x, Decides x (Y s x) b s (f s x))
include hf

/-- An entry that asks, and behind it those that wait for its answer: what their decisions leave (R152, R153). -/
theorem decideAll_spec {s : State} {v : VEntry} {ms : List VEntry} {Q : Verdict → Prop} {good : VEntry → Prop} (hv : v ∈ s.gates.queue)
    (hms : (ms.map VEntry.slot).Nodup) (hne : ∀ m ∈ ms, m.slot ≠ v.slot)
    (hQ : ∀ t, ∀ m ∈ ms, (Y s v = .ADMIT → InFlight v.slot v.token t.gates) → good m → Q (Y t m)) :
    let u := (v :: ms).foldl f s
    DecidedAt v.slot b (· = Y s v) u ∧ (Y s v = .ADMIT → InFlight v.slot v.token u.gates) ∧
      (ms = [] → u.gates.windows = if Y s v = .ADMIT then
        vmod s.gates.windows v.halt (Option.map fun w => { w with reserved := w.reserved + 1 }) else s.gates.windows) ∧
      ∀ m ∈ ms, good m → DecidedAt m.slot b Q u := by
  have hfirst := hf s v
  have hstart : Y s v = .ADMIT → InFlight v.slot v.token (f s v).gates := fun hy => hfirst.starts hy ⟨v, hv, rfl, rfl⟩
  refine ⟨foldl_others (s := f s v) hf hne hfirst.here, fun hy => foldl_flight (s := f s v) hf hne (hstart hy), fun hnil => ?_, ?_⟩
  · rw [hnil]
    exact hfirst.windows
  · exact foldl_decidedAt (s := f s v) (P := fun t => Y s v = .ADMIT → InFlight v.slot v.token t.gates) hf hms
      (fun t m hm h hy => (hf t m).flight (Ne.symm (hne m hm)) (h hy)) hQ hstart

end

/-! ## FARE_ANSWER (R152) -/

theorem find_only {α : Type} {l : List α} {p : α → Bool} {v : α} (hv : v ∈ l) (hp : p v = true) (h : ∀ x ∈ l, p x = true → x = v) :
    l.find? p = some v := by
  obtain ⟨x, hx⟩ := Option.isSome_iff_exists.mp (List.find?_isSome.mpr ⟨v, hv, hp⟩)
  rw [hx, h x (List.mem_of_find?_eq_some hx) (List.find?_some hx)]

/-- The state of an answer before its decisions: the cache has it, and the server answers. -/
def answered (p : FareAnswerP) (s : State) : State :=
  modGates (fun u => { cacheFill s.active.a (answeredEntry s p) u with timeouts := 0, serverLost := false }) s

/-- The entries that wait for the answer to the one in place `i`. -/
def mergedAt (i : SlotId) (s : State) : List VEntry := s.gates.queue.filter fun x => (x.state == .MERGED) && (x.mergedTo == some i)

theorem mem_mergedAt {i : SlotId} {s : State} {m : VEntry} :
    m ∈ mergedAt i s ↔ m ∈ s.gates.queue ∧ m.state = .MERGED ∧ m.mergedTo = some i := by
  unfold mergedAt
  rw [List.mem_filter, Bool.and_eq_true, beq_iff_eq, beq_iff_eq]

theorem mergedAt_nodup {i : SlotId} {s : State} (h : slotsDistinct s = true) : ((mergedAt i s).map VEntry.slot).Nodup :=
  (of_decide_eq_true h).sublist (List.filter_sublist.map _)

theorem mergedAt_elsewhere {i : SlotId} {s : State} {v : VEntry} (h : slotsDistinct s = true) (hv : v ∈ s.gates.queue)
    (hst : v.state = .ASKING) : ∀ m ∈ mergedAt i s, m.slot ≠ v.slot := by
  intro m hm hs
  obtain ⟨hin, hmerged, -⟩ := mem_mergedAt.mp hm
  have := List.inj_on_of_nodup_map (of_decide_eq_true h) hin hv hs
  rw [this, hst] at hmerged
  cases hmerged

theorem answered_frame (p : FareAnswerP) (s : State) : ∃ b0 b1, answered p s =
    { s with gates := { s.gates with bank0 := b0, bank1 := b1, timeouts := 0, serverLost := false } } := by
  obtain ⟨b0, b1, h⟩ := cacheFill_frame s.active.a (answeredEntry s p) s.gates
  refine ⟨b0, b1, ?_⟩
  unfold answered modGates
  dsimp only
  rw [h]

theorem cacheFind_server (a : GroupA) (g : GateUnit) (n : Nat) (b : Bool) (t : Token) :
    cacheFind a { g with timeouts := n, serverLost := b } t = cacheFind a g t := rfl

theorem answered_find (p : FareAnswerP) (s : State) : cacheFind s.active.a (answered p s).gates p.token = some (answeredEntry s p) := by
  have hfill := cacheFill_find s.active.a (answeredEntry s p) s.gates
  rw [show (answeredEntry s p).token = p.token from rfl] at hfill
  unfold answered
  rw [modGates_gates]
  exact (cacheFind_server ..).trans hfill

/-- An answer without an entry that asks for it decides nothing. -/
theorem takeFareAnswer_alone {p : FareAnswerP} {s : State}
    (h : ∀ v ∈ s.gates.queue, ¬ (v.state = .ASKING ∧ v.query = some p.query ∧ v.token = p.token)) : takeFareAnswer p s = answered p s := by
  obtain ⟨b0, b1, hs⟩ := answered_frame p s
  have hfind : ((answered p s).gates.queue.find? fun v => (v.state == .ASKING) && (v.query == some p.query) && (v.token == p.token)) =
      none := by
    rw [hs]
    refine List.find?_eq_none.mpr fun v hv hc => h v hv ?_
    rw [Bool.and_eq_true, Bool.and_eq_true, beq_iff_eq, beq_iff_eq, beq_iff_eq, and_assoc] at hc
    exact hc
  unfold takeFareAnswer
  dsimp only
  split
  · rfl
  next v hv => exact nomatch hfind.symm.trans hv

/-- An answer to the one entry that asks for it decides that entry and those that wait for it. -/
theorem takeFareAnswer_asked {p : FareAnswerP} {s : State} {v : VEntry} (hv : v ∈ s.gates.queue)
    (hasks : v.state = .ASKING ∧ v.query = some p.query ∧ v.token = p.token)
    (hone : ∀ x ∈ s.gates.queue, x.state = .ASKING ∧ x.query = some p.query ∧ x.token = p.token → x = v) : takeFareAnswer p s =
      (v :: mergedAt v.slot (answered p s)).foldl (fun t x => decideHit x (answeredEntry s p) .SERVER t) (answered p s) := by
  obtain ⟨b0, b1, hs⟩ := answered_frame p s
  have hasksIff : ∀ x : VEntry, ((x.state == .ASKING) && (x.query == some p.query) && (x.token == p.token)) = true ↔
      x.state = .ASKING ∧ x.query = some p.query ∧ x.token = p.token := fun x => by
    rw [Bool.and_eq_true, Bool.and_eq_true, beq_iff_eq, beq_iff_eq, beq_iff_eq, and_assoc]
  have hfind : ((answered p s).gates.queue.find? fun v => (v.state == .ASKING) && (v.query == some p.query) && (v.token == p.token)) =
      some v := by
    rw [hs]
    exact find_only hv ((hasksIff v).mpr hasks) fun x hx hax => hone x hx ((hasksIff x).mp hax)
  unfold takeFareAnswer
  dsimp only
  split
  next hnone => exact nomatch hfind.symm.trans hnone
  next x hx =>
    cases hfind.symm.trans hx
    rfl

section
variable {p : FareAnswerP} {s0 : State} {t : State} {j : SlotId}

/-- The verdict of an answer (R152). -/
theorem answered_refused (h : p.verdict ≠ .ADMIT) : hitVerdict t j (answeredEntry s0 p) = .REFUSE .SERVER p.serverReason := by
  unfold hitVerdict answeredEntry
  cases hv : p.verdict with
  | ADMIT => exact absurd hv h
  | REFUSE => rfl

theorem answered_admits (h : p.verdict = .ADMIT) : hitVerdict t j (answeredEntry s0 p) =
    if p.rides = 0#16 then .REFUSE .NO_RIDES 0#8
    else if passback t j p.token (answeredEntry s0 p).lastAdmitted then .REFUSE .PASSBACK 0#8 else .ADMIT := by
  have hver : (answeredEntry s0 p).verdict = .ADMIT := by
    unfold answeredEntry
    rw [h]
  have hrides : (answeredEntry s0 p).rides = some 0 ↔ p.rides = 0#16 := by
    change (if p.rides = 0xFFFF#16 then none else some p.rides.toNat) = some 0 ↔ _
    split
    next hall =>
      rw [hall]
      exact ⟨nofun, fun h => absurd h (by decide)⟩
    · rw [Option.some.injEq]
      exact ⟨fun h => BitVec.eq_of_toNat_eq h, fun h => by rw [h]; rfl⟩
  unfold hitVerdict
  rw [hver]
  simp only [hrides]
  rfl

end

theorem answeredEntry_eq (s : State) (p : FareAnswerP) : answeredEntry s p =
    { token := p.token
      cls := codeAt 15 p.cls
      verdict := if p.verdict = .ADMIT then .ADMIT else .REFUSE .SERVER p.serverReason
      rides := if p.rides = 0xFFFF#16 then none else some p.rides.toNat
      validUntil := some (if p.verdict = .ADMIT then s.localTime + 60 * p.minutes.toNat else s.localTime + 60)
      lastAdmitted := (cacheFind s.active.a s.gates p.token).bind CacheEntry.lastAdmitted
      provisional := false
      stale := false } := by
  unfold answeredEntry
  cases p.verdict with
  | ADMIT => rfl
  | REFUSE => rfl

/-- An answer decides as the server, whatever its entries: what stays, and what it leaves of the rest of the state (R152). -/
theorem takeFareAnswer_spec (p : FareAnswerP) (s : State) : let t := takeFareAnswer p s
    t.rest = { s.rest with timeouts := 0, serverLost := false } ∧
      cacheFind s.active.a t.gates p.token = some (answeredEntry s p) ∧ StationWork s t := by
  intro t
  have hwork : StationWork s (answered p s) := work_modGates (.refl s)
  have hrest : (answered p s).rest = { s.rest with timeouts := 0, serverLost := false } := by
    obtain ⟨b0, b1, h⟩ := answered_frame p s
    rw [h]
    rfl
  have hall : ∀ (ms : List VEntry) (a : State), StationWork s a → a.rest = (answered p s).rest →
      cacheFind s.active.a a.gates p.token = some (answeredEntry s p) →
      let u := ms.foldl (fun t x => decideHit x (answeredEntry s p) .SERVER t) a
      u.rest = (answered p s).rest ∧ cacheFind s.active.a u.gates p.token = some (answeredEntry s p) ∧ StationWork s u := by
    intro ms
    induction ms with
    | nil => exact fun a ha hr hc => ⟨hr, hc, ha⟩
    | cons m ms ih =>
      exact fun a ha hr hc => ih _ (ha.trans (decideHit_work ..)) ((decideHit_rest ..).trans hr) (decideHit_find hc rfl)
  have ht : ∃ ms : List VEntry, t = ms.foldl (fun t x => decideHit x (answeredEntry s p) .SERVER t) (answered p s) := by
    change ∃ ms : List VEntry, takeFareAnswer p s = _
    unfold takeFareAnswer
    dsimp only
    split
    · exact ⟨[], rfl⟩
    · exact ⟨_, rfl⟩
  obtain ⟨ms, hms⟩ := ht
  rw [hms, ← hrest]
  exact hall ms (answered p s) hwork rfl (answered_find p s)

theorem answered_queue (p : FareAnswerP) (s : State) : (answered p s).gates.queue = s.gates.queue := by
  obtain ⟨b0, b1, h⟩ := answered_frame p s
  rw [h]

theorem answered_windows (p : FareAnswerP) (s : State) : (answered p s).gates.windows = s.gates.windows := by
  obtain ⟨b0, b1, h⟩ := answered_frame p s
  rw [h]

/-- The first decision of an answer is refused with PASSBACK for a token in flight or admitted too recently. -/
theorem answered_passback {p : FareAnswerP} {s : State} {i : SlotId} {last : Option Nat} : passback (answered p s) i p.token last = true ↔
    (∃ x ∈ s.gates.queue, x.slot ≠ i ∧ x.token = p.token ∧ x.verdict = some .ADMIT ∧ (x.state = .WAIT_GATE ∨ x.state = .WAIT_PASS)) ∨
      ∃ l, last = some l ∧ s.localTime - l < s.active.a.fare.passback.toNat := by
  obtain ⟨b0, b1, h⟩ := answered_frame p s
  rw [passback_iff, h]
  rfl

theorem answered_room {p : FareAnswerP} {s : State} {h : Halt} :
    0 < haltBudget (answered p s) h ↔ ∃ w, s.gates.windows.get h = some w ∧ w.base + w.admitted + w.reserved < w.capacity := by
  rw [haltBudget_pos_iff, answered_windows]

/-- The verdict on an entry whose answer came (R152). -/
def answerVerdict (p : FareAnswerP) (s t : State) (x : VEntry) : Verdict :=
  budgetVerdict t x.halt (hitVerdict t x.slot (answeredEntry s p))

theorem decideAnswer_decides (p : FareAnswerP) (s t : State) (x : VEntry) :
    Decides x (answerVerdict p s t x) .SERVER t (decideHit x (answeredEntry s p) .SERVER t) := by
  unfold answerVerdict
  exact decideHit_decides x (answeredEntry s p) .SERVER t

theorem answerVerdict_refuses (p : FareAnswerP) (s t : State) (x : VEntry) :
    (p.verdict ≠ .ADMIT → answerVerdict p s t x = .REFUSE .SERVER p.serverReason) ∧
      (p.verdict = .ADMIT → p.rides = 0#16 → answerVerdict p s t x = .REFUSE .NO_RIDES 0#8) ∧
      (p.verdict = .ADMIT → p.rides ≠ 0#16 → passback t x.slot p.token (answeredEntry s p).lastAdmitted = true →
        answerVerdict p s t x = .REFUSE .PASSBACK 0#8) := by
  refine ⟨fun hv => budgetVerdict_refuse (answered_refused hv), fun hv h0 => budgetVerdict_refuse ?_, fun hv h0 hb => budgetVerdict_refuse ?_⟩
  · rw [answered_admits hv, if_pos h0]
  · rw [answered_admits hv, if_neg h0, if_pos hb]

/-- The verdict on the entry that asks, in the order of the cases of R148. -/
theorem answerVerdict_first (p : FareAnswerP) (s : State) (v : VEntry) :
    let barred := passback (answered p s) v.slot p.token (answeredEntry s p).lastAdmitted = true
    let y := answerVerdict p s (answered p s) v
    (p.verdict ≠ .ADMIT → y = .REFUSE .SERVER p.serverReason) ∧
      (p.verdict = .ADMIT → p.rides = 0#16 → y = .REFUSE .NO_RIDES 0#8) ∧
      (p.verdict = .ADMIT → p.rides ≠ 0#16 → barred → y = .REFUSE .PASSBACK 0#8) ∧
      (p.verdict = .ADMIT → p.rides ≠ 0#16 → ¬ barred → 0 < haltBudget (answered p s) v.halt → y = .ADMIT) ∧
      (p.verdict = .ADMIT → p.rides ≠ 0#16 → ¬ barred → ¬ 0 < haltBudget (answered p s) v.halt → y = .REFUSE .FULL 0#8) := by
  intro barred y
  obtain ⟨hrefused, hnone, hbarred⟩ := answerVerdict_refuses p s (answered p s) v
  refine ⟨hrefused, hnone, hbarred, fun hv h0 hb hr => budgetVerdict_room ?_ hr, fun hv h0 hb hr => budgetVerdict_full ?_ hr⟩
  · rw [answered_admits hv, if_neg h0, if_neg hb]
  · rw [answered_admits hv, if_neg h0, if_neg hb]

/-- What the answer to an entry leaves in its place, in its window, and in the places that wait for it (R152). -/
theorem takeFareAnswer_decides {p : FareAnswerP} {s : State} {v : VEntry} (hs : slotsDistinct s = true) (hv : v ∈ s.gates.queue)
    (hasks : v.state = .ASKING ∧ v.query = some p.query ∧ v.token = p.token)
    (hone : ∀ x ∈ s.gates.queue, x.state = .ASKING ∧ x.query = some p.query ∧ x.token = p.token → x = v) :
    let t := takeFareAnswer p s
    let y := answerVerdict p s (answered p s) v
    let waits (m : VEntry) : Prop := m.state = .MERGED ∧ m.mergedTo = some v.slot
    DecidedAt v.slot .SERVER (· = y) t ∧ (y = .ADMIT → InFlight v.slot v.token t.gates) ∧
      ((∀ m ∈ s.gates.queue, ¬ waits m) → t.gates.windows = if y = .ADMIT then
        vmod s.gates.windows v.halt (Option.map fun w => { w with reserved := w.reserved + 1 }) else s.gates.windows) ∧
      ∀ m ∈ s.gates.queue, waits m → DecidedAt m.slot .SERVER (fun z =>
        (p.verdict ≠ .ADMIT → z = .REFUSE .SERVER p.serverReason) ∧ (p.verdict = .ADMIT → p.rides = 0#16 → z = .REFUSE .NO_RIDES 0#8) ∧
        (p.verdict = .ADMIT → p.rides ≠ 0#16 → y = .ADMIT → z = .REFUSE .PASSBACK 0#8)) t := by
  intro t y waits
  have ht : t = takeFareAnswer p s := rfl
  have hy : y = answerVerdict p s (answered p s) v := rfl
  clear_value t y
  have hqueue := answered_queue p s
  have hs1 : slotsDistinct (answered p s) = true := by
    unfold slotsDistinct at hs ⊢
    rw [hqueue]
    exact hs
  have hmem : ∀ x, x ∈ (answered p s).gates.queue ↔ x ∈ s.gates.queue := fun x => by rw [hqueue]
  have hv1 := (hmem v).mpr hv
  have helse := mergedAt_elsewhere (i := v.slot) hs1 hv1 hasks.1
  have hall := decideAll_spec (Y := answerVerdict p s)
    (f := fun t x => decideHit x (answeredEntry s p) .SERVER t) (decideAnswer_decides p s) hv1 (mergedAt_nodup hs1) helse
    (good := fun _ => True) (Q := fun z =>
      (p.verdict ≠ .ADMIT → z = .REFUSE .SERVER p.serverReason) ∧ (p.verdict = .ADMIT → p.rides = 0#16 → z = .REFUSE .NO_RIDES 0#8) ∧
      (p.verdict = .ADMIT → p.rides ≠ 0#16 → y = .ADMIT → z = .REFUSE .PASSBACK 0#8)) (fun t m hm hin _ => by
      have hback : y = .ADMIT → passback t m.slot p.token (answeredEntry s p).lastAdmitted = true := fun hadmit =>
        hasks.2.2 ▸ (hin (hy ▸ hadmit)).passback (Ne.symm (helse m hm)) _
      obtain ⟨hrefused, hnone, hbarred⟩ := answerVerdict_refuses p s t m
      exact ⟨hrefused, hnone, fun ha h0 hy => hbarred ha h0 (hback hy)⟩)
  rw [← takeFareAnswer_asked hv hasks hone, ← ht, ← hy] at hall
  obtain ⟨hhere, hflight, hwindows, hmerged⟩ := hall
  refine ⟨hhere, hflight, fun hnone => ?_, fun m hm hw => ?_⟩
  · have hnil : mergedAt v.slot (answered p s) = [] := List.eq_nil_iff_forall_not_mem.mpr fun m hm => by
      obtain ⟨hin, hw⟩ := mem_mergedAt.mp hm
      exact hnone m ((hmem m).mp hin) hw
    have hw := hwindows hnil
    rw [answered_windows] at hw
    exact hw
  · exact hmerged m (mem_mergedAt.mpr ⟨(hmem m).mpr hm, hw⟩) trivial

/-! ## FARE_DEADLINE_EXPIRY (R153) -/

/-- The state of an expired deadline before its decisions: one timeout more, and at the third the server is lost. -/
def timedOut (s : State) : State :=
  let n := min 3 (s.gates.timeouts + 1)
  let s1 := modGates (fun u => { u with timeouts := n }) s
  if n = 3 ∧ ¬ s.gates.serverLost then occur .FARE_SERVER_LOST (modGates (fun u => { u with serverLost := true }) s1) else s1

theorem timedOut_frame (s : State) : ∃ p w b, timedOut s =
    { s with
      ports := p, mgmt := { s.mgmt with notices := w }
      gates := { s.gates with timeouts := min 3 (s.gates.timeouts + 1), serverLost := b } } := by
  unfold timedOut
  dsimp only
  split
  · obtain ⟨p, w, -, h⟩ := occur_fields .FARE_SERVER_LOST (modGates (fun u => { u with serverLost := true })
      (modGates (fun u => { u with timeouts := min 3 (s.gates.timeouts + 1) }) s))
    exact ⟨p, w, true, h⟩
  · exact ⟨_, _, _, rfl⟩

theorem timedOut_work (s : State) : StationWork s (timedOut s) := by
  unfold timedOut
  dsimp only
  split
  · exact work_occur (work_modGates (work_modGates (.refl s)))
  · exact work_modGates (.refl s)

theorem timedOut_rest (s : State) : (timedOut s).rest = { s.rest with
    timeouts := min 3 (s.gates.timeouts + 1), serverLost := s.gates.serverLost || decide (min 3 (s.gates.timeouts + 1) = 3) } := by
  unfold timedOut
  dsimp only
  split
  next h =>
    rw [occur_rest, decide_eq_true h.1, Bool.or_true]
    rfl
  next h =>
    have hlost : s.gates.serverLost = (s.gates.serverLost || decide (min 3 (s.gates.timeouts + 1) = 3)) := by
      rcases hl : s.gates.serverLost with - | -
      · rw [hl] at h
        rw [Bool.false_or]
        exact (decide_eq_false fun hn => h ⟨hn, Bool.false_ne_true⟩).symm
      · rfl
    rw [← hlost]
    rfl

theorem timedOut_noticed {s : State} (hn : min 3 (s.gates.timeouts + 1) = 3) (hl : s.gates.serverLost = false) :
    ((timedOut s).mgmt.notices.get (noticeIndex .FARE_SERVER_LOST)).pending = true := by
  unfold timedOut
  dsimp only
  rw [if_pos ⟨hn, by rw [hl]; exact Bool.false_ne_true⟩]
  exact occur_pending ..

theorem fareDeadlineExpires_idle {i : SlotId} {s : State}
    (h : ¬ ∃ v, entryAt s.gates i = some v ∧ v.state = .ASKING ∧ v.deadline ≠ none) : fareDeadlineExpires i s = s := by
  unfold fareDeadlineExpires
  rcases hv : entryAt s.gates i with - | v
  · rfl
  · exact if_neg fun hc => h ⟨v, hv, hc.1, Option.isSome_iff_ne_none.mp hc.2⟩

/-- The deadline of an entry that asks decides that entry and those that wait for it. -/
theorem fareDeadlineExpires_expired {i : SlotId} {s : State} {v : VEntry} (hv : entryAt s.gates i = some v)
    (h : v.state = .ASKING ∧ v.deadline ≠ none) :
    fareDeadlineExpires i s = (v :: mergedAt i (timedOut s)).foldl (fun t x => decideOffline x t) (timedOut s) := by
  unfold fareDeadlineExpires
  rw [hv]
  dsimp only
  rw [if_pos (h.imp_right Option.isSome_iff_ne_none.mpr)]
  rfl

/-- The verdict on an entry that no answer came for (R153). -/
def expiredVerdict (t : State) (x : VEntry) : Verdict := budgetVerdict t x.halt (offlineVerdict t x)

theorem decideExpired_decides (t : State) (x : VEntry) : Decides x (expiredVerdict t x) .OFFLINE t (decideOffline x t) := by
  unfold expiredVerdict
  exact decideOffline_decides x t

/-- The verdicts of R153 in their order. -/
theorem expiredVerdict_cases (t : State) (x : VEntry) :
    let barred := passback t x.slot x.token ((cacheFind t.active.a t.gates x.token).bind CacheEntry.lastAdmitted) = true
    (barred → expiredVerdict t x = .REFUSE .PASSBACK 0#8) ∧
      (¬ barred → ¬ classAdmits t.active.a x.cls = true → expiredVerdict t x = .REFUSE .OFFLINE 0#8) ∧
      (¬ barred → classAdmits t.active.a x.cls = true → 0 < haltBudget t x.halt → expiredVerdict t x = .ADMIT) ∧
      (¬ barred → classAdmits t.active.a x.cls = true → ¬ 0 < haltBudget t x.halt → expiredVerdict t x = .REFUSE .FULL 0#8) := by
  intro barred
  refine ⟨fun hb => budgetVerdict_refuse (if_pos hb), fun hb hc => budgetVerdict_refuse ?_, fun hb hc hr => budgetVerdict_room ?_ hr,
    fun hb hc hr => budgetVerdict_full ?_ hr⟩
  · exact (if_neg hb).trans (if_neg hc)
  · exact (if_neg hb).trans (if_pos hc)
  · exact (if_neg hb).trans (if_pos hc)

/-- The cache entry of a token that is admitted offline (R153). -/
def provisionalEntry (t : Token) (cls : Nat) : Option CacheEntry → CacheEntry
  | some c => { c with provisional := true }
  | none => ⟨t, cls, .ADMIT, none, none, none, true, false⟩

theorem markProvisional_find (a : GroupA) (t : Token) (cls : Nat) (g : GateUnit) :
    cacheFind a (markProvisional a t cls g) t = some (provisionalEntry t cls (cacheFind a g t)) := by
  unfold markProvisional
  rcases h : cacheFind a g t with - | c
  · exact cacheFill_find a ⟨t, cls, .ADMIT, none, none, none, true, false⟩ g
  · have hfound := cacheUpdate_find a t (fun e => { e with provisional := true }) (fun _ => rfl) g
    rw [h] at hfound
    exact hfound

theorem markProvisional_find_other {a : GroupA} {t k : Token} (hk : k ≠ t) (cls : Nat) {g : GateUnit} (hu : tokenInUse g.queue k = true) :
    cacheFind a (markProvisional a t cls g) k = cacheFind a g k := by
  unfold markProvisional
  split
  · exact cacheUpdate_find_other a hk (fun e => { e with provisional := true }) (fun _ => rfl) g
  · exact cacheFill_find_other a (e := ⟨t, cls, .ADMIT, none, none, none, true, false⟩) hk hu

/-- An offline admission leaves the cache entry of its token provisional (R153). -/
theorem decideOffline_find {v : VEntry} {s : State} (hv : v ∈ s.gates.queue) (hy : expiredVerdict s v = .ADMIT) :
    cacheFind s.active.a (decideOffline v s).gates v.token =
      some (provisionalEntry v.token v.cls (cacheFind s.active.a s.gates v.token)) := by
  have hflight := (takeVerdict_decides v (offlineVerdict s v) .OFFLINE s).starts hy ⟨v, hv, rfl, rfl⟩
  obtain ⟨q, w, hframe⟩ := takeVerdict_frame v (offlineVerdict s v) .OFFLINE s
  have hbefore : cacheFind s.active.a (takeVerdict v (offlineVerdict s v) .OFFLINE s).gates v.token = cacheFind s.active.a s.gates v.token := by
    rw [hframe]
    rfl
  obtain ⟨b0, b1, hmark⟩ := markProvisional_frame s.active.a v.token v.cls (takeVerdict v (offlineVerdict s v) .OFFLINE s).gates
  have hmarked := markProvisional_find s.active.a v.token v.cls (takeVerdict v (offlineVerdict s v) .OFFLINE s).gates
  rw [hbefore] at hmarked
  have hy' : budgetVerdict s v.halt (offlineVerdict s v) = .ADMIT := hy
  unfold decideOffline
  dsimp only
  rw [if_pos hy']
  rw [← modGates_gates (markProvisional s.active.a v.token v.cls)] at hmarked
  refine deliver_cacheFind hmarked (.inr ⟨v.slot, ?_⟩)
  rw [modGates_gates, hmark]
  exact ⟨hflight.here, hflight.admitted⟩

/-- A token in flight keeps its cache entry when another place is decided offline (R144, R153). -/
theorem decideOffline_find_other {x : VEntry} {s : State} {i : SlotId} {k : Token} {c : CacheEntry} (hi : i ≠ x.slot)
    (hf : InFlight i k s.gates) (hc : cacheFind s.active.a s.gates k = some c) :
    cacheFind s.active.a (decideOffline x s).gates k = some c := by
  have hflight := (takeVerdict_decides x (offlineVerdict s x) .OFFLINE s).flight hi hf
  obtain ⟨q, w, hframe⟩ := takeVerdict_frame x (offlineVerdict s x) .OFFLINE s
  have hbefore : cacheFind s.active.a (takeVerdict x (offlineVerdict s x) .OFFLINE s).gates k = some c := by
    rw [hframe]
    exact hc
  unfold decideOffline
  dsimp only
  split
  next hy =>
    have hne : k ≠ x.token := by
      rintro rfl
      have hback := (expiredVerdict_cases s x).1 (hf.passback hi _)
      exact nomatch hback.symm.trans hy
    obtain ⟨b0, b1, hmark⟩ := markProvisional_frame s.active.a x.token x.cls (takeVerdict x (offlineVerdict s x) .OFFLINE s).gates
    have hmarked := (markProvisional_find_other hne x.cls hflight.inUse).trans hbefore
    rw [← modGates_gates (markProvisional s.active.a x.token x.cls)] at hmarked
    refine deliver_cacheFind hmarked (.inr ⟨i, ?_⟩)
    rw [modGates_gates, hmark]
    exact ⟨hflight.here, hflight.admitted⟩
  next => exact deliver_cacheFind hbefore (.inr ⟨i, hflight⟩)

/-- Decisions on other places leave the cache entry of a token in flight. -/
theorem foldl_offline_find {i : SlotId} {k : Token} {c : CacheEntry} {ms : List VEntry} (hne : ∀ m ∈ ms, m.slot ≠ i) {s : State}
    (hf : InFlight i k s.gates) (hc : cacheFind s.active.a s.gates k = some c) :
    cacheFind s.active.a (ms.foldl (fun t x => decideOffline x t) s).gates k = some c := by
  induction ms generalizing s with
  | nil => exact hc
  | cons m ms ih =>
    have hm : i ≠ m.slot := Ne.symm (hne m List.mem_cons_self)
    have hactive : (decideOffline m s).active.a = s.active.a := by rw [(decideOffline_work m s).active]
    have hnext := decideOffline_find_other hm hf hc
    rw [← hactive] at hnext ⊢
    exact ih (fun x hx => hne x (List.mem_cons_of_mem _ hx)) ((decideExpired_decides s m).flight hm hf) hnext

theorem foldl_offline_kept (ms : List VEntry) (s : State) : let t := ms.foldl (fun t x => decideOffline x t) s
    t.rest = s.rest ∧ StationWork s t := by
  induction ms generalizing s with
  | nil => exact ⟨rfl, .refl s⟩
  | cons m ms ih =>
    obtain ⟨hrest, hwork⟩ := ih (decideOffline m s)
    exact ⟨hrest.trans (decideOffline_rest ..), (decideOffline_work m s).trans hwork⟩

/-- What the deadline of an entry leaves in its place, in its window, in the cache, and in the places that wait for it (R153). -/
theorem fareDeadlineExpires_decides {i : SlotId} {s : State} {v : VEntry} (hs : slotsDistinct s = true) (hv : entryAt s.gates i = some v)
    (hst : v.state = .ASKING ∧ v.deadline ≠ none) :
    let t := fareDeadlineExpires i s
    let y := expiredVerdict (timedOut s) v
    let waits (m : VEntry) : Prop := m.state = .MERGED ∧ m.mergedTo = some i
    DecidedAt i .OFFLINE (· = y) t ∧
      (y = .ADMIT → InFlight i v.token t.gates ∧ cacheFind s.active.a t.gates v.token =
        some (provisionalEntry v.token v.cls (cacheFind s.active.a s.gates v.token))) ∧
      ((∀ m ∈ s.gates.queue, ¬ waits m) → t.gates.windows = if y = .ADMIT then
        vmod s.gates.windows v.halt (Option.map fun w => { w with reserved := w.reserved + 1 }) else s.gates.windows) ∧
      ∀ m ∈ s.gates.queue, waits m → m.token = v.token →
        DecidedAt m.slot .OFFLINE (fun z => y = .ADMIT → z = .REFUSE .PASSBACK 0#8) t := by
  intro t y waits
  have ht : t = fareDeadlineExpires i s := rfl
  have hy : y = expiredVerdict (timedOut s) v := rfl
  clear_value t y
  rw [fareDeadlineExpires_expired hv hst] at ht
  have hslot : v.slot = i := entryAt_slot hv
  subst hslot
  obtain ⟨p, w, b, hframe⟩ := timedOut_frame s
  obtain ⟨a, ha⟩ : ∃ a, a = timedOut s := ⟨_, rfl⟩
  rw [← ha] at ht hy hframe
  have hqueue : a.gates.queue = s.gates.queue := by rw [hframe]
  have hwin : a.gates.windows = s.gates.windows := by rw [hframe]
  have hactive : a.active = s.active := by rw [hframe]
  have hcache : cacheFind s.active.a a.gates v.token = cacheFind s.active.a s.gates v.token := by
    rw [hframe]
    rfl
  have hs1 : slotsDistinct a = true := by
    unfold slotsDistinct at hs ⊢
    rw [hqueue]
    exact hs
  have hv1 : v ∈ a.gates.queue := by
    rw [hqueue]
    exact List.mem_of_find?_eq_some hv
  have helse := mergedAt_elsewhere (i := v.slot) hs1 hv1 hst.1
  have hall := decideAll_spec (Y := expiredVerdict) (f := fun t x => decideOffline x t) decideExpired_decides hv1 (mergedAt_nodup hs1) helse
    (good := fun m => m.token = v.token) (Q := fun z => y = .ADMIT → z = .REFUSE .PASSBACK 0#8) (fun t m hm hin hk hadmit => by
      have hback := (hin (hy ▸ hadmit)).passback (Ne.symm (helse m hm)) ((cacheFind t.active.a t.gates v.token).bind CacheEntry.lastAdmitted)
      rw [← hk] at hback
      exact (expiredVerdict_cases t m).1 hback)
  have hfirst : ∀ h : y = .ADMIT, cacheFind s.active.a t.gates v.token =
      some (provisionalEntry v.token v.cls (cacheFind s.active.a s.gates v.token)) := by
    intro h
    have hadmit : expiredVerdict a v = .ADMIT := hy ▸ h
    have hfound := decideOffline_find hv1 hadmit
    have hstart := (decideExpired_decides a v).starts hadmit ⟨v, hv1, rfl, rfl⟩
    have hsame : (decideOffline v a).active.a = s.active.a := by rw [(decideOffline_work v a).active, hactive]
    rw [hactive, hcache, ← hsame] at hfound
    have hfold := foldl_offline_find helse hstart hfound
    rw [hsame] at hfold
    rw [ht]
    exact hfold
  rw [← ht, ← hy, hwin] at hall
  obtain ⟨hhere, hflight, hwindows, hmerged⟩ := hall
  refine ⟨hhere, fun h => ⟨hflight h, hfirst h⟩, fun hnone => hwindows ?_, fun m hm hw hk => hmerged m (mem_mergedAt.mpr ⟨?_, hw⟩) hk⟩
  · refine List.eq_nil_iff_forall_not_mem.mpr fun m hm => ?_
    obtain ⟨hin, hw⟩ := mem_mergedAt.mp hm
    rw [hqueue] at hin
    exact hnone m hin hw
  · rw [hqueue]
    exact hm

theorem classAdmits_iff (a : GroupA) (cls : Nat) : classAdmits a cls = true ↔ ∃ c : Fin 16, c.val = cls ∧ a.classPolicy.get c = 0#8 := by
  unfold classAdmits
  by_cases h : cls < 16
  · have hget : a.classPolicy.toList[cls]? = some (a.classPolicy.get ⟨cls, h⟩) := by
      rw [List.getElem?_eq_getElem (by rw [Vector.length_toList]; exact h)]
      rfl
    rw [hget]
    unfold yes
    simp only [Bool.not_eq_true', bne_eq_false_iff_eq]
    exact ⟨fun hz => ⟨⟨cls, h⟩, rfl, hz⟩, fun ⟨c, hc, hz⟩ => by subst hc; exact hz⟩
  · have hget : a.classPolicy.toList[cls]? = none := by
      rw [List.getElem?_eq_none_iff, Vector.length_toList]
      omega
    rw [hget]
    exact ⟨fun hf => absurd hf Bool.false_ne_true, fun ⟨c, hc, _⟩ => absurd (hc ▸ c.isLt) h⟩

theorem react_gates (f : State → State) (s : State) : (react f s).gates = (f s).gates := by
  obtain ⟨l, h⟩ := react_eq f s
  rw [h]

theorem react_trip (f : State → State) (s : State) : (react f s).trip = (f s).trip := by
  obtain ⟨l, h⟩ := react_eq f s
  rw [h]

/-- Settles O43: an answer and a deadline decide the entry that asks, and behind it those that wait for it. -/
theorem fareAnswersAndDeadlinesDecide : Obligations.FareAnswersAndDeadlinesDecide := by
  refine ⟨fun hdr p e s hacc => ?_, fun i s hr => ?_⟩
  · intro a admits filled asks decided
    have hfilled : filled = answeredEntry (heardOn hdr.port s) p := (answeredEntry_eq (heardOn hdr.port s) p).symm
    clear_value filled
    have hexec : exec (.fareAnswer hdr p) s = .next (settle (react (takeFareAnswer p) (heardOn hdr.port s))) := running_receive hacc
    obtain ⟨hrest, hcache, hwork⟩ := takeFareAnswer_spec p (heardOn hdr.port s)
    have hgates := react_gates (takeFareAnswer p) (heardOn hdr.port s)
    have htrip : (react (takeFareAnswer p) (heardOn hdr.port s)).trip = s.trip := (react_trip ..).trans (hwork.trip.trans rfl)
    refine ⟨_, hexec, ?_, ?_, htrip, fun hnone => ?_, fun hs v hv hasks hone => ?_⟩
    · rw [settle_rest, react_rest, hrest]
    · rw [hgates, hfilled]
      exact hcache
    · rw [hgates, takeFareAnswer_alone (s := heardOn hdr.port s) hnone]
      exact ⟨answered_queue p (heardOn hdr.port s), answered_windows p (heardOn hdr.port s)⟩
    · obtain ⟨hhere, hflight, hwindows, hmerged⟩ := takeFareAnswer_decides (s := heardOn hdr.port s) hs hv hasks hone
      obtain ⟨hrefused, hnorides, hback, hadmit, hfull⟩ := answerVerdict_first p (heardOn hdr.port s) v
      intro inFlight recent room waits gets
      have hgets : ∀ y, answerVerdict p (heardOn hdr.port s) (answered p (heardOn hdr.port s)) v = y → gets y := by
        rintro y hy
        rw [hy] at hhere hflight hwindows hmerged
        refine ⟨fun x hx hi => ?_, fun hy => ?_, ?_, fun m hm hw _ x hx hi => ?_⟩
        · rw [hgates] at hx
          obtain ⟨hdec, z, hz, rfl⟩ := hhere x hx hi
          exact ⟨hdec, hz⟩
        · rw [hgates]
          obtain ⟨x, hx, hi, -⟩ := (hflight hy).here
          exact ⟨x, hx, hi⟩
        · rw [hgates]
          exact hwindows
        · rw [hgates] at hx
          obtain ⟨hdec, z, hz, h1, h2, h3⟩ := hmerged m hm hw x hx hi
          exact ⟨hdec, fun ha => hz.trans (congrArg some (h1 ha)), fun ha h0 => hz.trans (congrArg some (h2 ha h0)),
            fun ha h0 hy => hz.trans (congrArg some (h3 ha h0 hy))⟩
      have hbarred : passback (answered p (heardOn hdr.port s)) v.slot p.token (answeredEntry (heardOn hdr.port s) p).lastAdmitted = true ↔
          inFlight ∨ recent := by
        rw [answered_passback, ← hfilled, ← hasks.2.2]
        rfl
      have hroom : 0 < haltBudget (answered p (heardOn hdr.port s)) v.halt ↔ room := answered_room
      exact ⟨fun ha => hgets _ (hrefused ha), fun ha h0 => hgets _ (hnorides ha h0), fun ha h0 hb => hgets _ (hback ha h0 (hbarred.mpr hb)),
        fun ha h0 hb hr => hgets _ (hadmit ha h0 (mt hbarred.mp hb) (hroom.mpr hr)),
        fun ha h0 hb hr => hgets _ (hfull ha h0 (mt hbarred.mp hb) (mt hroom.mp hr))⟩
  · intro n expires decided
    refine ⟨fun hnone hq => event_idle hr hq (fareDeadlineExpires_idle hnone), fun hex => ?_⟩
    obtain ⟨v, hv, hst⟩ := hex
    have hfold := foldl_offline_kept (v :: mergedAt i (timedOut s)) (timedOut s)
    rw [← fareDeadlineExpires_expired hv hst] at hfold
    obtain ⟨hrest, hwork⟩ := hfold
    have hgates := react_gates (fareDeadlineExpires i) s
    obtain ⟨l, hu⟩ := react_eq (fareDeadlineExpires i) s
    refine ⟨_, event_eq hr, ?_, fun hn hl => ?_, ?_, fun hs v' hv' => ?_⟩
    · rw [settle_rest, react_rest, hrest, timedOut_rest]
    · rw [hu]
      exact hwork.pending _ (timedOut_noticed hn hl)
    · rw [hu]
      exact hwork.trip.trans (timedOut_work s).trip
    · cases hv.symm.trans hv'
      obtain ⟨hhere, hflight, hwindows, hmerged⟩ := fareDeadlineExpires_decides hs hv hst
      obtain ⟨hback, hoffline, hadmit, hfull⟩ := expiredVerdict_cases (timedOut s) v
      intro found inFlight recent offline room waits gets
      have hgets : ∀ y, expiredVerdict (timedOut s) v = y → gets y := by
        rintro y hy
        rw [hy] at hhere hflight hwindows hmerged
        refine ⟨fun x hx hi => ?_, fun hy => ⟨?_, ?_⟩, ?_, fun m hm hw hk x hx hi => ?_⟩
        · rw [hgates] at hx
          obtain ⟨hdec, z, hz, rfl⟩ := hhere x hx hi
          exact ⟨hdec, hz⟩
        · rw [hgates]
          obtain ⟨x, hx, hi, -⟩ := (hflight hy).1.here
          exact ⟨x, hx, hi⟩
        · rw [hgates, (hflight hy).2]
          change some (provisionalEntry _ _ found) = _
          cases found <;> rfl
        · rw [hgates]
          exact hwindows
        · rw [hgates] at hx
          obtain ⟨hdec, z, hz, h1⟩ := hmerged m hm hw hk x hx hi
          exact ⟨hdec, fun hy => hz.trans (congrArg some (h1 hy))⟩
      have hbarred : passback (timedOut s) v.slot v.token
          ((cacheFind (timedOut s).active.a (timedOut s).gates v.token).bind CacheEntry.lastAdmitted) = true ↔ inFlight ∨ recent := by
        obtain ⟨p, w, b, hframe⟩ := timedOut_frame s
        rw [passback_iff, hframe, entryAt_slot hv]
        rfl
      have hclass : classAdmits (timedOut s).active.a v.cls = true ↔ offline := by
        rw [classAdmits_iff, (timedOut_work s).active]
      have hroom : 0 < haltBudget (timedOut s) v.halt ↔ room := by
        obtain ⟨p, w, b, hframe⟩ := timedOut_frame s
        rw [haltBudget_pos_iff, hframe]
      exact ⟨fun hb => hgets _ (hback (hbarred.mpr hb)), fun hb hc => hgets _ (hoffline (mt hbarred.mp hb) (mt hclass.mp hc)),
        fun hb hc hr => hgets _ (hadmit (mt hbarred.mp hb) (hclass.mpr hc) (hroom.mpr hr)),
        fun hb hc hr => hgets _ (hfull (mt hbarred.mp hb) (hclass.mpr hc) (mt hroom.mp hr))⟩

end Sys2Proof.Machine
end

section
/-!
PROOFS. Gate requests (R147 to R151, R153): the statement O42.
-/

namespace Sys2Proof.Machine

/-! ## A decided entry that is new in the queue (R150, R151) -/

/-- The verdict `y` by `b` on an entry `v` behind the queue of `s`, offered for delivery: what `t` has of it. -/
structure Offered (v : VEntry) (y : Verdict) (b : DecidedBy) (s t : State) : Prop where
  here : DecidedAt v.slot b (· = y) t
  windows : t.gates.windows =
    if y = .ADMIT then vmod s.gates.windows v.halt (Option.map fun w => { w with reserved := w.reserved + 1 }) else s.gates.windows
  place : y = .ADMIT → ∃ x ∈ t.gates.queue, x.slot = v.slot
  blocked : y = .ADMIT → (∃ x ∈ s.gates.queue, x.gate = v.gate ∧ x.state = .WAIT_PASS) →
    t.gates.queue = s.gates.queue ++ [settledEntry y b v]
  admitted : y = .ADMIT → (∀ x ∈ s.gates.queue, x.gate ≠ v.gate) →
    t.gates.queue = s.gates.queue ++ [{ settledEntry y b v with state := .WAIT_PASS, deadline := some (passDeadline s v.gate) }] ∧
    ∀ t', StationWork t t' → Waits t' (gateNode s.active.b v.gate) s.mgmt.ownAddress (.gateAdmitOne v.number)
  refused : ∀ r sr, y = .REFUSE r sr → (∀ x ∈ s.gates.queue, x.gate ≠ v.gate) →
    t.gates.queue = s.gates.queue ∧
    ∀ t', StationWork t t' → Waits t' (gateNode s.active.b v.gate) s.mgmt.ownAddress (.gateRefuse v.number r sr)

section
variable {v : VEntry} {y : Verdict} {b : DecidedBy} {s t : State}

theorem map_last (f : VEntry → VEntry) {q : List VEntry} (hfree : ∀ x ∈ q, x.slot ≠ v.slot) :
    (q ++ [v]).map (fun x => if x.slot == v.slot then f x else x) = q ++ [f v] := by
  rw [List.map_append, List.map_singleton, if_pos (beq_self_eq_true _)]
  refine congrArg (· ++ [f v]) ((List.map_congr_left fun x hx => ?_).trans (List.map_id q))
  exact if_neg fun h => hfree x hx (beq_iff_eq.mp h)

/-- Changing the entry behind a queue that leaves its place free. -/
theorem modEntry_last (f : VEntry → VEntry) {q : List VEntry} (hfree : ∀ x ∈ q, x.slot ≠ v.slot) {u : GateUnit} (hu : u.queue = q ++ [v]) :
    (modEntry v.slot f u).queue = q ++ [f v] := by
  unfold modEntry
  dsimp only
  rw [hu, map_last f hfree]

theorem freeEntry_last {q : List VEntry} (hfree : ∀ x ∈ q, x.slot ≠ v.slot) {u : GateUnit} (hu : u.queue = q ++ [v]) :
    (freeEntry v u).queue = q := by
  rw [freeEntry_queue, hu, List.filter_append, List.filter_eq_self.mpr fun x hx => bne_iff_ne.mpr (hfree x hx)]
  rw [List.filter_cons_of_neg (by rw [bne_self_eq_false]; exact Bool.false_ne_true), List.filter_nil, List.append_nil]

theorem offered_deliver (hfree : ∀ x ∈ s.gates.queue, x.slot ≠ v.slot) (hqueue : t.gates.queue = s.gates.queue ++ [settledEntry y b v])
    (hwin : t.gates.windows = if y = .ADMIT then vmod s.gates.windows v.halt (Option.map fun w => { w with reserved := w.reserved + 1 })
      else s.gates.windows) (hactive : t.active = s.active) (hmgmt : t.mgmt = s.mgmt) : Offered v y b s (deliver v.gate t) := by
  have hplace : ∀ x ∈ t.gates.queue, x.slot = v.slot → x = settledEntry y b v := by
    intro x hx hi
    rw [hqueue] at hx
    exact (List.mem_append.mp hx).elim (fun h => absurd hi (hfree x h)) List.mem_singleton.mp
  have hadmit : y = .ADMIT → (∀ x ∈ s.gates.queue, x.gate ≠ v.gate) → deliver v.gate t =
      modGates (modEntry v.slot fun x => { x with state := .WAIT_PASS, deadline := some (passDeadline t v.gate) })
        (sendGate v.gate (.gateAdmitOne v.number) t) :=
    fun hy ha => deliver_alone_admit (v := settledEntry y b v) hqueue ha rfl (congrArg some hy)
  have hrefuse : ∀ {r sr}, y = .REFUSE r sr → (∀ x ∈ s.gates.queue, x.gate ≠ v.gate) → deliver v.gate t =
      modGates (freeEntry (settledEntry y b v)) (sendRefusal v.gate v.number r sr t) :=
    fun hy ha => deliver_alone_refuse (v := settledEntry y b v) hqueue ha rfl (congrArg some hy)
  refine ⟨deliver_decidedAt fun x hx hi => ?_, (deliver_windows ..).trans hwin, fun hy => ?_, fun hy hb => ?_, fun hy ha => ⟨?_, fun t' ht => ?_⟩,
    fun r sr hy ha => ⟨?_, fun t' ht => ?_⟩⟩
  · rw [hplace x hx hi]
    exact ⟨⟨.inl rfl, rfl, rfl, rfl⟩, y, rfl, rfl⟩
  · refine deliver_admitted (fun x hx hi => ?_) ⟨settledEntry y b v, ?_, rfl⟩
    · rw [hplace x hx hi]
      exact congrArg some hy
    · rw [hqueue]
      exact List.mem_append_right _ (List.mem_singleton_self _)
  · obtain ⟨x, hx, hg, hst⟩ := hb
    rw [deliver_blocked ⟨x, hqueue ▸ List.mem_append_left _ hx, hg, hst⟩, hqueue]
  · obtain ⟨p, hp⟩ := sendGate_fields v.gate (.gateAdmitOne v.number) t
    have hpass : passDeadline t v.gate = passDeadline s v.gate := by
      unfold passDeadline
      rw [hactive]
    rw [hadmit hy ha, modGates_gates, hp, ← hpass]
    exact modEntry_last (v := settledEntry y b v) _ hfree hqueue
  · rw [hadmit hy ha] at ht
    have hwaits := sendGate_waits (fun _ _ => rfl) ((work_modGates (.refl _)).trans ht)
    rwa [hactive, hmgmt] at hwaits
  · obtain ⟨p, hp⟩ := sendRefusal_fields v.gate v.number r sr t
    rw [hrefuse hy ha, modGates_gates, hp]
    exact freeEntry_last (v := settledEntry y b v) hfree hqueue
  · rw [hrefuse hy ha] at ht
    have hwaits := sendGate_waits (fun _ _ => rfl) ((work_modGates (work_modGates (.refl _))).trans ht)
    rwa [hactive, hmgmt] at hwaits

end

theorem Offered.later {v : VEntry} {y : Verdict} {b : DecidedBy} {s t u : State} (h : Offered v y b s t) (hw : StationWork t u)
    (hq : u.gates.queue = t.gates.queue) (hwin : u.gates.windows = t.gates.windows) : Offered v y b s u where
  here x hx := h.here x (hq ▸ hx)
  windows := hwin.trans h.windows
  place hy := hq ▸ h.place hy
  blocked hy hb := hq.trans (h.blocked hy hb)
  admitted hy ha := ⟨hq.trans (h.admitted hy ha).1, fun t' ht => (h.admitted hy ha).2 t' (hw.trans ht)⟩
  refused r sr hy ha := ⟨hq.trans (h.refused r sr hy ha).1, fun t' ht => (h.refused r sr hy ha).2 t' (hw.trans ht)⟩

/-! ## A new entry (R147, case 6) -/

theorem cacheTouch_frame (a : GroupA) (t : Token) (g : GateUnit) : ∃ b0 b1, cacheTouch a t g = { g with bank0 := b0, bank1 := b1 } := by
  unfold cacheTouch
  split
  · exact setBankFor_frame ..
  · exact ⟨_, _, rfl⟩

/-- The state with a new entry behind its queue, the cache entry of its token the most recently used. -/
def entered (v : VEntry) (s : State) : State :=
  modGates (fun u => cacheTouch s.active.a v.token { u with queue := u.queue ++ [v] }) s

theorem entered_frame (v : VEntry) (s : State) : ∃ b0 b1, entered v s =
    { s with gates := { s.gates with queue := s.gates.queue ++ [v], bank0 := b0, bank1 := b1 } } := by
  obtain ⟨b0, b1, h⟩ := cacheTouch_frame s.active.a v.token { s.gates with queue := s.gates.queue ++ [v] }
  refine ⟨b0, b1, ?_⟩
  unfold entered modGates
  dsimp only
  rw [h]

theorem entered_find (v : VEntry) (s : State) :
    cacheFind s.active.a (entered v s).gates v.token = cacheFind s.active.a s.gates v.token := by
  unfold entered
  rw [modGates_gates, cacheTouch_find]
  rfl

theorem entered_queue (v : VEntry) (s : State) : (entered v s).gates.queue = s.gates.queue ++ [v] := by
  obtain ⟨b0, b1, h⟩ := entered_frame v s
  rw [h]

theorem entered_windows (v : VEntry) (s : State) : (entered v s).gates.windows = s.gates.windows := by
  obtain ⟨b0, b1, h⟩ := entered_frame v s
  rw [h]

theorem entered_rest (v : VEntry) (s : State) : (entered v s).rest = s.rest := by
  obtain ⟨b0, b1, h⟩ := entered_frame v s
  rw [h]
  rfl

theorem entered_work (v : VEntry) (s : State) : StationWork s (entered v s) := work_modGates (.refl s)

/-- The own entry of a decision is not in flight for it. -/
theorem entered_passback (v : VEntry) (s : State) (t : Token) (last : Option Nat) :
    passback (entered v s) v.slot t last = passback s v.slot t last := by
  obtain ⟨b0, b1, h⟩ := entered_frame v s
  unfold passback
  rw [h]
  dsimp only
  rw [List.any_append, List.any_cons, List.any_nil, bne_self_eq_false, Bool.false_and, Bool.false_and, Bool.or_false, Bool.or_false]
  rfl

theorem budgetVerdict_roomy {s : State} {h : Halt} (hr : 0 < haltBudget s h) (x : Verdict) : budgetVerdict s h x = x := by
  cases x with
  | ADMIT => exact if_pos hr
  | REFUSE r sr => rfl

section
variable {v : VEntry} {s : State}

theorem entered_verdict (hr : 0 < haltBudget s v.halt) (x : Verdict) : budgetVerdict (entered v s) v.halt x = x := by
  refine budgetVerdict_roomy ?_ x
  rw [haltBudget_pos_iff] at hr ⊢
  rw [entered_windows]
  exact hr

/-- The verdict on a new entry, before its delivery. -/
theorem entered_taken (hfree : ∀ x ∈ s.gates.queue, x.slot ≠ v.slot) (hr : 0 < haltBudget s v.halt) (y : Verdict) (b : DecidedBy) :
    let t := takeVerdict v y b (entered v s)
    t.gates.queue = s.gates.queue ++ [settledEntry y b v] ∧
      (t.gates.windows = if y = .ADMIT then vmod s.gates.windows v.halt (Option.map fun w => { w with reserved := w.reserved + 1 })
        else s.gates.windows) ∧ t.active = s.active ∧ t.mgmt = s.mgmt := by
  intro t
  refine ⟨?_, ?_, ?_, ?_⟩
  · change (takeVerdict v y b (entered v s)).gates.queue = _
    rw [takeVerdict_queue, entered_verdict hr, entered_queue, map_last _ hfree]
  · change (takeVerdict v y b (entered v s)).gates.windows = _
    rw [takeVerdict_windows, entered_verdict hr, entered_windows]
  · obtain ⟨q, w, h⟩ := takeVerdict_frame v y b (entered v s)
    obtain ⟨b0, b1, he⟩ := entered_frame v s
    change (takeVerdict v y b (entered v s)).active = _
    rw [h, he]
  · obtain ⟨q, w, h⟩ := takeVerdict_frame v y b (entered v s)
    obtain ⟨b0, b1, he⟩ := entered_frame v s
    change (takeVerdict v y b (entered v s)).mgmt = _
    rw [h, he]

theorem decideHit_offered (hfree : ∀ x ∈ s.gates.queue, x.slot ≠ v.slot) (hr : 0 < haltBudget s v.halt) (e : CacheEntry) (b : DecidedBy) :
    Offered v (hitVerdict (entered v s) v.slot e) b s (decideHit v e b (entered v s)) := by
  obtain ⟨hq, hw, ha, hm⟩ := entered_taken hfree hr (hitVerdict (entered v s) v.slot e) b
  unfold decideHit
  exact offered_deliver hfree hq hw ha hm

theorem decideOffline_offered (hfree : ∀ x ∈ s.gates.queue, x.slot ≠ v.slot) (hr : 0 < haltBudget s v.halt) :
    Offered v (offlineVerdict (entered v s) v) .OFFLINE s (decideOffline v (entered v s)) := by
  obtain ⟨hq, hw, ha, hm⟩ := entered_taken hfree hr (offlineVerdict (entered v s) v) .OFFLINE
  unfold decideOffline
  dsimp only
  obtain ⟨t, ht⟩ : ∃ t, t = takeVerdict v (offlineVerdict (entered v s) v) .OFFLINE (entered v s) := ⟨_, rfl⟩
  rw [← ht] at hq hw ha hm ⊢
  split
  · obtain ⟨b0, b1, h⟩ := markProvisional_frame (entered v s).active.a v.token v.cls t.gates
    refine offered_deliver hfree ?_ ?_ ((modGates_active ..).trans ha) ((modGates_mgmt ..).trans hm)
    · rw [modGates_gates, h]
      exact hq
    · rw [modGates_gates, h]
      exact hw
  · exact offered_deliver hfree hq hw ha hm

/-- The verdict of a hit in the words of R148. -/
theorem entered_hitVerdict {e : CacheEntry} (he : e.token = v.token) : hitVerdict (entered v s) v.slot e =
    match e.verdict with
    | .REFUSE r sr => .REFUSE r sr
    | .ADMIT => if e.rides = some 0 then .REFUSE .NO_RIDES 0#8
      else if passback s v.slot v.token e.lastAdmitted = true then .REFUSE .PASSBACK 0#8 else .ADMIT := by
  unfold hitVerdict
  rw [entered_passback, he] <;> rfl

theorem entered_offlineVerdict : offlineVerdict (entered v s) v =
    if passback s v.slot v.token ((cacheFind s.active.a s.gates v.token).bind CacheEntry.lastAdmitted) = true then .REFUSE .PASSBACK 0#8
    else if classAdmits s.active.a v.cls = true then .ADMIT else .REFUSE .OFFLINE 0#8 := by
  have hactive : (entered v s).active = s.active := by
    obtain ⟨b0, b1, h⟩ := entered_frame v s
    rw [h]
  unfold offlineVerdict
  rw [entered_passback, hactive, entered_find]

end

/-! ## Queries (R149, R153) -/

theorem sendQuery_frame (v : VEntry) (s : State) : ∃ p, sendQuery v s =
    { s with ports := p, gates := { s.gates with queryCounter := s.gates.queryCounter + 1#16 } } := by
  obtain ⟨p, h⟩ := sendNormal_fields .FARE_SERVER (.fareQuery (s.gates.queryCounter + 1#16) v.token v.cls v.halt v.gate)
    (modGates (fun u => { u with queryCounter := s.gates.queryCounter + 1#16 }) s)
  exact ⟨p, h⟩

theorem sendQuery_rest (v : VEntry) (s : State) :
    (sendQuery v s).rest = { s.rest with queryCounter := s.gates.queryCounter + 1#16 } := by
  unfold sendQuery
  dsimp only
  rw [sendNormal_rest]
  rfl

theorem sendQuery_work (v : VEntry) (s : State) : StationWork s (sendQuery v s) :=
  work_sendNormal (fun _ _ => rfl) (work_modGates (.refl s))

theorem sendQuery_waits {v : VEntry} {s t : State} (h : StationWork (sendQuery v s) t) :
    Waits t (firstRole s.active.b .FARE_SERVER) s.mgmt.ownAddress
      (.fareQuery (s.gates.queryCounter + 1#16) v.token v.cls v.halt v.gate) := by
  have hw := sendNormal_waits (s := modGates (fun u => { u with queryCounter := s.gates.queryCounter + 1#16 }) s) (fun _ _ => rfl) h
  exact hw

/-! ## The cases of a request (R147) -/

/-- The entry of a request, as it enters the queue in place `i`. -/
def requestEntry (a : GroupA) (g : GateId) (p : GateRequestP) (i : SlotId) : VEntry :=
  ⟨i, .ASKING, g, gateHalt a g, p.token, codeAt 15 p.cls, p.number, none, none, none, none, none⟩

section
variable {g : GateId} {p : GateRequestP} {i : SlotId} {s : State}

theorem admitRequest_hit {e : CacheEntry} (he : cacheFind s.active.a s.gates p.token = some e)
    (hhit : cacheHit (codeAt 15 p.cls) s.localTime e = true) : admitRequest g p i s =
      decideHit (requestEntry s.active.a g p i) e .LOCAL (entered (requestEntry s.active.a g p i) s) := by
  unfold admitRequest
  dsimp only
  rw [he]
  exact if_pos hhit

theorem admitRequest_miss (h : ∀ e, cacheFind s.active.a s.gates p.token = some e → cacheHit (codeAt 15 p.cls) s.localTime e = false) :
    admitRequest g p i s = handleMiss (requestEntry s.active.a g p i) (entered (requestEntry s.active.a g p i) s) := by
  unfold admitRequest
  dsimp only
  rcases he : cacheFind s.active.a s.gates p.token with - | e
  · rfl
  · exact if_neg (by rw [h e he]; exact Bool.false_ne_true)

theorem takeGateRequest_exit (h : gateIsExit s.active.a g = true) : takeGateRequest g p s = sendRefusal g p.number .CLOSED 0#8 s := if_pos h

theorem twice_iff : (s.gates.queue.any fun v => (v.gate == g) && (v.number == p.number)) = true ↔
    ∃ v ∈ s.gates.queue, v.gate = g ∧ v.number = p.number := by
  simp only [List.any_eq_true, Bool.and_eq_true, beq_iff_eq]

theorem ahead_iff : (s.gates.queue.any fun v => (v.gate == g) && undelivered v) = true ↔
    ∃ v ∈ s.gates.queue, v.gate = g ∧ v.state ≠ .WAIT_PASS := by
  have hun : ∀ v : VEntry, undelivered v = true ↔ v.state ≠ .WAIT_PASS := fun v => by
    unfold undelivered
    cases v.state <;> decide
  simp only [List.any_eq_true, Bool.and_eq_true, beq_iff_eq, hun]

theorem takeGateRequest_twice (hx : ¬ gateIsExit s.active.a g = true) (h : ∃ v ∈ s.gates.queue, v.gate = g ∧ v.number = p.number) :
    takeGateRequest g p s = s := by
  unfold takeGateRequest
  dsimp only
  rw [if_neg hx, if_pos (twice_iff.mpr h)]

/-- A request that is not refused by its gate's place in the queue. -/
theorem takeGateRequest_new (hx : ¬ gateIsExit s.active.a g = true) (h : ¬ ∃ v ∈ s.gates.queue, v.gate = g ∧ v.number = p.number) :
    takeGateRequest g p s =
      if (s.gates.records.get g).fault then refuseRequest g p .GATE_FAULT s
      else if !windowOpen s (gateHalt s.active.a g) then refuseRequest g p .CLOSED s
      else if haltBudget s (gateHalt s.active.a g) = 0 then refuseRequest g p .FULL s
      else match freeSlot s.gates with
        | none => refuseRequest g p .BUSY (occur .QUEUE_FULL s)
        | some i => admitRequest g p i s := by
  unfold takeGateRequest
  dsimp only
  rw [if_neg hx, if_neg (mt twice_iff.mp h)] <;> rfl

theorem refuseRequest_now {r : GateReason} (h : ¬ ∃ v ∈ s.gates.queue, v.gate = g ∧ v.state ≠ .WAIT_PASS) :
    refuseRequest g p r s = sendRefusal g p.number r 0#8 s := if_neg (mt ahead_iff.mp h)

theorem refuseRequest_discarded {r : GateReason} (h : ∃ v ∈ s.gates.queue, v.gate = g ∧ v.state ≠ .WAIT_PASS)
    (hf : freeSlot s.gates = none) : refuseRequest g p r s = s := by
  unfold refuseRequest
  rw [if_pos (ahead_iff.mpr h), hf]

theorem refuseRequest_behind {r : GateReason} (h : ∃ v ∈ s.gates.queue, v.gate = g ∧ v.state ≠ .WAIT_PASS)
    (hf : freeSlot s.gates = some i) : refuseRequest g p r s = modGates (fun u => { u with queue := u.queue ++
      [{ requestEntry s.active.a g p i with state := .WAIT_GATE, verdict := some (.REFUSE r 0#8) }] }) s := by
  unfold refuseRequest
  rw [if_pos (ahead_iff.mpr h), hf]
  rfl

end

/-- Whether the window of a halt is open, and with what room (R143). -/
theorem windowOpen_iff (s : State) (x : Halt) : windowOpen s x = true ↔ ¬ ∀ w, s.gates.windows.get x = some w → w.isOpen = false := by
  unfold windowOpen
  rcases s.gates.windows.get x with - | w
  · exact ⟨fun h => absurd h Bool.false_ne_true, fun h => absurd nofun h⟩
  · constructor
    · intro h hall
      exact Bool.false_ne_true ((hall w rfl).symm.trans h)
    · intro h
      by_contra hc
      exact h fun w' hw => by cases hw; exact Bool.eq_false_iff.mpr hc

theorem haltBudget_open_iff {s : State} {x : Halt} (h : windowOpen s x = true) :
    haltBudget s x ≠ 0 ↔ ∃ w, s.gates.windows.get x = some w ∧ w.isOpen = true ∧ 0 < windowBudget w := by
  unfold windowOpen at h
  unfold haltBudget
  rcases hw : s.gates.windows.get x with - | w <;> rw [hw] at h
  · exact absurd h Bool.false_ne_true
  · exact ⟨fun hb => ⟨w, rfl, h, Nat.pos_of_ne_zero hb⟩, fun ⟨w', hw, _, hb⟩ => by cases hw; exact hb.ne'⟩

theorem freeSlot_free {u : GateUnit} {i : SlotId} (h : freeSlot u = some i) : ∀ x ∈ u.queue, x.slot ≠ i := by
  intro x hx hi
  have hfree := List.find?_some h
  rw [Bool.not_eq_true', List.any_eq_false] at hfree
  exact hfree x hx (beq_iff_eq.mpr hi)

section
variable {g : GateId} {p : GateRequestP} {s : State} (hx : ¬ gateIsExit s.active.a g = true)
  (ht : ¬ ∃ v ∈ s.gates.queue, v.gate = g ∧ v.number = p.number)
include hx ht

/-- The refusals without a decision, in their order. -/
theorem takeGateRequest_refused {r : GateReason} : let x := gateHalt s.active.a g
    let faulty := (s.gates.records.get g).fault = true
    let room : Prop := ∃ w, s.gates.windows.get x = some w ∧ w.isOpen = true ∧ 0 < windowBudget w
    let shut : Prop := ∀ w, s.gates.windows.get x = some w → w.isOpen = false
    (r = .GATE_FAULT ∧ faulty) ∨ (r = .CLOSED ∧ ¬ faulty ∧ shut) ∨ (r = .FULL ∧ ¬ faulty ∧ ¬ shut ∧ ¬ room) →
    takeGateRequest g p s = refuseRequest g p r s := by
  intro x faulty room shut hr
  rw [takeGateRequest_new hx ht]
  rcases hr with ⟨rfl, hf⟩ | ⟨rfl, hf, hsh⟩ | ⟨rfl, hf, hsh, hro⟩
  · exact if_pos hf
  · have hopen : ¬ windowOpen s x = true := fun h => (windowOpen_iff s x).mp h hsh
    rw [if_neg hf, if_pos (by rw [Bool.not_eq_true', Bool.eq_false_iff]; exact hopen)]
  · have hopen : windowOpen s x = true := (windowOpen_iff s x).mpr hsh
    have hbudget : haltBudget s x = 0 := by_contra fun h => hro ((haltBudget_open_iff hopen).mp h)
    rw [if_neg hf, if_neg (by rw [hopen]; exact Bool.false_ne_true), if_pos hbudget]

/-- A request that finds room is taken where the queue has a free place. -/
theorem takeGateRequest_roomy (hf : ¬ (s.gates.records.get g).fault = true)
    (hr : ∃ w, s.gates.windows.get (gateHalt s.active.a g) = some w ∧ w.isOpen = true ∧ 0 < windowBudget w) :
    0 < haltBudget s (gateHalt s.active.a g) ∧
    (freeSlot s.gates = none → takeGateRequest g p s = refuseRequest g p .BUSY (occur .QUEUE_FULL s)) ∧
    ∀ i, freeSlot s.gates = some i → takeGateRequest g p s = admitRequest g p i s := by
  have hopen : windowOpen s (gateHalt s.active.a g) = true := by
    obtain ⟨w, hw, ho, -⟩ := hr
    rw [windowOpen_iff]
    exact fun h => Bool.false_ne_true ((h w hw).symm.trans ho)
  have hbudget := (haltBudget_open_iff hopen).mpr hr
  have hnew : takeGateRequest g p s = match freeSlot s.gates with
      | none => refuseRequest g p .BUSY (occur .QUEUE_FULL s)
      | some i => admitRequest g p i s := by
    rw [takeGateRequest_new hx ht, if_neg hf, if_neg (by rw [hopen]; exact Bool.false_ne_true), if_neg hbudget]
  refine ⟨Nat.pos_of_ne_zero hbudget, fun h => ?_, fun i h => ?_⟩ <;> rw [hnew, h]

end

/-! ## Misses (R149) -/

section
variable {v : VEntry} {s : State}

theorem entered_lost (v : VEntry) (s : State) : (entered v s).gates.serverLost = s.gates.serverLost := by
  obtain ⟨b0, b1, h⟩ := entered_frame v s
  rw [h]

theorem entered_counter (v : VEntry) (s : State) : (entered v s).gates.queryCounter = s.gates.queryCounter := by
  obtain ⟨b0, b1, h⟩ := entered_frame v s
  rw [h]

/-- The entry that asks for the token of a new entry is one from before it. -/
theorem entered_asker (hfree : ∀ x ∈ s.gates.queue, x.slot ≠ v.slot) :
    ((entered v s).gates.queue.find? fun x => (x.slot != v.slot) && (x.state == .ASKING) && (x.token == v.token)) =
      s.gates.queue.find? fun x => (x.state == .ASKING) && (x.token == v.token) := by
  have hown : [v].find? (fun x => (x.slot != v.slot) && (x.state == .ASKING) && (x.token == v.token)) = none :=
    List.find?_eq_none.mpr fun x hx => by
      rw [List.mem_singleton.mp hx, bne_self_eq_false, Bool.false_and, Bool.false_and]
      exact Bool.false_ne_true
  rw [entered_queue, List.find?_append, hown, Option.or_none]
  have hsame : ∀ q : List VEntry, (∀ x ∈ q, x.slot ≠ v.slot) →
      q.find? (fun x => (x.slot != v.slot) && (x.state == .ASKING) && (x.token == v.token)) =
        q.find? fun x => (x.state == .ASKING) && (x.token == v.token) := by
    intro q hq
    induction q with
    | nil => rfl
    | cons x q ih =>
      simp only [List.find?_cons, bne_iff_ne.mpr (hq x List.mem_cons_self), Bool.true_and,
        ih fun z hz => hq z (List.mem_cons_of_mem _ hz)]
  exact hsame _ hfree

theorem handleMiss_lost (h : s.gates.serverLost = true) :
    handleMiss v (entered v s) = sendQuery v (decideOffline v (entered v s)) :=
  if_pos ((entered_lost v s).trans h)

theorem handleMiss_merged (h : s.gates.serverLost = false) (hfree : ∀ x ∈ s.gates.queue, x.slot ≠ v.slot) {x : VEntry}
    (hx : (s.gates.queue.find? fun x => (x.state == .ASKING) && (x.token == v.token)) = some x) :
    handleMiss v (entered v s) = modGates (modEntry v.slot fun e => { e with state := .MERGED, mergedTo := some x.slot }) (entered v s) := by
  unfold handleMiss
  rw [entered_lost, h, entered_asker hfree, hx]
  rfl

theorem handleMiss_asks (h : s.gates.serverLost = false) (hfree : ∀ x ∈ s.gates.queue, x.slot ≠ v.slot)
    (hx : (s.gates.queue.find? fun x => (x.state == .ASKING) && (x.token == v.token)) = none) :
    handleMiss v (entered v s) = modGates (modEntry v.slot fun e =>
      { e with state := .ASKING, query := some (s.gates.queryCounter + 1#16), deadline := some 300 }) (sendQuery v (entered v s)) := by
  obtain ⟨p, hp⟩ := sendQuery_frame v (entered v s)
  have hcounter : (sendQuery v (entered v s)).gates.queryCounter = s.gates.queryCounter + 1#16 := by
    rw [hp, ← entered_counter v s]
  unfold handleMiss
  rw [entered_lost, h, entered_asker hfree, hx, ← hcounter]
  rfl

end

theorem rest_counter {s t : State} (h : t.rest = s.rest) : t.gates.queryCounter = s.gates.queryCounter := congrArg Rest.queryCounter h

/-- What an offer leaves of the rest of the state, after the decision of a hit, or of a miss with the server lost (R149, R153). -/
theorem missLost_rest (v : VEntry) (s : State) :
    (sendQuery v (decideOffline v (entered v s))).rest = { s.rest with queryCounter := s.gates.queryCounter + 1#16 } := by
  have hrest : (decideOffline v (entered v s)).rest = s.rest := (decideOffline_rest ..).trans (entered_rest v s)
  have hcounter : (decideOffline v (entered v s)).gates.queryCounter = s.gates.queryCounter := rest_counter hrest
  rw [sendQuery_rest, hrest, hcounter]

theorem StationWork.ownAddress {s t : State} (h : StationWork s t) : t.mgmt.ownAddress = s.mgmt.ownAddress := by
  obtain ⟨w, hw⟩ := h.mgmt
  rw [hw]

/-- A miss with the server lost is decided offline, and asks all the same (R153). -/
theorem missLost_offered {v : VEntry} {s : State} (hfree : ∀ x ∈ s.gates.queue, x.slot ≠ v.slot) (hr : 0 < haltBudget s v.halt)
    (h : s.gates.serverLost = true) : let t := handleMiss v (entered v s)
    Offered v (offlineVerdict (entered v s) v) .OFFLINE s t ∧ t.rest = { s.rest with queryCounter := s.gates.queryCounter + 1#16 } ∧
      ∀ u, StationWork t u → Waits u (firstRole s.active.b .FARE_SERVER) s.mgmt.ownAddress
        (.fareQuery (s.gates.queryCounter + 1#16) v.token v.cls v.halt v.gate) := by
  intro t
  have ht : t = sendQuery v (decideOffline v (entered v s)) := handleMiss_lost h
  clear_value t
  have ho := decideOffline_offered hfree hr
  have hrest := missLost_rest v s
  have hwork : StationWork s (decideOffline v (entered v s)) := (entered_work v s).trans (decideOffline_work ..)
  have hcounter := rest_counter ((decideOffline_rest v (entered v s)).trans (entered_rest v s))
  obtain ⟨d, hd⟩ : ∃ d, d = decideOffline v (entered v s) := ⟨_, rfl⟩
  rw [← hd] at ht ho hrest hwork hcounter
  obtain ⟨p, hp⟩ := sendQuery_frame v d
  have hsend := sendQuery_work v d
  refine ⟨?_, ?_, fun u hu => ?_⟩
  · rw [ht]
    exact ho.later hsend (by rw [hp]) (by rw [hp])
  · rw [ht, hrest]
  · rw [ht] at hu
    have hw := sendQuery_waits hu
    rwa [hwork.active, hwork.ownAddress, hcounter] at hw

theorem modEntry_windows (i : SlotId) (f : VEntry → VEntry) (u : GateUnit) : (modEntry i f u).windows = u.windows := rfl

theorem modEntry_rest (i : SlotId) (f : VEntry → VEntry) (s : State) : (modGates (modEntry i f) s).rest = s.rest := rfl

/-- A miss whose token is asked for already waits for that answer (R149). -/
theorem missMerged_spec {v x : VEntry} {s : State} (hfree : ∀ x ∈ s.gates.queue, x.slot ≠ v.slot) (h : s.gates.serverLost = false)
    (hx : (s.gates.queue.find? fun x => (x.state == .ASKING) && (x.token == v.token)) = some x) : let t := handleMiss v (entered v s)
    t.gates.queue = s.gates.queue ++ [{ v with state := .MERGED, mergedTo := some x.slot }] ∧ t.gates.windows = s.gates.windows ∧
      t.rest = s.rest := by
  intro t
  have ht : t = _ := handleMiss_merged h hfree hx
  rw [ht]
  refine ⟨?_, ?_, ?_⟩
  · rw [modGates_gates]
    exact modEntry_last _ hfree (entered_queue v s)
  · rw [modGates_gates, modEntry_windows, entered_windows]
  · rw [modEntry_rest, entered_rest]

/-- A miss that no entry asks for asks under the next query number (R149). -/
theorem missAsks_spec {v : VEntry} {s : State} (hfree : ∀ x ∈ s.gates.queue, x.slot ≠ v.slot) (h : s.gates.serverLost = false)
    (hx : (s.gates.queue.find? fun x => (x.state == .ASKING) && (x.token == v.token)) = none) : let t := handleMiss v (entered v s)
    t.gates.queue = s.gates.queue ++
        [{ v with state := .ASKING, query := some (s.gates.queryCounter + 1#16), deadline := some 300 }] ∧
      t.gates.windows = s.gates.windows ∧ t.rest = { s.rest with queryCounter := s.gates.queryCounter + 1#16 } ∧
      ∀ u, StationWork t u → Waits u (firstRole s.active.b .FARE_SERVER) s.mgmt.ownAddress
        (.fareQuery (s.gates.queryCounter + 1#16) v.token v.cls v.halt v.gate) := by
  intro t
  have ht : t = _ := handleMiss_asks h hfree hx
  have hrest := sendQuery_rest v (entered v s)
  obtain ⟨p, hp⟩ := sendQuery_frame v (entered v s)
  have hqueue : (sendQuery v (entered v s)).gates.queue = s.gates.queue ++ [v] := by rw [hp, ← entered_queue v s]
  have hwindows : (sendQuery v (entered v s)).gates.windows = s.gates.windows := by rw [hp, ← entered_windows v s]
  refine ⟨?_, ?_, ?_, fun u hu => ?_⟩
  · rw [ht, modGates_gates]
    exact modEntry_last _ hfree hqueue
  · rw [ht, modGates_gates, modEntry_windows, hwindows]
  · rw [ht, modEntry_rest, hrest, entered_rest, entered_counter]
  · rw [ht] at hu
    have hw := sendQuery_waits ((work_modGates (.refl _)).trans hu)
    rwa [(entered_work v s).active, (entered_work v s).ownAddress, entered_counter] at hw

/-! ## O42: gate requests -/

theorem occur_gates (n : Notice) (s : State) : (occur n s).gates = s.gates := by
  obtain ⟨p, w, -, h⟩ := occur_fields n s
  rw [h]

/-- A refusal behind the notice of a full queue. -/
theorem busy_frame (g : GateId) (n : Byte) (s : State) : ∃ p u m, sendRefusal g n .BUSY 0#8 (occur .QUEUE_FULL s) =
    { s with ports := p, gates := u, mgmt := m } ∧ u.windows = s.gates.windows ∧ u.queue = s.gates.queue ∧
      u.serverLost = s.gates.serverLost := by
  obtain ⟨p1, w1, -, h1⟩ := occur_fields .QUEUE_FULL s
  obtain ⟨p2, h2⟩ := sendRefusal_fields g n .BUSY 0#8 (occur .QUEUE_FULL s)
  rw [h2, h1]
  exact ⟨_, _, _, rfl, rfl, rfl, rfl⟩


/-- What a gate that is heard leaves: of the state before it, the gate table, the queue, the windows, the cache, and the rest. -/
structure HeardSame (s h : State) : Prop where
  active : h.active = s.active
  mgmt : h.mgmt = s.mgmt
  localMs : h.localMs = s.localMs
  queue : h.gates.queue = s.gates.queue
  windows : h.gates.windows = s.gates.windows
  banks : h.gates.bank0 = s.gates.bank0 ∧ h.gates.bank1 = s.gates.bank1
  counter : h.gates.queryCounter = s.gates.queryCounter
  lost : h.gates.serverLost = s.gates.serverLost
  fault : ∀ x, (h.gates.records.get x).fault = (s.gates.records.get x).fault

theorem hearGate_same (q : PortId) (g : GateId) (s : State) : HeardSame s (hearGate g (heardOn q s)) := by
  obtain ⟨⟨p, r, h, hf⟩, -, -⟩ := hearGate_heard g (heardOn q s)
  rw [h]
  exact ⟨rfl, rfl, rfl, rfl, rfl, ⟨rfl, rfl⟩, rfl, rfl, hf⟩

section
variable {s h : State} (hs : HeardSame s h)
include hs

theorem HeardSame.find (t : Token) : cacheFind h.active.a h.gates t = cacheFind s.active.a s.gates t := by
  unfold cacheFind bankFor
  rw [hs.active, hs.banks.1, hs.banks.2]

theorem HeardSame.passback (i : SlotId) (t : Token) (last : Option Nat) : passback h i t last = passback s i t last := by
  unfold Machine.passback State.localTime
  rw [hs.active, hs.queue, hs.localMs]

theorem HeardSame.localTime : h.localTime = s.localTime := by
  unfold State.localTime
  rw [hs.localMs]

theorem HeardSame.passDeadline (g : GateId) : passDeadline h g = passDeadline s g := by
  unfold Machine.passDeadline
  rw [hs.active]

theorem HeardSame.freeSlot : freeSlot h.gates = freeSlot s.gates := by
  unfold Machine.freeSlot
  rw [hs.queue]

theorem HeardSame.windowOpen (x : Halt) : windowOpen h x = windowOpen s x := by
  unfold Machine.windowOpen
  rw [hs.windows]

theorem HeardSame.haltBudget (x : Halt) : haltBudget h x = haltBudget s x := by
  unfold Machine.haltBudget
  rw [hs.windows]

end

/-- Settles O42: a request is refused, decided from the cache or offline, merged, or asked of the fare server. -/
theorem gateRequestsAreRefusedAdmittedOrAsked : Obligations.GateRequestsAreRefusedAdmittedOrAsked := by
  intro hdr p e s hacc g a x cls c h next refused isExit twice ahead faulty room shut entry case sends query asked reserves
  have hexec : exec c s = .next (settle (react (fromGate e fun g => takeGateRequest g p) (heardOn hdr.port s))) := running_receive hacc
  refine ⟨fun habsent hq => ?_, fun hpresent => ?_⟩
  · have hf : fromGate e (fun g => takeGateRequest g p) (heardOn hdr.port s) = heardOn hdr.port s := fromGate_absent habsent
    rw [hexec, settle_react_heard (heardOn_quiet hdr.port hq) hf ⟨_, _, _, rfl, rfl, rfl, rfl⟩]
  have hf : fromGate e (fun g => takeGateRequest g p) (heardOn hdr.port s) = takeGateRequest g p h := fromGate_present hpresent
  have hs : HeardSame s h := hearGate_same hdr.port g s
  obtain ⟨⟨pp, rr, hh, -⟩, hrest, -⟩ := hearGate_heard g (heardOn hdr.port s)
  have hh : h = _ := hh
  have hrest : h.rest = _ := hrest
  clear_value h
  have hnext : ∀ t, takeGateRequest g p h = t → (∃ p g m, t = { h with ports := p, gates := g, mgmt := m } ∧
      g.windows = h.gates.windows ∧ g.queue = h.gates.queue ∧ g.serverLost = h.gates.serverLost) → next t := by
    rintro t ht ⟨p', g', m', hm, hw, hqu, hl⟩ hq
    rw [hexec, settle_react_heard (heardOn_quiet hdr.port hq) (hf.trans ht) ⟨p', g', m', hm.trans ?_, ?_, ?_, ?_⟩]
    · rw [hh]
    · exact hw.trans hs.windows
    · exact hqu.trans hs.queue
    · exact hl.trans hs.lost
  have hrefusal : ∀ r, takeGateRequest g p h = refused r h → next (refused r h) := by
    intro r hr
    obtain ⟨p', hp⟩ := sendRefusal_fields g p.number r 0#8 h
    exact hnext _ hr ⟨_, _, _, hp, rfl, rfl, rfl⟩
  have hexit : gateIsExit h.active.a g = true ↔ isExit := by rw [hs.active]
  have htwice : (∃ v ∈ h.gates.queue, v.gate = g ∧ v.number = p.number) ↔ twice := by rw [hs.queue]
  have hahead : (∃ v ∈ h.gates.queue, v.gate = g ∧ v.state ≠ .WAIT_PASS) ↔ ahead := by rw [hs.queue]
  refine ⟨fun hx => hrefusal _ (takeGateRequest_exit (hexit.mpr hx)), fun hx ht => ?_, fun hx ht r hr => ?_, fun hx ht hfault hroom => ?_⟩
  · exact hnext h (takeGateRequest_twice (mt hexit.mp hx) (htwice.mpr ht)) ⟨_, _, _, rfl, rfl, rfl, rfl⟩
  · have hrefuse : takeGateRequest g p h = refuseRequest g p r h := by
      refine takeGateRequest_refused (mt hexit.mp hx) (mt htwice.mp ht) ?_
      rw [hs.fault, hs.windows, hs.active]
      exact hr
    refine ⟨fun hn => hrefusal r (hrefuse.trans (refuseRequest_now (mt hahead.mp hn))), fun ha hi => ?_, fun ha i hi => ?_⟩
    · exact hnext h (hrefuse.trans (refuseRequest_discarded (hahead.mpr ha) (hs.freeSlot.trans hi))) ⟨_, _, _, rfl, rfl, rfl, rfl⟩
    · have ht := hrefuse.trans (refuseRequest_behind (hahead.mpr ha) (hs.freeSlot.trans hi))
      refine ⟨_, hexec, ?_, ?_, ?_⟩
      · rw [settle_rest, react_rest, hf, ht, ← hrest]
        rfl
      · rw [react_gates, hf, ht, ← hs.windows]
        rfl
      · rw [react_gates, hf, ht, ← hs.queue, hs.active]
        rfl
  · obtain ⟨hbudget, hbusy, hadmit⟩ := takeGateRequest_roomy (g := g) (p := p) (s := h) (mt hexit.mp hx) (mt htwice.mp ht)
      (by rw [hs.fault]; exact hfault)
      (by rw [hs.windows, hs.active]; exact hroom)
    refine ⟨fun hi => ⟨fun hn => ?_, fun ha => ?_⟩, fun i hi => ?_⟩
    · have ht := (hbusy (hs.freeSlot.trans hi)).trans (refuseRequest_now (by rw [occur_gates]; exact mt hahead.mp hn))
      exact hnext _ ht (busy_frame g p.number h)
    · have hfull : freeSlot (occur .QUEUE_FULL h).gates = none := by rw [occur_gates, hs.freeSlot, hi]
      have ht := (hbusy (hs.freeSlot.trans hi)).trans (refuseRequest_discarded (by rw [occur_gates]; exact hahead.mpr ha) hfull)
      obtain ⟨p1, w1, -, h1⟩ := occur_fields .QUEUE_FULL h
      exact hnext _ ht ⟨_, _, _, h1, rfl, rfl, rfl⟩
    · intro found barred misses alone acts
      have hfree : ∀ z ∈ h.gates.queue, z.slot ≠ i := freeSlot_free (hs.freeSlot.trans hi)
      have hact : takeGateRequest g p h = admitRequest g p i h := hadmit i (hs.freeSlot.trans hi)
      obtain ⟨u, hu⟩ : ∃ u, u = react (fromGate e fun g => takeGateRequest g p) (heardOn hdr.port s) := ⟨_, rfl⟩
      have hwork : StationWork (admitRequest g p i h) u := by
        obtain ⟨l, hl⟩ := react_eq (fromGate e fun g => takeGateRequest g p) (heardOn hdr.port s)
        rw [hf, hact] at hl
        rw [hu, hl]
        exact work_agenda (.refl _)
      have hgates : u.gates = (admitRequest g p i h).gates := by rw [hu, react_gates, hf, hact]
      have hurest : (settle u).rest = (admitRequest g p i h).rest := by rw [hu, settle_rest, react_rest, hf, hact]
      rw [← hu] at hexec
      have hacts : ∀ n by_ y more, Offered (requestEntry h.active.a g p i) y by_ h (admitRequest g p i h) →
          (admitRequest g p i h).rest = { h.rest with queryCounter := n } → more u → acts n by_ y more := by
        intro n by_ y more ho hr hmore
        refine ⟨u, hexec, ?_, hmore, fun v hv hvi => ?_, fun hy => ⟨?_, ?_, fun hb => ?_, fun ha => ?_⟩, fun r sr hy => ⟨?_, fun ha => ?_⟩⟩
        · rw [hurest, hr, hrest]
        · rw [hgates] at hv
          obtain ⟨⟨-, hby, hq, -⟩, z, hz, rfl⟩ := ho.here v hv hvi
          exact ⟨hz, hby, hq⟩
        · change u.gates.windows = _
          rw [hgates, ho.windows, if_pos hy, hs.windows, hs.active]
          rfl
        · rw [hgates]
          exact ho.place hy
        · rw [hgates, ho.blocked hy (by rw [hs.queue]; exact hb), hs.queue, hs.active, hy]
          rfl
        · obtain ⟨hq, hw⟩ := ho.admitted hy (by rw [hs.queue]; exact ha)
          have hsent := hw u hwork
          rw [hs.active, hs.mgmt] at hsent
          refine ⟨hsent, ?_⟩
          rw [hgates, hq, hs.queue, hs.active, hs.passDeadline, hy]
          rfl
        · rw [hgates, ho.windows, if_neg (by rw [hy]; exact nofun), hs.windows]
        · obtain ⟨hq, hw⟩ := ho.refused r sr hy (by rw [hs.queue]; exact ha)
          have hsent := hw u hwork
          rw [hs.active, hs.mgmt] at hsent
          refine ⟨?_, hsent⟩
          rw [hgates, hq, hs.queue]
      have hfound : cacheFind h.active.a h.gates p.token = found := hs.find p.token
      have hmiss : misses → admitRequest g p i h =
          handleMiss (requestEntry h.active.a g p i) (entered (requestEntry h.active.a g p i) h) := fun hm =>
        admitRequest_miss fun k hk => by
          rw [hs.localTime]
          exact hm k (hfound.symm.trans hk)
      refine ⟨fun k hk hhit => ?_, fun hm hl => ?_, fun hm hl m hfind => ?_⟩
      · have he : cacheFind h.active.a h.gates p.token = some k := hfound.trans hk
        have ht := admitRequest_hit (g := g) (i := i) he (by rw [hs.localTime]; exact hhit)
        have ho := decideHit_offered (v := requestEntry h.active.a g p i) hfree hbudget k .LOCAL
        have htoken : k.token = (requestEntry h.active.a g p i).token := cacheFind_token he
        rw [entered_hitVerdict htoken, hs.passback, ← ht] at ho
        refine hacts _ _ _ _ ?_ ?_ trivial
        · change Offered _ (match k.verdict with
            | .REFUSE r sr => .REFUSE r sr
            | .ADMIT => if k.rides = some 0 then .REFUSE .NO_RIDES 0#8
              else if passback s i p.token (found.bind CacheEntry.lastAdmitted) = true then .REFUSE .PASSBACK 0#8 else .ADMIT) _ _ _
          rw [hk]
          exact ho
        · rw [ht, decideHit_rest, entered_rest, ← hs.counter]
          rfl
      · obtain ⟨ho, hr, hw⟩ := missLost_offered (v := requestEntry h.active.a g p i) hfree hbudget (hs.lost.trans hl)
        rw [← hmiss hm] at ho hr hw
        have hsent := hw u hwork
        rw [hs.active, hs.mgmt, hs.counter] at hsent
        rw [entered_offlineVerdict, hs.passback, hs.find] at ho
        refine hacts _ _ _ _ ?_ ?_ hsent
        · rw [hs.active] at ho ⊢
          exact ho
        · rw [hr, hs.counter]
      · have hasker : h.gates.queue.find? (fun v => (v.state == .ASKING) && (v.token == p.token)) = m := by
          rw [hs.queue]
          exact hfind
        rcases m with - | v
        · obtain ⟨hq, hwin, hr, hw⟩ := missAsks_spec (v := requestEntry h.active.a g p i) hfree (hs.lost.trans hl) hasker
          rw [← hmiss hm] at hq hwin hr hw
          have hsent := hw u hwork
          rw [hs.active, hs.mgmt, hs.counter] at hsent
          refine ⟨u, hexec, ?_, nofun, fun _ => ⟨?_, hsent, ?_⟩⟩
          · rw [hgates, hwin, hs.windows]
          · rw [hurest, hr, hrest, hs.counter]
          · rw [hgates, hq, hs.queue, hs.active, hs.counter]
            rfl
        · obtain ⟨hq, hwin, hr⟩ := missMerged_spec (v := requestEntry h.active.a g p i) hfree (hs.lost.trans hl) hasker
          rw [← hmiss hm] at hq hwin hr
          refine ⟨u, hexec, ?_, fun v' hv => ?_, nofun⟩
          · rw [hgates, hwin, hs.windows]
          · cases hv
            refine ⟨?_, ?_⟩
            · rw [hurest, hr, hrest]
            · rw [hgates, hq, hs.queue, hs.active]
              rfl

end Sys2Proof.Machine
end

section
/-!
PROOFS. The entry to RUNNING, arrival and recovery (R90, R91, R93): the statement O37.
-/

namespace Sys2Proof.Machine

/-! ## A close-out (R156) -/

/-- Work on windows and modes: entries and trip stay, and a halt without a window gets none. -/
structure WindowWork (s u : State) : Prop where
  trip : u.trip = s.trip
  queue : u.gates.queue = s.gates.queue
  windows : ∀ x, s.gates.windows.get x = none → u.gates.windows.get x = none

namespace WindowWork
variable {s t u : State}

theorem refl (s : State) : WindowWork s s := ⟨rfl, rfl, fun _ => id⟩

theorem trans (h : WindowWork s t) (h' : WindowWork t u) : WindowWork s u :=
  ⟨h'.trip.trans h.trip, h'.queue.trans h.queue, fun x hx => h'.windows x (h.windows x hx)⟩

theorem foldl {α : Type} {g : State → α → State} (hg : ∀ t x, WindowWork t (g t x)) (l : List α) (s : State) :
    WindowWork s (l.foldl g s) := by
  induction l generalizing s with
  | nil => exact refl s
  | cons x xs ih => exact (hg s x).trans (ih (g s x))

theorem ite {c : Prop} [Decidable c] (h : WindowWork s t) : WindowWork s (if c then t else s) := by
  split
  · exact h
  · exact refl s

theorem modWindow (x : Halt) (f : Window → Window) (s : State) : WindowWork s (modWindow x f s) := by
  refine ⟨rfl, rfl, fun y hy => ?_⟩
  rw [vmod_windows]
  by_cases hyx : y = x
  · rw [hyx] at hy ⊢
    rw [vmod_get_self, hy]
    rfl
  · rw [vmod_get_ne _ _ hyx, hy]

theorem updateMode (g : GateId) (s : State) : WindowWork s (updateMode g s) := by
  obtain ⟨p, r, hu, -⟩ := updateMode_fields g s
  rw [hu]
  exact ⟨rfl, rfl, fun _ => id⟩

theorem updateModesOf (p : GateId → Bool) (s : State) : WindowWork s (updateModesOf p s) :=
  foldl (fun t g => ite (updateMode g t)) _ s

end WindowWork

/-- A close-out: work on windows and modes, then the entries, then delivery to every gate. -/
theorem closeOut_shape (hs : Halt → Bool) (s : State) : ∃ u, WindowWork s u ∧ closeOut hs s =
    all16.foldl (fun s g => deliver g s)
      (modGates (fun w => { w with queue := s.gates.queue.map (entryAfterCloseOut hs s.gates.queue) }) u) := by
  have each : ∀ (f : Halt → Window → Window) (u : State),
      WindowWork u (allHalts.foldl (fun s x => if hs x then modWindow x (f x) s else s) u) :=
    fun f u => WindowWork.foldl (fun t x => WindowWork.ite (WindowWork.modWindow x (f x) t)) _ u
  obtain ⟨a, ha⟩ : ∃ a, a = allHalts.foldl (fun s x => if hs x then modWindow x (fun w => { w with isOpen := false }) s else s) s := ⟨_, rfl⟩
  obtain ⟨b, hb⟩ : ∃ b, b = updateModesOf (fun g => !gateIsExit a.active.a g && hs (gateHalt a.active.a g)) a := ⟨_, rfl⟩
  have hsa : WindowWork s a := ha ▸ each (fun _ w => { w with isOpen := false }) s
  have hab : WindowWork a b := hb ▸ WindowWork.updateModesOf _ a
  refine ⟨allHalts.foldl (fun s x => if hs x then modWindow x (fun w => { w with reserved := w.reserved - releasedAt b.gates.queue x }) s else s) b,
    hsa.trans (hab.trans (each (fun x w => { w with reserved := w.reserved - releasedAt b.gates.queue x }) b)), ?_⟩
  rw [← (hsa.trans hab).queue, hb, ha]
  rfl

/-- An entry that a close-out has refused. -/
def Refused (v : VEntry) : Prop := v.state = .WAIT_GATE ∧ ∃ r sr, v.verdict = some (.REFUSE r sr)

/-- Refused entries go out to their gate, all of them (R151). -/
theorem deliverGo_refused {g : GateId} {n : Nat} {s : State} (hn : s.gates.queue.length < n) (h : ∀ v ∈ s.gates.queue, Refused v) :
    ∀ v ∈ (deliverGo g n s).gates.queue, v ∈ s.gates.queue ∧ v.gate ≠ g := by
  induction n generalizing s with
  | zero => exact absurd hn (by omega)
  | succ n ih =>
    have hpass : (s.gates.queue.any fun v => (v.gate == g) && (v.state == .WAIT_PASS)) = false := by
      rw [List.any_eq_false]
      intro v hv
      rw [(h v hv).1]
      simp
    unfold deliverGo
    rw [if_neg (by rw [hpass]; exact Bool.false_ne_true)]
    rcases hfind : s.gates.queue.find? fun v => (v.gate == g) && undelivered v with - | v
    · simp only [hfind]
      intro v hv
      refine ⟨hv, fun hg => List.find?_eq_none.mp hfind v hv ?_⟩
      unfold undelivered
      rw [hg, (h v hv).1]
      simp
    · have hv := List.mem_of_find?_eq_some hfind
      obtain ⟨hst, r, sr, hver⟩ := h v hv
      obtain ⟨p, hp⟩ := sendRefusal_fields g v.number r sr s
      have hqueue : (modGates (freeEntry v) (sendRefusal g v.number r sr s)).gates.queue =
          s.gates.queue.filter fun x => x.slot != v.slot := by
        rw [modGates_gates, freeEntry_queue, hp]
      simp only [hfind, hst, if_true, hver]
      intro y hy
      have hless : (s.gates.queue.filter fun x => x.slot != v.slot).length < s.gates.queue.length :=
        List.length_filter_lt_length_iff_exists.mpr ⟨v, hv, by simp⟩
      obtain ⟨hin, hg⟩ := ih (s := modGates (freeEntry v) (sendRefusal g v.number r sr s)) (by rw [hqueue]; omega)
        (fun x hx => h x (List.mem_filter.mp (hqueue ▸ hx)).1) y hy
      rw [hqueue] at hin
      exact ⟨(List.mem_filter.mp hin).1, hg⟩

theorem foldl_deliver_refused (gs : List GateId) {s : State} (h : ∀ v ∈ s.gates.queue, Refused v) :
    ∀ v ∈ (gs.foldl (fun s g => deliver g s) s).gates.queue, v ∈ s.gates.queue ∧ v.gate ∉ gs := by
  induction gs generalizing s with
  | nil => exact fun v hv => ⟨hv, List.not_mem_nil⟩
  | cons g gs ih =>
    have hg := deliverGo_refused (g := g) (n := s.gates.queue.length + 1) (Nat.lt_succ_self _) h
    intro v hv
    obtain ⟨hin, hgs⟩ := ih (s := deliver g s) (fun x hx => h x (hg x hx).1) v hv
    exact ⟨(hg v hin).1, List.not_mem_cons_of_ne_of_not_mem (hg v hin).2 hgs⟩

/-- A close-out of every halt empties the queue of a line on which no one passes a gate (R156). -/
theorem closeOut_all_queue {s : State} (h : ∀ v ∈ s.gates.queue, v.state ≠ .WAIT_PASS) :
    (closeOut (fun _ => true) s).gates.queue = [] := by
  obtain ⟨u, -, hu⟩ := closeOut_shape (fun _ => true) s
  rw [hu]
  refine List.eq_nil_iff_forall_not_mem.mpr fun v hv => ?_
  refine (foldl_deliver_refused all16 (fun x hx => ?_) v hv).2 (mem_all16 v.gate)
  rw [modGates_gates] at hx
  obtain ⟨y, hy, rfl⟩ := List.mem_map.mp hx
  have hclosed : closedOut (fun _ => true) y = true := by
    have hstate := h y hy
    unfold closedOut undelivered
    cases hst : y.state with
    | ASKING => rfl
    | MERGED => rfl
    | WAIT_GATE => rfl
    | WAIT_PASS => exact absurd hst hstate
  unfold entryAfterCloseOut
  rw [if_pos hclosed]
  exact ⟨rfl, _, _, rfl⟩

/-! ## A line without berths, windows and, where `e` holds, entries (R90, R142)

What the work that follows the entry to RUNNING keeps so. -/

structure Cleared (e : Prop) (s : State) : Prop where
  berth : s.trip.berth = ⟨none, none⟩
  windows : ∀ x, s.gates.windows.get x = none
  queue : e → s.gates.queue = []

namespace Cleared
variable {e : Prop} {s t : State}

theorem of_gates (h : Cleared e s) (ht : t.trip = s.trip) (hg : t.gates = s.gates) : Cleared e t :=
  ⟨ht ▸ h.berth, hg ▸ h.windows, hg ▸ h.queue⟩

theorem of_windowWork (h : Cleared e s) (hw : WindowWork s t) : Cleared e t :=
  ⟨hw.trip ▸ h.berth, fun x => hw.windows x (h.windows x), hw.queue ▸ h.queue⟩

theorem foldl {α : Type} {g : State → α → State} (hg : ∀ t x, Cleared e t → Cleared e (g t x)) (l : List α) (h : Cleared e s) :
    Cleared e (l.foldl g s) := by
  induction l generalizing s with
  | nil => exact h
  | cons x xs ih => exact ih (hg s x h)

theorem carsAt (h : Cleared e s) (x : Halt) : carsAt s x = [] := by
  unfold Machine.carsAt State.berth
  rw [h.berth]
  rfl

theorem deliver (h : Cleared e s) (g : GateId) : Cleared e (deliver g s) := by
  refine ⟨?_, ?_, fun he => List.eq_nil_iff_forall_not_mem.mpr fun y hy => ?_⟩
  · rw [(work_deliver (.refl s)).trip]
    exact h.berth
  · rw [deliver_windows]
    exact h.windows
  · obtain ⟨x, hx, -⟩ := deliver_entry hy
    rw [h.queue he] at hx
    cases hx

theorem closeOut (h : Cleared e s) (hs : Halt → Bool) : Cleared e (closeOut hs s) := by
  obtain ⟨u, hw, hu⟩ := closeOut_shape hs s
  rw [hu]
  have hmapped : Cleared e (modGates (fun w => { w with queue := s.gates.queue.map (entryAfterCloseOut hs s.gates.queue) }) u) :=
    ⟨(h.of_windowWork hw).berth, (h.of_windowWork hw).windows, fun he => by rw [modGates_gates, h.queue he]; rfl⟩
  exact foldl (fun _ g ht => ht.deliver g) _ hmapped

theorem updateModes (h : Cleared e s) : Cleared e (updateModes s) := h.of_windowWork (.updateModesOf _ s)

/-- A change of ENTRY_OPEN opens no window where no car is berthed. -/
theorem gateTakesOutputs (h : Cleared e s) (x : Halt) (rose fell : Bool) : Cleared e (gateTakesOutputs x rose fell s) := by
  unfold Machine.gateTakesOutputs
  dsimp only
  refine updateModes ?_
  have hclosed : Cleared e (if fell then Machine.closeOut (fun y => y == x) s else s) := by
    split
    · exact h.closeOut _
    · exact h
  rw [hclosed.carsAt x]
  rw [List.isEmpty_nil, Bool.not_true, Bool.and_false]
  exact hclosed

theorem watch {f : State → State} (h : Cleared e (f s)) : Cleared e (watch f s) := by
  obtain ⟨l, hl⟩ := announceConditions_eq s (f s)
  unfold Machine.watch
  rw [hl]
  exact h.of_gates rfl rfl

theorem doorEvaluation (h : Cleared e s) (k : CarId) : Cleared e (doorEvaluation k s) := by
  obtain ⟨d, p, w, l, hd⟩ := doorEvaluation_frame k s
  rw [hd]
  exact h.of_gates rfl rfl

theorem when {c : Prop} [Decidable c] {f : State → State} (hf : Cleared e s → Cleared e (f s)) (h : Cleared e s) :
    Cleared e (if c then f s else s) := by
  split
  · exact hf h
  · exact h

theorem modSeq (h : Cleared e s) (q : Halt) (f : SeqRecord → SeqRecord) : Cleared e (modSeq q f s) := h.of_gates rfl rfl

theorem giveUserEvents (h : Cleared e s) (q : Halt) (old new : Byte) : Cleared e (giveUserEvents q old new s) := by
  obtain ⟨w, hw, -⟩ := giveUserEvents_frame q old new s
  rw [hw]
  exact h.of_gates rfl rfl

theorem occur (h : Cleared e s) (n : Notice) : Cleared e (occur n s) := by
  obtain ⟨p, w, -, hw⟩ := occur_fields n s
  rw [hw]
  exact h.of_gates rfl rfl

theorem publish (h : Cleared e s) (q : Halt) : Cleared e (publish tellNothing q s) := by
  unfold Machine.publish
  dsimp only
  split
  · exact h
  · refine giveUserEvents (watch ?_) q _ _
    refine when (f := Machine.watch (Machine.gateTakesOutputs q _ _)) (fun hu => watch (hu.gateTakesOutputs q _ _)) ?_
    split
    · exact foldl (fun _ k hu => watch (hu.doorEvaluation k)) _ (h.modSeq q _)
    · exact h.modSeq q _

theorem seqPass (h : Cleared e s) (levels : Vector (BitVec 32) 6) (fresh : Bool) (q : Halt) :
    Cleared e (seqPass tellNothing levels fresh q s) :=
  publish (when (fun h => h.occur _) (watch (h.modSeq q _))) q

theorem answerGo {levels : Vector (BitVec 32) 6} {n : Nat} {l d : List Halt} (h : Cleared e s) :
    Cleared e (answerGo tellNothing levels n l d s) := by
  induction n generalizing l d s with
  | zero => exact h
  | succ n ih =>
    cases l with
    | nil => exact h
    | cons q rest => exact ih (h.seqPass levels _ q)

theorem answerOutside (h : Cleared e s) (changed : Vector (BitVec 32) 6) (due : BitVec 6) :
    Cleared e (answerOutside tellNothing changed due s) := answerGo h

theorem pulsesReplaced (h : Cleared e s) (f : Vector PulseRun 16 → Vector PulseRun 16) : Cleared e { s with pulses := f s.pulses } :=
  h.of_gates rfl rfl

theorem gateTakesGroupA (h : Cleared e s) (old new : GroupA) : Cleared e (gateTakesGroupA old new s) := by
  obtain ⟨hq, hw⟩ := cacheAfterCommit_same old new s.gates
  refine updateModes ⟨h.berth, ?_, ?_⟩
  · rw [modGates_gates, hw]
    exact h.windows
  · rw [modGates_gates, hq]
    exact h.queue

/-- What a commit does to the stations leaves the line cleared (R178). -/
theorem applyGroupA (h : Cleared e s) : Cleared e (applyGroupA s) := by
  have hstart : Cleared e { s with
      active := { s.active with a := s.staged.a }, mgmt := { s.mgmt with commitA := ⟨false, .OK⟩ } } := h.of_gates rfl rfl
  have hprograms := foldl (fun u q hu => modSeq hu q (newProgram (s.staged.a.programs.get q))) allHalts (hstart.occur .COMMIT_APPLIED)
  have hanswered := answerOutside hprograms (Vector.replicate 6 0#32) allDue
  have hpulses := pulsesReplaced hanswered fun v => pulsesAfterCommit s.active.a s.staged.a v
  exact gateTakesGroupA hpulses s.active.a s.staged.a

end Cleared

/-! ## The entry to RUNNING (R90) -/

/-- The trip record of an entry to RUNNING. -/
def runningTrip (t : Trip) : Trip :=
  { tripEnter .RUNNING t with
    number := if t.origin = some .PARKED then t.number + 1#16 else t.number
    origin := none
    berth := ⟨none, none⟩ }

theorem enterRunning_eq (s : State) : enterRunning s = applyPendingA (gateEntersRunning (modTrip runningTrip s)) := rfl

/-- The gates at an entry to RUNNING: no window is left, and no entry where none waits for a passage. -/
theorem gateEntersRunning_cleared (s : State) :
    Cleared (∀ v ∈ s.gates.queue, v.state ≠ .WAIT_PASS) (gateEntersRunning (modTrip runningTrip s)) := by
  have hqueue : (∀ v ∈ s.gates.queue, v.state ≠ .WAIT_PASS) → (closeOut (fun _ => true) (modTrip runningTrip s)).gates.queue = [] :=
    fun h => closeOut_all_queue h
  refine ⟨?_, fun x => ?_, fun h => ?_⟩
  · rw [(work_gateEntersRunning (.refl _)).trip]
    rfl
  · change (Vector.replicate 6 none).get x = none
    exact Vector.getElem_replicate x.isLt
  · unfold gateEntersRunning
    rw [modGates_gates]
    dsimp only
    exact hqueue h

theorem enterRunning_cleared (s : State) : Cleared (∀ v ∈ s.gates.queue, v.state ≠ .WAIT_PASS) (enterRunning s) := by
  rw [enterRunning_eq]
  unfold applyPendingA
  split
  · exact (gateEntersRunning_cleared s).applyGroupA
  · exact gateEntersRunning_cleared s

/-- An entry to RUNNING is announced for the arrival test, and the overrun field set to no (R37, R76). -/
theorem carry_running {f : State → State} {s : State} (h : (f s).trip.state = .RUNNING) (hne : s.trip.state ≠ .RUNNING) :
    .tripArrival ∈ (carry f s).agenda ∧ (carry f s).speed.overrunRaised = false := by
  have hentered : ((s.trip.state != (f s).trip.state) && ((f s).trip.state == .RUNNING)) = true := by
    rw [h]
    simp [hne]
  unfold carry announceTrip
  simp only [announceIf_eq, hentered, Bool.true_or, Bool.or_true, if_true]
  exact ⟨List.mem_append_right _ (List.mem_singleton_self _), trivial⟩

theorem takeReleased_entered {s : State} (h : s.trip.state = .DEPARTING) : takeReleased s = carry enterRunning s := if_pos h

theorem enterRunning_spec (s : State) : let t := enterRunning s
    t.trip = runningTrip s.trip ∧
      (s.mgmt.commitA.pending = true → t.active.a = s.staged.a ∧ t.mgmt.commitA = ⟨false, .OK⟩ ∧
        (t.mgmt.notices.get (noticeIndex .COMMIT_APPLIED)).pending = true) ∧
      (s.mgmt.commitA.pending = false → t.active = s.active ∧ t.mgmt.commitA = s.mgmt.commitA) := by
  intro t
  have hwork : StationWork (modTrip runningTrip s) (gateEntersRunning (modTrip runningTrip s)) := work_gateEntersRunning (.refl _)
  have ht : t = applyPendingA (gateEntersRunning (modTrip runningTrip s)) := enterRunning_eq s
  clear_value t
  obtain ⟨htrip, hpending, hnone⟩ := applyPendingA_spec (gateEntersRunning (modTrip runningTrip s))
  obtain ⟨x, hx⟩ : ∃ x, x = gateEntersRunning (modTrip runningTrip s) := ⟨_, rfl⟩
  rw [← hx] at hwork ht htrip hpending hnone
  have hcommit : x.mgmt.commitA = s.mgmt.commitA := by
    obtain ⟨w, hw⟩ := hwork.mgmt
    rw [hw]
    rfl
  have hstaged : x.staged = s.staged := hwork.staged
  have hactive : x.active = s.active := hwork.active
  rw [ht]
  refine ⟨htrip.trans hwork.trip, fun hp => ?_, fun hp => ?_⟩
  · rw [← hstaged]
    exact hpending (by rw [hcommit]; exact hp)
  · rw [hnone (by rw [hcommit]; exact hp)]
    exact ⟨hactive, hcommit⟩

/-- Brake released in DEPARTING: what the entry to RUNNING leaves (R90). -/
theorem takeReleased_spec {s : State} (h : s.trip.state = .DEPARTING) : let t := takeReleased s
    t.trip = runningTrip s.trip ∧ Cleared (∀ v ∈ s.gates.queue, v.state ≠ .WAIT_PASS) t ∧ t.speed.overrunRaised = false ∧
      (s.mgmt.commitA.pending = true → t.active.a = s.staged.a ∧ t.mgmt.commitA = ⟨false, .OK⟩ ∧
        (t.mgmt.notices.get (noticeIndex .COMMIT_APPLIED)).pending = true) ∧
      (s.mgmt.commitA.pending = false → t.active = s.active ∧ t.mgmt.commitA = s.mgmt.commitA) ∧
      .brakeTrip .RUNNING ∈ t.agenda ∧ .recompute false ∈ t.agenda ∧ .demandTrip (some .RUNNING) ∈ t.agenda ∧ .tripArrival ∈ t.agenda := by
  intro t
  have ht : t = carry enterRunning s := takeReleased_entered h
  clear_value t
  obtain ⟨htrip, hpending, hnone⟩ := enterRunning_spec s
  have hcleared := enterRunning_cleared s
  have hstate : (enterRunning s).trip.state = .RUNNING := by rw [htrip]; rfl
  have hne : s.trip.state ≠ .RUNNING := by rw [h]; decide
  obtain ⟨hbrake, hrecompute, hdemand⟩ := carry_entered hstate hne
  obtain ⟨harrival, hoverrun⟩ := carry_running hstate hne
  rw [← ht] at hbrake hrecompute hdemand harrival hoverrun
  obtain ⟨v, l, hc⟩ := carry_fields enterRunning s
  obtain ⟨r, hr⟩ : ∃ r, r = enterRunning s := ⟨_, rfl⟩
  rw [← hr] at hc htrip hpending hnone hcleared
  rw [hc] at ht
  have hgates : t.gates = r.gates := by rw [ht]
  have hsame : t.trip = r.trip ∧ t.active = r.active ∧ t.mgmt = r.mgmt := by
    rw [ht]
    exact ⟨rfl, rfl, rfl⟩
  obtain ⟨htr, hactive, hmgmt⟩ := hsame
  rw [hactive, hmgmt]
  exact ⟨htr.trans htrip, hcleared.of_gates htr hgates, hoverrun, hpending, hnone, hbrake, hrecompute, hdemand, harrival⟩

end Sys2Proof.Machine
end

section
/-!
PROOFS. Arrival and recovery (R91, R93): the rest of the statement O37.
-/

namespace Sys2Proof.Machine

/-! ## BERTHED (R134) -/

/-- BERTHED for several halts starts or restarts every enabled entry that one of them matches (R134). -/
theorem giveBerthed_get (hs : List Halt) (s : State) (i : Fin 16) : (giveBerthed hs s).pulses.get i =
    if yes (s.active.a.pulses.get i).enabled = true ∧ ∃ x ∈ hs, refEventOf (s.active.a.pulses.get i) = some (.berthed x) then
      startRun (s.active.a.pulses.get i) else s.pulses.get i := by
  have go : ∀ (hs : List Halt) (t : State), t.active = s.active → (giveBerthed hs t).pulses.get i =
      if yes (s.active.a.pulses.get i).enabled = true ∧ ∃ x ∈ hs, refEventOf (s.active.a.pulses.get i) = some (.berthed x) then
        startRun (s.active.a.pulses.get i) else t.pulses.get i := by
    intro hs
    induction hs with
    | nil => exact fun t _ => (if_neg fun h => by obtain ⟨-, x, hx, -⟩ := h; cases hx).symm
    | cons x hs ih =>
      intro t ht
      refine (ih (giveEvent (.berthed x) t) ht).trans ?_
      rw [giveEvent_get, ht]
      by_cases hrest : yes (s.active.a.pulses.get i).enabled = true ∧ ∃ y ∈ hs, refEventOf (s.active.a.pulses.get i) = some (.berthed y)
      · obtain ⟨he, y, hy, hev⟩ := hrest
        rw [if_pos ⟨he, y, hy, hev⟩, if_pos ⟨he, y, List.mem_cons_of_mem _ hy, hev⟩]
      · rw [if_neg hrest]
        refine if_congr ⟨fun h => ⟨h.1, x, List.mem_cons_self, h.2⟩, fun ⟨he, y, hy, hev⟩ => ⟨he, ?_⟩⟩ rfl rfl
        rcases List.mem_cons.mp hy with rfl | hy
        · exact hev
        · exact absurd ⟨he, y, hy, hev⟩ hrest
  exact go hs s rfl

/-- The pulses after BERTHED for the halts of which `given` holds (R134). -/
def BerthedGiven (s t : State) (given : Halt → Prop) : Prop := ∀ i : Fin 16,
  let e := s.active.a.pulses.get i
  let starts := yes e.enabled = true ∧ ∃ x, given x ∧ refEventOf e = some (.berthed x)
  (starts → t.pulses.get i = ⟨if e.start = 0#16 then .ACTIVE else .WAITING, some 0⟩) ∧ (¬ starts → t.pulses.get i = s.pulses.get i)

theorem giveBerthed_given {hs : List Halt} {s b : State} {given : Halt → Prop} (hg : ∀ x, x ∈ hs ↔ given x) (hp : b.pulses = s.pulses)
    (ha : b.active = s.active) : BerthedGiven s (giveBerthed hs b) given := by
  intro i e starts
  have hget := giveBerthed_get hs b i
  rw [hp, ha] at hget
  have hstarts : (yes e.enabled = true ∧ ∃ x ∈ hs, refEventOf e = some (.berthed x)) ↔ starts :=
    and_congr_right' (exists_congr fun x => and_congr_left' (hg x))
  rw [hget]
  exact ⟨fun h => (if_pos (hstarts.mpr h)).trans rfl, fun h => if_neg (mt hstarts.mp h)⟩

/-! ## Arrival (R91) -/

/-- Whether a pair's car stands within the pair's window, in the words of R91. -/
theorem pairArrived_iff (s : State) (p : StopPair) : pairArrived s p = true ↔
    (s.pos.cars.get p.car).referenced = true ∧ ((pairDistance s p.car p.halt).natAbs : Int) ≤ platformWindow s.active.b p.halt := by
  unfold pairArrived pairAhead
  by_cases hr : (s.car p.car).referenced = true
  · rw [if_pos hr]
    simp only [Bool.and_eq_true, decide_eq_true_eq]
    refine ⟨fun h => ⟨hr, by omega⟩, fun h => ?_⟩
    obtain ⟨-, h⟩ := h
    omega
  · rw [if_neg hr]
    exact ⟨fun h => absurd h Bool.false_ne_true, fun h => absurd h.1 hr⟩

/-- The trip record of an arrival at the head stop. -/
def arrivedTrip (st : Stop) (t : Trip) : Trip :=
  let u := { t with berth := ⟨berthAtStop st .car1 t.berth.one, berthAtStop st .car2 t.berth.two⟩, plan := t.plan.drop 1 }
  if isTermini st then tripPark u else tripEnter .AT_STOP u

theorem arriveAt_eq (st : Stop) (s : State) :
    arriveAt st s = giveBerthed ((stopPairs st).map StopPair.halt).dedup (modTrip (arrivedTrip st) s) := rfl

theorem arrivedTrip_berth (st : Stop) (t : Trip) (k : CarId) : (arrivedTrip st t).berth.get k = berthAtStop st k (t.berth.get k) := by
  unfold arrivedTrip
  dsimp only
  split <;> cases k <;> rfl

theorem arrivedTrip_kept (st : Stop) (t : Trip) :
    (arrivedTrip st t).hold = t.hold ∧ (arrivedTrip st t).number = t.number ∧ (arrivedTrip st t).mode = t.mode := by
  unfold arrivedTrip
  dsimp only
  split
  · exact ⟨rfl, rfl, rfl⟩
  · exact ⟨rfl, rfl, rfl⟩

theorem arrivedTrip_termini {st : Stop} (h : isTermini st = true) (t : Trip) :
    (arrivedTrip st t).state = .PARKED ∧ (arrivedTrip st t).plan = [] ∧ (arrivedTrip st t).dir =
      if (arrivedTrip st t).berth.get .car1 = some 0 then .UP else if (arrivedTrip st t).berth.get .car1 = some 1 then .DOWN else t.dir := by
  unfold arrivedTrip
  dsimp only
  rw [if_pos h]
  exact ⟨rfl, rfl, rfl⟩

theorem arrivedTrip_stop {st : Stop} (h : ¬ isTermini st = true) (t : Trip) :
    (arrivedTrip st t).state = .AT_STOP ∧ (arrivedTrip st t).plan = t.plan.drop 1 ∧ (arrivedTrip st t).dir = t.dir := by
  unfold arrivedTrip
  dsimp only
  rw [if_neg h]
  exact ⟨rfl, rfl, rfl⟩

/-- A change of the trip state is announced; hold, trip number and mode stay (R76). -/
def Announced (s t : State) : Prop :=
  .brakeTrip t.trip.state ∈ t.agenda ∧ .recompute false ∈ t.agenda ∧ .demandTrip (some t.trip.state) ∈ t.agenda ∧
    t.trip.hold = s.trip.hold ∧ t.trip.number = s.trip.number ∧ t.trip.mode = s.trip.mode

theorem carry_announced {f : State → State} {s : State} (hne : s.trip.state ≠ (f s).trip.state)
    (hkept : (f s).trip.hold = s.trip.hold ∧ (f s).trip.number = s.trip.number ∧ (f s).trip.mode = s.trip.mode) :
    Announced s (carry f s) := by
  obtain ⟨hbrake, hrecompute, hdemand⟩ := carry_entered rfl hne
  unfold Announced
  rw [carry_trip]
  exact ⟨hbrake, hrecompute, hdemand, hkept⟩

theorem carry_pulses (f : State → State) (s : State) : (carry f s).pulses = (f s).pulses := by
  obtain ⟨v, l, h⟩ := carry_fields f s
  rw [h]

theorem isTermini_iff (st : Stop) : isTermini st = true ↔ st.first.source = .TERMINI := beq_iff_eq

/-- An arrival that is carried through: berths, plan, state, direction, BERTHED, and what is announced (R91, R93). -/
theorem carry_arrival {f : State → State} {s b : State} {st : Stop} {rest : List Stop} (hf : f s = arriveAt st b)
    (htrip : b.trip = { s.trip with berth := b.trip.berth }) (hpulses : b.pulses = s.pulses) (hactive : b.active = s.active)
    (hplan : s.trip.plan = st :: rest) (hparked : s.trip.state ≠ .PARKED) (hstop : s.trip.state ≠ .AT_STOP) : let t := carry f s
    (∀ k, t.trip.berth.get k = berthAtStop st k (b.trip.berth.get k)) ∧
      (st.first.source = .TERMINI → t.trip.state = .PARKED ∧ t.trip.plan = [] ∧ t.trip.dir =
        if t.trip.berth.get .car1 = some 0 then .UP else if t.trip.berth.get .car1 = some 1 then .DOWN else s.trip.dir) ∧
      (st.first.source ≠ .TERMINI → t.trip.state = .AT_STOP ∧ t.trip.plan = rest ∧ t.trip.dir = s.trip.dir) ∧
      BerthedGiven s t (fun x => ∃ p ∈ stopPairs st, p.halt = x) ∧ Announced s t := by
  intro t
  have ht : (f s).trip = arrivedTrip st b.trip := by
    rw [hf, arriveAt_eq, giveBerthed_trip]
    rfl
  have htt : t.trip = arrivedTrip st b.trip := (carry_trip f s).trans ht
  have htp : t.pulses = (f s).pulses := carry_pulses f s
  have hdir : b.trip.dir = s.trip.dir := by rw [htrip]
  have hbplan : b.trip.plan = st :: rest := by rw [htrip, ← hplan]
  have hstate : s.trip.state ≠ (f s).trip.state := by
    rw [ht]
    by_cases h : isTermini st = true
    · rw [(arrivedTrip_termini h _).1]
      exact hparked
    · rw [(arrivedTrip_stop h _).1]
      exact hstop
  have hannounced : Announced s t := carry_announced hstate (by
    obtain ⟨hh, hn, hm⟩ := arrivedTrip_kept st b.trip
    rw [ht, hh, hn, hm, htrip]
    exact ⟨rfl, rfl, rfl⟩)
  clear_value t
  refine ⟨fun k => ?_, fun hs => ?_, fun hs => ?_, fun i => ?_, hannounced⟩
  · rw [htt, arrivedTrip_berth]
  · rw [htt, ← hdir]
    exact arrivedTrip_termini ((isTermini_iff st).mpr hs) b.trip
  · obtain ⟨h1, h2, h3⟩ := arrivedTrip_stop (mt (isTermini_iff st).mp hs) b.trip
    rw [htt, ← hdir]
    exact ⟨h1, h2.trans (by rw [hbplan]; rfl), h3⟩
  · have hgiven := giveBerthed_given (hs := ((stopPairs st).map StopPair.halt).dedup) (s := s) (b := modTrip (arrivedTrip st) b)
      (given := fun x => ∃ p ∈ stopPairs st, p.halt = x) (fun x => by rw [List.mem_dedup, List.mem_map]) hpulses hactive i
    rw [← arriveAt_eq, ← hf, ← htp] at hgiven
    exact hgiven

theorem testArrival_arrives {s : State} {st : Stop} {rest : List Stop} (hr : s.trip.state = .RUNNING) (hs : s.pos.standstill = true)
    (hp : s.trip.plan = st :: rest) (ha : (stopPairs st).all (pairArrived s) = true) : testArrival s = carry (arriveAt st) s := by
  unfold testArrival
  rw [hp]
  exact if_pos ⟨hr, hs, ha⟩

theorem testArrival_stays {s : State}
    (h : s.trip.state ≠ .RUNNING ∨ s.pos.standstill = false ∨
      ¬ ∃ st rest, s.trip.plan = st :: rest ∧ (stopPairs st).all (pairArrived s) = true) : testArrival s = s := by
  unfold testArrival
  rcases hp : s.trip.plan with - | ⟨st, rest⟩
  · rfl
  · refine if_neg fun ⟨hr, hs, ha⟩ => ?_
    rcases h with h | h | h
    · exact h hr
    · rw [hs] at h
      cases h
    · exact h ⟨st, rest, hp, ha⟩

/-! ## Recovery (R93) -/

theorem takeStage_recovers {old : Stage} {s : State} (ho : 1 ≤ stageRank old) (h : s.trip.state = .TRIPPED) :
    takeStage old .HOLD s = carry recover s := by
  have hrank : ¬ stageRank old < stageRank .HOLD := Nat.not_lt.mpr ho
  unfold takeStage
  rw [if_neg hrank, if_pos ⟨rfl, h⟩]

/-- The state whose berths are gone, from which a recovery gives new ones. -/
def unberthed (s : State) : State := modTrip (fun t => { t with berth := ⟨none, none⟩ }) s

theorem recover_arrives {s : State} {st : Stop} {rest : List Stop} (hp : s.trip.plan = st :: rest)
    (ha : (stopPairs st).all (pairArrived s) = true) : recover s = arriveAt st (unberthed s) := by
  unfold recover
  dsimp only
  rw [hp]
  exact if_pos ha

theorem recover_stands {s : State} (h : ¬ ∃ st rest, s.trip.plan = st :: rest ∧ (stopPairs st).all (pairArrived s) = true) :
    recover s = giveBerthed ((berthFromWindows s .car1).toList ++ (berthFromWindows s .car2).toList).dedup (berthAndStand (unberthed s)) := by
  unfold recover
  dsimp only
  rcases hp : s.trip.plan with - | ⟨st, rest⟩
  · rfl
  · exact if_neg fun ha => h ⟨st, rest, hp, ha⟩

/-- The trip record of berths from the windows (R93). -/
def stoodTrip (s : State) (t : Trip) : Trip :=
  let u := { t with berth := ⟨berthFromWindows s .car1, berthFromWindows s .car2⟩ }
  if atTermini s then tripPark u else tripEnter .HELD u

theorem berthAndStand_eq (s : State) : berthAndStand (unberthed s) = modTrip (stoodTrip s) (unberthed s) := rfl

theorem stoodTrip_berth (s : State) (t : Trip) (k : CarId) : (stoodTrip s t).berth.get k = berthFromWindows s k := by
  unfold stoodTrip
  dsimp only
  split <;> cases k <;> rfl

theorem stoodTrip_kept (s : State) (t : Trip) :
    (stoodTrip s t).hold = t.hold ∧ (stoodTrip s t).number = t.number ∧ (stoodTrip s t).mode = t.mode := by
  unfold stoodTrip
  dsimp only
  split
  · exact ⟨rfl, rfl, rfl⟩
  · exact ⟨rfl, rfl, rfl⟩

theorem stoodTrip_parked {s : State} (h : atTermini s = true) (t : Trip) :
    (stoodTrip s t).state = .PARKED ∧ (stoodTrip s t).plan = [] ∧ (stoodTrip s t).dir =
      if (stoodTrip s t).berth.get .car1 = some 0 then .UP else if (stoodTrip s t).berth.get .car1 = some 1 then .DOWN else t.dir := by
  unfold stoodTrip
  dsimp only
  rw [if_pos h]
  exact ⟨rfl, rfl, rfl⟩

theorem stoodTrip_held {s : State} (h : ¬ atTermini s = true) (t : Trip) :
    (stoodTrip s t).state = .HELD ∧ (stoodTrip s t).plan = t.plan ∧ (stoodTrip s t).dir = t.dir := by
  unfold stoodTrip
  dsimp only
  rw [if_neg h]
  exact ⟨rfl, rfl, rfl⟩

/-- A recovery away from the head stop: berths from the windows, PARKED at the termini, HELD elsewhere (R93). -/
theorem carry_stands {s : State} (h : s.trip.state = .TRIPPED)
    (hn : ¬ ∃ st rest, s.trip.plan = st :: rest ∧ (stopPairs st).all (pairArrived s) = true) : let t := carry recover s
    (∀ k, t.trip.berth.get k = berthFromWindows s k) ∧ BerthedGiven s t (fun x => ∃ k, berthFromWindows s k = some x) ∧ Announced s t ∧
      (atTermini s = true → t.trip.state = .PARKED ∧ t.trip.plan = [] ∧ t.trip.dir =
        if t.trip.berth.get .car1 = some 0 then .UP else if t.trip.berth.get .car1 = some 1 then .DOWN else s.trip.dir) ∧
      (¬ atTermini s = true → t.trip.state = .HELD ∧ t.trip.plan = s.trip.plan ∧ t.trip.dir = s.trip.dir) := by
  intro t
  have hrec := recover_stands hn
  rw [berthAndStand_eq] at hrec
  have ht : (recover s).trip = stoodTrip s (unberthed s).trip := by
    rw [hrec, giveBerthed_trip]
    rfl
  have htt : t.trip = stoodTrip s (unberthed s).trip := (carry_trip recover s).trans ht
  have htp : t.pulses = (recover s).pulses := carry_pulses recover s
  have hannounced : Announced s t := carry_announced (by
    rw [ht, h]
    by_cases ha : atTermini s = true
    · rw [(stoodTrip_parked ha _).1]
      decide
    · rw [(stoodTrip_held ha _).1]
      decide) (by
    obtain ⟨hh, hn, hm⟩ := stoodTrip_kept s (unberthed s).trip
    rw [ht, hh, hn, hm]
    exact ⟨rfl, rfl, rfl⟩)
  clear_value t
  refine ⟨fun k => ?_, fun i => ?_, hannounced, fun ha => ?_, fun ha => ?_⟩
  · rw [htt, stoodTrip_berth]
  · have hmem : ∀ x, x ∈ ((berthFromWindows s .car1).toList ++ (berthFromWindows s .car2).toList).dedup ↔
        ∃ k, berthFromWindows s k = some x := fun x => by
      rw [List.mem_dedup, List.mem_append, Option.mem_toList, Option.mem_toList, exists_car]
    have hgiven := giveBerthed_given (s := s) (b := modTrip (stoodTrip s) (unberthed s)) hmem rfl rfl i
    rw [← hrec, ← htp] at hgiven
    exact hgiven
  · rw [htt]
    exact stoodTrip_parked ha _
  · rw [htt]
    exact stoodTrip_held ha _

theorem atTermini_iff (s : State) : let place (k : CarId) : Int := (s.pos.cars.get k).accumulator.toInt / 1000
    let inside (k : CarId) (x : Halt) : Prop := withinWindow s.active.b x (place k) = true
    atTermini s = true ↔
      (∀ k, (s.pos.cars.get k).referenced = true) ∧ ((inside .car1 0 ∧ inside .car2 1) ∨ (inside .car1 1 ∧ inside .car2 0)) := by
  intro place inside
  unfold atTermini
  simp only [Bool.and_eq_true, Bool.or_eq_true, bothReferenced_iff]
  rfl

/-- Settles O37: the entry to RUNNING, arrival at the head stop, and the recovery from TRIPPED. -/
theorem tripsRunArriveAndRecover : Obligations.TripsRunArriveAndRecover := by
  refine ⟨fun s => ⟨fun h => if_neg h, fun h => ?_⟩, fun s => ?_⟩
  · obtain ⟨htrip, hcleared, hoverrun, hpending, hnone, hannounced⟩ := takeReleased_spec h
    exact ⟨htrip, hcleared.windows, hcleared.queue, hoverrun, hpending, hnone, hannounced⟩
  · intro b place referenced inside uphill ahead arrived fromWindow parkedDir parks announced gives arrives headArrived
    have harrived : ∀ p, pairArrived s p = true ↔ arrived p := by
      intro p
      have hahead : pairDistance s p.car p.halt = ahead p := if_congr (carUphill_iff s.trip.dir p.car) rfl rfl
      rw [pairArrived_iff, hahead]
    have hall : ∀ st : Stop, (stopPairs st).all (pairArrived s) = true ↔ ∀ p ∈ stopPairs st, arrived p := by
      intro st
      rw [List.all_eq_true]
      exact forall₂_congr fun p _ => harrived p
    have hhead : (∃ st rest, s.trip.plan = st :: rest ∧ (stopPairs st).all (pairArrived s) = true) ↔ headArrived :=
      exists₂_congr fun st rest => and_congr_right' (hall st)
    refine ⟨fun hr hs st rest hp ha => ?_, fun h => testArrival_stays (h.imp_right (Or.imp_right (mt hhead.mp))), fun old ho ht => ?_⟩
    · obtain ⟨hberth, htermini, hstop, hgiven, hannounced⟩ := carry_arrival (f := arriveAt st) (b := s) rfl rfl rfl rfl hp
        (by rw [hr]; decide) (by rw [hr]; decide)
      rw [← testArrival_arrives hr hs hp ((hall st).mpr ha)] at hberth htermini hstop hgiven hannounced
      exact ⟨fun k => (hberth k).trans rfl, htermini, hstop, hgiven, hannounced⟩
    · intro t
      have htake : t = carry recover s := takeStage_recovers ho ht
      clear_value t
      refine ⟨fun st rest hp ha => ?_, fun hn => ?_⟩
      · obtain ⟨hberth, htermini, hstop, hgiven, hannounced⟩ := carry_arrival (b := unberthed s)
          (recover_arrives hp ((hall st).mpr ha)) rfl rfl rfl hp (by rw [ht]; decide) (by rw [ht]; decide)
        rw [← htake] at hberth htermini hstop hgiven hannounced
        have hgone : ∀ k, (unberthed s).trip.berth.get k = none := fun k => by cases k <;> rfl
        refine ⟨fun k => (hberth k).trans ?_, htermini, hstop, hgiven, hannounced⟩
        rw [hgone k]
        rfl
      · intro termini
        obtain ⟨hberth, hgiven, hannounced, hparks, hheld⟩ := carry_stands ht (mt hhead.mp hn)
        rw [← htake] at hberth hgiven hannounced hparks hheld
        have hiff : atTermini s = true ↔ termini := atTermini_iff s
        exact ⟨hberth, hgiven, hannounced, fun h => hparks (hiff.mpr h), fun h => hheld (mt hiff.mp h)⟩

end Sys2Proof.Machine
end
